-- ==== Sys2Proof/Word.lean ====
section
/-! DEFINITION. The words of the LT-7420: the fixed-width values its counters, frames and responses hold. -/

namespace Sys2Proof

/-- A travel position: whole millimetres of one travel input, wrapping modulo 16,777,216 (00_scope, "Travel position"). -/
abbrev Pos := BitVec 24

/-- A line address 0 to 31. -/
abbrev Addr := BitVec 5

/-- A tag serial 0 to 2047. -/
abbrev Serial := BitVec 11

/-- A customer lot; 255 is UNKNOWN. -/
abbrev Lot := BitVec 8

/-- An item class 0 to 15; 15 is the unknown class. -/
abbrev Cls := BitVec 4

/-- A lane set as a mask: bit n stands for lane n. -/
abbrev Lanes := BitVec 4

/-- A passage sequence 0 to 7. -/
abbrev Seq := BitVec 3

/-- One byte of a transaction or of a payload. -/
abbrev Byte := BitVec 8

abbrev EyeIx := Fin 8
abbrev ChannelIx := Fin 8
abbrev GateIx := Fin 4
abbrev DestIx := Fin 4
abbrev Lane := Fin 4

end Sys2Proof
end

