-- ==== Sys2Proof/Syntax.lean ====
section
/-! DEFINITION. The commands of the LT-7420: one constructor of `Instr` for each row of spec/opcode_table.json, and the
operands they carry (tags, frame payloads, descriptor items). -/

namespace Sys2Proof

/-- One of the two travel inputs. -/
inductive TravelInput where
  | a
  | b
deriving DecidableEq, Repr

/-- An item's identity on the line: origin address and serial (00_scope, "Tags"). -/
structure Tag where
  origin : Addr
  serial : Serial
deriving DecidableEq, Repr

/-- The six record flags that a HANDOFF carries (R143, R178). -/
structure HandoffFlags where
  reject : Bool
  double : Bool
  stray : Bool
  recovered : Bool
  unverified : Bool
  length : Bool
deriving DecidableEq, Repr

/-- The payload of a RELEASE (R178). The gate-present bit is always 1 and is not an operand. -/
structure ReleaseFrame where
  tag : Tag
  cls : Cls
  gate : GateIx
  lot : Lot
  lanes : Lanes
  reject : Bool
  spacer : Bool
  length : BitVec 12
  offset : BitVec 13
  seq : Seq
deriving DecidableEq, Repr

/-- The payload of a HANDOFF (R178); `gate` is absent where the gate-present bit is 0. -/
structure HandoffFrame where
  tag : Tag
  cls : Cls
  gate : Option GateIx
  lot : Lot
  lanes : Lanes
  flags : HandoffFlags
  length : BitVec 12
  offset : BitVec 13
  seq : Seq
deriving DecidableEq, Repr

/-- The payload of a RESERVE (R178). -/
structure ReserveFrame where
  gate : GateIx
  lanes : Lanes
  lead : BitVec 16
  length : BitVec 16
deriving DecidableEq, Repr

/-- The payload of a LOTMARK (R178); `last` is absent for "none released". -/
structure LotMarkFrame where
  gate : GateIx
  old : Lot
  new : Lot
  last : Option Tag
deriving DecidableEq, Repr

/-- A frame of one of the nine kinds, with its payload fields (R178). -/
inductive Frame where
  | hold (on : Bool) (reason : BitVec 5)
  | lost (tag : Tag) (cause : Byte)
  | mark (tag : Tag) (mark : Byte)
  | handoff (f : HandoffFrame)
  | release (f : ReleaseFrame)
  | reserve (f : ReserveFrame)
  | withdraw (gate : GateIx)
  | lotmark (f : LotMarkFrame)
  | join (role format : Byte)
deriving DecidableEq, Repr

/-- The name of a descriptor item: section, index and field (chapter 12, "The station descriptor"). -/
structure ItemId where
  sec : Byte
  index : Byte
  field : Byte
deriving DecidableEq, Repr

/-- Where a transaction is cut by the rise of SEL (R188): before its last parameter byte, after the bytes given; or during
the response, after that many bytes of it were shifted out. -/
inductive Cut where
  | command (sent : List Byte)
  | response (read : Nat)
deriving DecidableEq, Repr

/-- The commands: one constructor per row of spec/opcode_table.json, in the table's order. -/
inductive Instr where
  | powerOn
  /-- A sample of an input's channel pair; `true` is high. A counted step where one channel has changed. -/
  | travelStep (input : TravelInput) (ch1 ch2 : Bool)
  /-- A sample in which both channels differ from the reference state. -/
  | illegalTransition (input : TravelInput)
  /-- A sample of an eye pin; `true` is high. -/
  | eyeRawChange (eye : EyeIx) (high : Bool)
  | edgeAccepted (eye : EyeIx)
  | jam (eye : EyeIx)
  | pulseRetired (channel : ChannelIx)
  | windowClosure (tag : Tag)
  | deadReckoning (tag : Tag)
  | cleared (tag : Tag)
  | departed (tag : Tag)
  | release (sender : Addr) (f : ReleaseFrame)
  | handoff (sender : Addr) (f : HandoffFrame)
  | lost (sender : Addr) (tag : Tag) (cause : Byte)
  | mark (sender : Addr) (tag : Tag) (mark : Byte)
  | hold (sender : Addr) (on : Bool) (reason : BitVec 5)
  | reserve (sender : Addr) (f : ReserveFrame)
  | withdraw (sender : Addr) (gate : GateIx)
  | lotmark (sender : Addr) (f : LotMarkFrame)
  | joinFrame (sender : Addr) (role format : Byte)
  | busIdle
  | txAttemptStart
  | arbitrationLost
  | busError
  | txComplete
  | lotmarkQueued (gate : GateIx)
  | withdrawQueued (gate : GateIx)
  | holdQueued
  | gateCommit (gate : GateIx)
  | spacerCommit (gate : GateIx)
  | spacerBegun (gate : GateIx)
  | releaseEnd (gate : GateIx)
  | patienceReached (gate : GateIx)
  | reservationSent (gate : GateIx)
  | reservationVoid (gate : GateIx)
  | reservationWithdrawn (gate : GateIx)
  | reservationExpiry (reserver : Addr) (gate : GateIx)
  | stopAsserted
  | stopReleased
  | settleTimerExpiry
  | transactionCut (cut : Cut)
  | unknownCommand (code : Byte)
  | descriptorWrite (item : ItemId) (value : BitVec 32)
  | descriptorRead (item : ItemId)
  | join
  | leave
  | load (gate cls : Byte)
  | unload (gate : Byte)
  | holdSet (gate : Byte)
  | holdClear (gate : Byte)
  | blockSet (gate : Byte)
  | blockClear (gate : Byte)
  | lotChange (gate lot : Byte)
  | gapRequest (gate : Byte)
  | rejectNext (gate : Byte)
  | rejectTag (tag : Tag)
  | lineHoldSet
  | lineHoldClear
  | wrapAck
  | readStatus
  | setAlertMask (mask : Byte)
  | readTrain (index : Byte)
  | readRecord (tag : Tag)
  | readFault
  | clearFaults
  | readLot (slot : Byte)
  | readLotNotice
  | readTravel
  /-- The bits of a frame from its start bit on, as the receiver read them (R176, R184). -/
  | discardedFrame (bits : List Bool)
deriving DecidableEq, Repr

end Sys2Proof
end

