-- ==== Sys2Proof/Decode.lean ====
section
/-! DEFINITION. Bits to commands and back: the frames of the line bus with their CRC (R176 to R178, R184), the
transactions of the SPI port (R188, R189), and `decodeTableWord` over the rows of the opcode table that give bits. -/

namespace Sys2Proof

/-- The bits of a word, most significant first (R176: "every field most significant bit first"). -/
def bitsMsb {n : Nat} (x : BitVec n) : List Bool :=
  (List.range n).map fun i => x.getMsbD i

/-- The word whose bits are given most significant first. -/
def wordMsb (n : Nat) (bits : List Bool) : BitVec n :=
  bits.foldl (fun acc b => (acc <<< (1 : Nat)) ||| BitVec.ofNat n b.toNat) 0

def hiByte (w : BitVec 16) : Byte := w.extractLsb' 8 8
def loByte (w : BitVec 16) : Byte := w.extractLsb' 0 8

/-- A tag as sent: origin in the top five bits, serial in the lower eleven (R178, R188). -/
def Tag.word (t : Tag) : BitVec 16 := t.origin ++ t.serial

def Tag.ofWord (w : BitVec 16) : Tag := ⟨w.extractLsb' 11 5, w.extractLsb' 0 11⟩

def gateBits (g : GateIx) : BitVec 2 := BitVec.ofNat 2 g.val

def gateOfBits (b : BitVec 2) : GateIx := ⟨b.toNat, b.isLt⟩

def oneBit (b : Bool) : BitVec 1 := BitVec.ofBool b

def bitOf {n : Nat} (w : BitVec n) (i : Nat) : Bool := w.getLsbD i

/-! ### Frames of the line bus -/

/-- The kind numbers of R178. -/
def Frame.kind : Frame → BitVec 4
  | .hold .. => 1
  | .lost .. => 2
  | .mark .. => 3
  | .handoff .. => 4
  | .release .. => 5
  | .reserve .. => 6
  | .withdraw .. => 7
  | .lotmark .. => 8
  | .join .. => 9

/-- The payload length of each kind; kinds 0 and 10 to 15 have none (R178). -/
def payloadLength (kind : BitVec 4) : Option Nat :=
  match kind.toNat with
  | 1 => some 2
  | 2 => some 3
  | 3 => some 3
  | 4 => some 10
  | 5 => some 9
  | 6 => some 5
  | 7 => some 1
  | 8 => some 5
  | 9 => some 2
  | _ => none

/-- The six flags of a HANDOFF in byte 5, bits 5 to 0. -/
def HandoffFlags.bits (f : HandoffFlags) : BitVec 6 :=
  oneBit f.length ++ oneBit f.unverified ++ oneBit f.recovered ++ oneBit f.stray ++ oneBit f.double ++ oneBit f.reject

def HandoffFlags.ofBits (b : BitVec 6) : HandoffFlags :=
  { reject := bitOf b 0, double := bitOf b 1, stray := bitOf b 2, recovered := bitOf b 3, unverified := bitOf b 4
    length := bitOf b 5 }

/-- Edge offset in bits 15 to 3, passage sequence in bits 2 to 0 (R178). -/
def offsetSeqWord (offset : BitVec 13) (seq : Seq) : BitVec 16 := offset ++ seq

def lengthWord (length : BitVec 12) : BitVec 16 := (0 : BitVec 4) ++ length

/-- The payload layouts of R178; bits shown as zero are sent as zero. -/
def Frame.payload : Frame → List Byte
  | .hold on reason => [(0 : BitVec 7) ++ oneBit on, (0 : BitVec 3) ++ reason]
  | .lost tag cause => [hiByte tag.word, loByte tag.word, cause]
  | .mark tag m => [hiByte tag.word, loByte tag.word, m]
  | .handoff f =>
    let gate : BitVec 3 := match f.gate with
      | some g => (1 : BitVec 1) ++ gateBits g
      | none => 0
    let tail := offsetSeqWord f.offset f.seq
    let len := lengthWord f.length
    [hiByte f.tag.word, loByte f.tag.word, f.cls ++ (0 : BitVec 1) ++ gate, f.lot, (0 : BitVec 4) ++ f.lanes,
      (0 : BitVec 2) ++ f.flags.bits, hiByte len, loByte len, hiByte tail, loByte tail]
  | .release f =>
    let tail := offsetSeqWord f.offset f.seq
    let len := lengthWord f.length
    [hiByte f.tag.word, loByte f.tag.word, f.cls ++ (1 : BitVec 2) ++ gateBits f.gate, f.lot,
      (0 : BitVec 2) ++ oneBit f.spacer ++ oneBit f.reject ++ f.lanes, hiByte len, loByte len, hiByte tail, loByte tail]
  | .reserve f =>
    [(0 : BitVec 2) ++ gateBits f.gate ++ f.lanes, hiByte f.lead, loByte f.lead, hiByte f.length, loByte f.length]
  | .withdraw g => [(0 : BitVec 6) ++ gateBits g]
  | .lotmark f =>
    let last : BitVec 16 := match f.last with
      | some t => t.word
      | none => 0
    [(0 : BitVec 3) ++ oneBit f.last.isNone ++ (0 : BitVec 2) ++ gateBits f.gate, f.old, f.new, hiByte last, loByte last]
  | .join role format => [role, format]

/-- The frame a payload carries; bits shown as zero are not read (R178). `none` where kind and length do not fit (R184). -/
def Frame.ofPayload (kind : BitVec 4) (bytes : List Byte) : Option Frame :=
  match kind.toNat, bytes with
  | 1, [b0, b1] => some (.hold (bitOf b0 0) (b1.extractLsb' 0 5))
  | 2, [b0, b1, b2] => some (.lost (Tag.ofWord (b0 ++ b1)) b2)
  | 3, [b0, b1, b2] => some (.mark (Tag.ofWord (b0 ++ b1)) b2)
  | 4, [b0, b1, b2, b3, b4, b5, b6, b7, b8, b9] =>
    let gate := if bitOf b2 2 then some (gateOfBits (b2.extractLsb' 0 2)) else none
    some (.handoff {
      tag := Tag.ofWord (b0 ++ b1), cls := b2.extractLsb' 4 4, gate := gate, lot := b3, lanes := b4.extractLsb' 0 4
      flags := HandoffFlags.ofBits (b5.extractLsb' 0 6), length := (b6 ++ b7).extractLsb' 0 12
      offset := (b8 ++ b9).extractLsb' 3 13, seq := (b8 ++ b9).extractLsb' 0 3 })
  | 5, [b0, b1, b2, b3, b4, b5, b6, b7, b8] =>
    some (.release {
      tag := Tag.ofWord (b0 ++ b1), cls := b2.extractLsb' 4 4, gate := gateOfBits (b2.extractLsb' 0 2), lot := b3
      lanes := b4.extractLsb' 0 4, reject := bitOf b4 4, spacer := bitOf b4 5, length := (b5 ++ b6).extractLsb' 0 12
      offset := (b7 ++ b8).extractLsb' 3 13, seq := (b7 ++ b8).extractLsb' 0 3 })
  | 6, [b0, b1, b2, b3, b4] =>
    some (.reserve {
      gate := gateOfBits (b0.extractLsb' 4 2), lanes := b0.extractLsb' 0 4, lead := b1 ++ b2, length := b3 ++ b4 })
  | 7, [b0] => some (.withdraw (gateOfBits (b0.extractLsb' 0 2)))
  | 8, [b0, b1, b2, b3, b4] =>
    some (.lotmark {
      gate := gateOfBits (b0.extractLsb' 0 2), old := b1, new := b2
      last := if bitOf b0 4 then none else some (Tag.ofWord (b3 ++ b4)) })
  | 9, [b0, b1] => some (.join b0 b1)
  | _, _ => none

/-- The check register of R177 after the given bits. -/
def crc (bits : List Bool) : BitVec 16 :=
  bits.foldl (fun reg b =>
    let shifted := reg <<< (1 : Nat)
    if reg.msb = b then shifted else shifted ^^^ 0x1021) 0xFFFF

/-- Arbitration, length and payload fields of a frame: the bits the CRC covers (R176, R177). -/
def Frame.coveredBits (sender : Addr) (f : Frame) : List Bool :=
  bitsMsb f.kind ++ bitsMsb sender ++ bitsMsb (BitVec.ofNat 4 f.payload.length) ++ f.payload.flatMap bitsMsb

/-- A frame as it stands on the bus: the dominant start bit, covered bits, CRC, seven recessive end bits (R176). -/
def Frame.bits (sender : Addr) (f : Frame) : List Bool :=
  false :: (f.coveredBits sender ++ bitsMsb (crc (f.coveredBits sender)) ++ List.replicate 7 true)

/-- The bytes of a payload whose bits are given. -/
def bytesOfBits : Nat → List Bool → List Byte
  | 0, _ => []
  | n + 1, bits => wordMsb 8 (bits.take 8) :: bytesOfBits n (bits.drop 8)

/-- Reception of the bits that follow a start bit (R184). -/
def Frame.receiveBody (bits : List Bool) : Option (Addr × Frame) :=
  let kind := wordMsb 4 (bits.take 4)
  let sender := wordMsb 5 ((bits.drop 4).take 5)
  let n := (wordMsb 4 ((bits.drop 9).take 4)).toNat
  let covered := bits.take (13 + 8 * n)
  let check := wordMsb 16 ((bits.drop (13 + 8 * n)).take 16)
  let fin := bits.drop (29 + 8 * n)
  if n ≤ 12 ∧ bits.length = 36 + 8 * n ∧ check = crc covered ∧ fin.all id ∧ payloadLength kind = some n then
    (Frame.ofPayload kind (bytesOfBits n (bits.drop 13))).map fun f => (sender, f)
  else none

/-- Reception of a frame (R184): the sender and the frame, or `none` where any of the checks fails and the frame is
discarded. The dominant start bit comes first (R176). A length field above 12 is a length error; the bits are then those of
a frame of 12 payload bytes. -/
def Frame.receive : List Bool → Option (Addr × Frame)
  | false :: bits => Frame.receiveBody bits
  | _ => none

/-- The row a received frame is (the table's nine frame rows). -/
def Frame.toInstr (sender : Addr) : Frame → Instr
  | .hold on reason => .hold sender on reason
  | .lost tag cause => .lost sender tag cause
  | .mark tag m => .mark sender tag m
  | .handoff f => .handoff sender f
  | .release f => .release sender f
  | .reserve f => .reserve sender f
  | .withdraw g => .withdraw sender g
  | .lotmark f => .lotmark sender f
  | .join role format => .joinFrame sender role format

/-! ### Transactions of the SPI port -/

/-- The number of parameter bytes of each command code; `none` names no command (R189). -/
def commandParams (code : Byte) : Option Nat :=
  match code.toNat with
  | 0x01 => some 7
  | 0x02 => some 3
  | 0x03 => some 0
  | 0x04 => some 0
  | 0x10 => some 2
  | 0x11 => some 1
  | 0x12 => some 1
  | 0x13 => some 1
  | 0x14 => some 1
  | 0x15 => some 1
  | 0x16 => some 2
  | 0x17 => some 1
  | 0x18 => some 1
  | 0x19 => some 2
  | 0x1A => some 0
  | 0x1B => some 0
  | 0x1C => some 0
  | 0x20 => some 0
  | 0x21 => some 1
  | 0x22 => some 1
  | 0x23 => some 2
  | 0x24 => some 0
  | 0x25 => some 0
  | 0x26 => some 1
  | 0x27 => some 0
  | 0x28 => some 0
  | _ => none

/-- The command that a code with all its parameter bytes is (the command table of R189). -/
def commandOf (code : Byte) (params : List Byte) : Option Instr :=
  match code.toNat, params with
  | 0x01, [a, b, c, v3, v2, v1, v0] => some (.descriptorWrite ⟨a, b, c⟩ (v3 ++ v2 ++ v1 ++ v0))
  | 0x02, [a, b, c] => some (.descriptorRead ⟨a, b, c⟩)
  | 0x03, [] => some .join
  | 0x04, [] => some .leave
  | 0x10, [g, c] => some (.load g c)
  | 0x11, [g] => some (.unload g)
  | 0x12, [g] => some (.holdSet g)
  | 0x13, [g] => some (.holdClear g)
  | 0x14, [g] => some (.blockSet g)
  | 0x15, [g] => some (.blockClear g)
  | 0x16, [g, l] => some (.lotChange g l)
  | 0x17, [g] => some (.gapRequest g)
  | 0x18, [g] => some (.rejectNext g)
  | 0x19, [t1, t0] => some (.rejectTag (Tag.ofWord (t1 ++ t0)))
  | 0x1A, [] => some .lineHoldSet
  | 0x1B, [] => some .lineHoldClear
  | 0x1C, [] => some .wrapAck
  | 0x20, [] => some .readStatus
  | 0x21, [m] => some (.setAlertMask m)
  | 0x22, [i] => some (.readTrain i)
  | 0x23, [t1, t0] => some (.readRecord (Tag.ofWord (t1 ++ t0)))
  | 0x24, [] => some .readFault
  | 0x25, [] => some .clearFaults
  | 0x26, [n] => some (.readLot n)
  | 0x27, [] => some .readLotNotice
  | 0x28, [] => some .readTravel
  | _, _ => none

/-- The bytes the controller sends for a command of the port: code, then parameters; `none` for a row that is no SPI
command. -/
def portBytes : Instr → Option (List Byte)
  | .descriptorWrite i v =>
    some [0x01, i.sec, i.index, i.field, v.extractLsb' 24 8, v.extractLsb' 16 8, v.extractLsb' 8 8, v.extractLsb' 0 8]
  | .descriptorRead i => some [0x02, i.sec, i.index, i.field]
  | .join => some [0x03]
  | .leave => some [0x04]
  | .load g c => some [0x10, g, c]
  | .unload g => some [0x11, g]
  | .holdSet g => some [0x12, g]
  | .holdClear g => some [0x13, g]
  | .blockSet g => some [0x14, g]
  | .blockClear g => some [0x15, g]
  | .lotChange g l => some [0x16, g, l]
  | .gapRequest g => some [0x17, g]
  | .rejectNext g => some [0x18, g]
  | .rejectTag t => some [0x19, hiByte t.word, loByte t.word]
  | .lineHoldSet => some [0x1A]
  | .lineHoldClear => some [0x1B]
  | .wrapAck => some [0x1C]
  | .readStatus => some [0x20]
  | .setAlertMask m => some [0x21, m]
  | .readTrain i => some [0x22, i]
  | .readRecord t => some [0x23, hiByte t.word, loByte t.word]
  | .readFault => some [0x24]
  | .clearFaults => some [0x25]
  | .readLot n => some [0x26, n]
  | .readLotNotice => some [0x27]
  | .readTravel => some [0x28]
  | _ => none

/-- The row a transaction is, from the bytes sent before the response (R188, R189): a command taken with all its
parameters, a command byte that names no command, or a transaction cut before its last parameter byte. `none` where more
bytes are given than the command has. -/
def portDecode : List Byte → Option Instr
  | [] => some (.transactionCut (.command []))
  | code :: params =>
    match commandParams code with
    | none => if params = [] then some (.unknownCommand code) else none
    | some n =>
      if params.length < n then some (.transactionCut (.command (code :: params)))
      else commandOf code params

/-- The command that a word spells by the table's bits: no row of spec/opcode_table.json gives bits, so none does. -/
def decodeTableWord (_nbits _w : Nat) : Option Instr := none

end Sys2Proof
end

