-- ==== Sys2Proof/Config.lean ====
section
/-! DEFINITION. What the part fixes, as named numbers of the spec, and the free values that the spec leaves open. -/

namespace Sys2Proof.Config

/-- The train holds at most 48 records (R52). -/
def trainCapacity : Nat := 48
/-- The transmit queue holds at most 16 frames (R182). -/
def queueCapacity : Nat := 16
/-- Of the queued frames at most 12 are feed-class (R182). -/
def feedCapacity : Nat := 12
/-- A frame is abandoned at its 16th failed attempt (R181). -/
def attemptLimit : Nat := 16
/-- The reservation list holds at most 8 reservations (R114). -/
def reservationCapacity : Nat := 8
/-- The fault list holds 8 records (R199). -/
def faultCapacity : Nat := 8
/-- The overflow count saturates at 255 (R199). -/
def overflowLimit : Nat := 255
/-- Stray credits are capped at 7 (R133). -/
def creditLimit : Nat := 7
/-- An entry's source set holds at most 16 sources (R161). -/
def sourceCapacity : Nat := 16
/-- Departed and reject counts saturate at 65,535 (R161). -/
def lotCountLimit : Nat := 65535
/-- Slip factor limits and its power-on value (R16). -/
def slipMin : Nat := 15360
def slipMax : Nat := 17408
def slipDefault : Nat := 16384
/-- Window half-width limits (R14). -/
def halfWidthMin : Nat := 1
def halfWidthMax : Nat := 2047
/-- A pulse keeps at most four references (R34, R40). -/
def refCapacity : Nat := 4
/-- Lot 255 stands for UNKNOWN, class 15 is the unknown class (00_scope). -/
def unknownLot : Lot := 255
def unknownClass : Cls := 15
/-- The format byte of this part's JOIN frames (R178). -/
def joinFormat : Byte := 1

/-- FREE VALUE (assumption logs 6 and 47): the n-th byte drawn, for the bits of a response that no layout of chapter 12 gives
a meaning to, and for the lead and length of a RESERVE without an own entry. Nothing constrains it. -/
opaque freeByte : Nat → Byte

end Sys2Proof.Config
end

