-- ==== Sys2Proof/Machine/State.lean ====
section
/-! DEFINITION. The state of the LT-7420 as plain data, and its value after power-on reset. Every structure names the
block of chapter 00 that holds it. -/

namespace Sys2Proof.Machine

/-! ### Travel unit (chapter 01) -/

/-- One travel input: the counter, the decoder's reference state (`none`: the next sample is taken as the reference, R1),
and the pitch and inversion in force. -/
structure Travel where
  position : Pos
  fraction : BitVec 12
  /-- Direction of the last counted step; `true` is reverse. -/
  reverse : Bool
  reference : Option (Bool × Bool)
  pitch : BitVec 16
  inverted : Bool
deriving DecidableEq, Repr

/-- MODEL's own field: the counted travel step whose reached positions are still being acted on (R8). -/
structure LastStep where
  input : TravelInput
  before : Pos
  forward : Bool
deriving DecidableEq, Repr

/-! ### Eye unit (chapter 02) -/

inductive Level where
  | clear
  | blocked
deriving DecidableEq, Repr

inductive EyeFunction where
  | feedLength
  | entry
  | exit
  | outletEntry
  | levelHold
deriving DecidableEq, Repr

/-- An eye's settings in force (settings table of chapter 02). -/
structure EyeSettings where
  enable : Bool
  input : TravelInput
  lane : Lane
  function : EyeFunction
  gate : GateIx
  offset : Int
  filter : Nat
  /-- Set: a low pin is BLOCKED (R21). -/
  polarity : Bool
  jamLength : Nat
deriving DecidableEq, Repr

/-- A candidate change: its new level, the snapshot of both positions, and the persisted distance (R22). -/
structure Candidate where
  level : Level
  snapA : Pos
  snapB : Pos
  dist : Nat
deriving DecidableEq, Repr

structure Eye where
  set : EyeSettings
  pinHigh : Bool
  accepted : Level
  candidate : Option Candidate
  /-- Blocked-distance count; absent while none is kept (R28). -/
  blockedDist : Option Nat
  jammed : Bool
deriving DecidableEq, Repr

/-! ### Pulse channels (chapter 03) -/

inductive PulseMode where
  | merge
  | distinct
deriving DecidableEq, Repr

inductive Owner where
  | none
  | gate (g : GateIx)
  | divert (d : DestIx)
  | stack (d : DestIx)
deriving DecidableEq, Repr

/-- A pulse: the span [start, stop), its references and its started field (R34). -/
structure Pulse where
  start : Pos
  stop : Pos
  refs : List Tag
  started : Bool
deriving DecidableEq, Repr

structure Channel where
  input : TravelInput
  mode : PulseMode
  owner : Owner
  active : Option Pulse
  next : Option Pulse
  /-- The output pin O0 to O7; `true` is high (R35). -/
  output : Bool
deriving DecidableEq, Repr

/-! ### Item train (chapter 04) -/

inductive Stage where
  | pending
  | entering
  | inside
  | leaving
deriving DecidableEq, Repr

/-- The ten flags of a record (R48). -/
structure Flags where
  reject : Bool := false
  double : Bool := false
  stray : Bool := false
  recovered : Bool := false
  unverified : Bool := false
  lateAnnounce : Bool := false
  length : Bool := false
  spacer : Bool := false
  own : Bool := false
  lotUntracked : Bool := false
deriving DecidableEq, Repr

/-- An item record (R47). `order` is the MODEL's own: its place by admission or creation (R51). -/
structure Record where
  tag : Tag
  cls : Cls
  lot : Lot
  gate : Option GateIx
  lanes : Lanes
  nominal : Nat
  measured : Option Nat
  stage : Stage
  basis : TravelInput
  p : Pos
  h : Nat
  lead : Option Pos
  entryB : Option Pos
  dest : Option DestIx
  flags : Flags
  order : Nat
deriving DecidableEq, Repr

/-- A closure that waits on an eye's candidate (R84), and whether its record has gained UNVERIFIED while it waited. -/
structure Waiting where
  eye : EyeIx
  tag : Tag
  widened : Bool
deriving DecidableEq, Repr

/-! ### Gate unit and space unit (chapters 06 and 07) -/

/-- A gate's settings in force (settings table of chapter 06). -/
structure GateSettings where
  enable : Bool
  lanes : Lanes
  channel : Option ChannelIx
  wait : Nat
  active : Nat
  patience : Nat
  lead : Nat
  spacerLength : Nat
  autoHold : Bool
  initialLot : Lot
deriving DecidableEq, Repr

inductive GateState where
  | empty
  | ready
  | releasing
deriving DecidableEq, Repr

/-- The contents of a gate's LOTMARK (R105). -/
structure LotMark where
  old : Lot
  new : Lot
  last : Option Serial
deriving DecidableEq, Repr

inductive MarkState where
  | none
  | waiting (m : LotMark)
  | queued (m : LotMark)
deriving DecidableEq, Repr

/-- The release of a RELEASING gate (R97, R98). -/
structure Release where
  commit : Pos
  stop : Pos
  tag : Tag
  spacer : Bool
  begun : Bool
  prevRejectNext : Bool
  prevLast : Option Serial
deriving DecidableEq, Repr

structure Gate where
  set : GateSettings
  state : GateState
  cls : Option Cls
  /-- Unset until the first JOIN at which the gate is enabled (R93, R111). -/
  lot : Option Lot
  lastRelease : Option Serial
  hold : Bool
  block : Bool
  lock : Bool
  holdPending : Bool
  lotPending : Option Lot
  gapRequest : Bool
  rejectNext : Bool
  mark : MarkState
  release : Option Release
  /-- Space unit: patience count (R115). -/
  patienceCount : Nat
  /-- Space unit: a WITHDRAW is pending for this gate (R119). -/
  withdrawPending : Bool
deriving DecidableEq, Repr

inductive ReservationPhase where
  | queued
  | standing
deriving DecidableEq, Repr

/-- An entry of the reservation list (R114). -/
structure Reservation where
  reserver : Addr
  gate : GateIx
  lanes : Lanes
  start : Pos
  stop : Pos
  own : Bool
  phase : ReservationPhase
deriving DecidableEq, Repr

/-! ### Transit and outlet units (chapters 08 and 09) -/

/-- The IRONER section in force (R138). -/
structure IronerSettings where
  pathLength : Nat
  slipInitial : Nat
  learning : Bool
  reload : Bool
deriving DecidableEq, Repr

/-- One destination's settings in force (R149). -/
structure DestSettings where
  divert : Option ChannelIx
  xd : Nat
  mb : Nat
  ma : Nat
  stackSize : Nat
  stackChannel : Option ChannelIx
  stackWait : Nat
  stackActive : Nat
deriving DecidableEq, Repr

inductive ClosureReason where
  | lotSwitch
  | full
  | lotEnd
deriving DecidableEq, Repr

structure LastClosure where
  lot : Lot
  count : Nat
  reason : ClosureReason
deriving DecidableEq, Repr

/-- A destination: settings in force and stack state (R150). `owed` is the MODEL's own: a closure whose stack trigger waits for
forward travel (R159, assumption log 43). -/
structure Dest where
  set : DestSettings
  count : Nat
  stackLot : Lot
  last : Option LastClosure
  owed : Option LastClosure
deriving DecidableEq, Repr

/-! ### Lot unit (chapter 10) -/

inductive EndMark where
  | absent
  | serial (s : Serial)
  | noneReleased
deriving DecidableEq, Repr

structure Source where
  origin : Addr
  gate : GateIx
  endMark : EndMark
  highest : Option Serial
deriving DecidableEq, Repr

inductive LotState where
  | opened
  | closing
  | closed
deriving DecidableEq, Repr

structure LotEntry where
  lot : Lot
  state : LotState
  inFlight : Nat
  sources : List Source
  incomplete : Bool
  departed : Nat
  rejects : Nat
  noticeUnread : Bool
deriving DecidableEq, Repr

/-! ### Bus unit (chapters 08 and 11) -/

/-- A watch entry: its place in the descriptor's watch list, settings in force, expected sequence (`none`: unsynchronised)
and stray credits (R130, R132). -/
structure WatchEntry where
  place : Fin 8
  address : Addr
  offset : Int
  expected : Option Seq
  credits : Nat
deriving DecidableEq, Repr

/-- A frame of the transmit queue: its fields (the edge offset, lead, sequence and HANDOFF flags as last filled), the sender
address of its last attempt (R176), the edge position its offset describes, failed attempts, whether the sequence is
stamped, whether its attempt is under way, whether it is a void RESERVE left to its attempt (R183), and whether it stands
from before a LEAVE (R187). -/
structure TxFrame where
  frame : Frame
  sender : Addr
  edge : Pos
  failed : Nat
  stamped : Bool
  underWay : Bool
  void : Bool
  orphan : Bool
deriving DecidableEq, Repr

structure JoinHeard where
  address : Addr
  role : Byte
  format : Byte
deriving DecidableEq, Repr

/-! ### Port and control unit (chapter 12) -/

inductive TrackerState where
  | config
  | joining
  | running
  | stopped
  | conflict
deriving DecidableEq, Repr

inductive Role where
  | feed
  | ironer
  | outlet
deriving DecidableEq, Repr

/-- Join settling: has the 100 ms timer expired, has the own JOIN been heard back (R192, R193). -/
structure Settling where
  expired : Bool
  heard : Bool
deriving DecidableEq, Repr

/-- One class of the class table. -/
structure ClassSettings where
  nominal : Nat
  tolerance : Nat
  gap : Nat
  dest : DestIx
deriving DecidableEq, Repr

/-- The 23 fault kinds, in the order of their codes (chapter 12, "The fault list"). -/
inductive FaultKind where
  | missed
  | wrap
  | cleared
  | stray
  | double
  | length
  | releaseFail
  | trainFull
  | duplicateTag
  | missingAnnounce
  | lateAnnounce
  | jam
  | encoderSkip
  | divertBusy
  | lateDivert
  | stackBusy
  | lotTableFull
  | lotReopened
  | noticeLost
  | txOverrun
  | txAbandoned
  | addressConflict
  | stopAbort
deriving DecidableEq, Repr

/-- The unit a fault names (fault layout, byte 8). -/
inductive FaultUnit where
  | eye (e : EyeIx)
  | gate (g : GateIx)
  | channel (c : ChannelIx)
  | destination (d : DestIx)
  | travel (i : TravelInput)
deriving DecidableEq, Repr

/-- A fault record (R199). -/
structure FaultRecord where
  kind : FaultKind
  position : Pos
  input : TravelInput
  tag : Option Tag := none
  lot : Option Lot := none
  unit : Option FaultUnit := none
  count : Option Nat := none
deriving DecidableEq, Repr

/-- Number of items of the descriptor store (R190). -/
abbrev storeSize : Nat := 264

/-- The descriptor store: one value for each item, in the order of section, index and field. -/
abbrev Store := Vector (BitVec 32) storeSize

/-! ### The whole tracker -/

/-- Everything the spec gives the tracker to hold, the queue of commands (assumption log 1), and five fields of the model's
own: `lastStep` (log 4), `freshWindows` (log 22), `undoneReserves` (log 46), `admissions` (log 28) and `freeDraws` (log
6). -/
structure State where
  -- travel unit
  travelA : Travel
  travelB : Travel
  lastStep : Option LastStep
  freshWindows : List Tag
  undoneReserves : List GateIx
  -- eye unit, pulse channels
  eyes : Vector Eye 8
  channels : Vector Channel 8
  -- item train and matcher
  train : List Record
  admissions : Nat
  serial : Serial
  waiting : List Waiting
  -- gate unit and space unit
  gates : Vector Gate 4
  reservations : List Reservation
  -- hold unit
  holders : Vector (Option (BitVec 5)) 32
  trainCause : Bool
  lineHold : Bool
  announced : Bool
  announcedReason : BitVec 5
  highMark : Nat
  lowMark : Nat
  -- transit unit
  slip : Nat
  slipLoaded : Bool
  ironer : Option IronerSettings
  wrapAlarm : Bool
  exitRejectNext : Bool
  -- outlet unit
  dests : Vector Dest 4
  rejectDest : DestIx
  doubtfulToClass : Bool
  -- lot unit
  lots : Vector (Option LotEntry) 16
  closureList : List (Fin 16)
  -- bus unit
  queue : List TxFrame
  busIdle : Bool
  passageSeq : Seq
  watch : List WatchEntry
  address : Option Addr
  lastJoin : Option JoinHeard
  -- port and control unit
  mode : TrackerState
  role : Option Role
  store : Store
  baseWidth : Nat
  propWidth : Nat
  classes : Vector ClassSettings 16
  settling : Option Settling
  stopPin : Bool
  alertMask : Byte
  alertPin : Bool
  faults : List FaultRecord
  overflow : Nat
  response : List Byte
  -- the model's own
  freeDraws : Nat
  pending : List Instr
deriving DecidableEq, Repr

/-- The reasons a step can stop with a fault. There are none: the spec gives no event at which the part stops. Its own
faults are records of the fault list (R199), part of `State`. Safe. -/
inductive Fault where
deriving DecidableEq, Repr

/-- The reasons a step can be refused. -/
inductive Refusal where
  /-- Raised by an arm of `exec` whose command has no meaning yet; no arm raises it. Safe. -/
  | notModelled (mnemonic : String)
deriving DecidableEq, Repr

/-! ### Power-on values -/

/-- R6. The reference state is the spec's "taken from the next sample" (assumption log 18). -/
def Travel.reset : Travel :=
  { position := 0, fraction := 0, reverse := false, reference := none, pitch := 0, inverted := false }

/-- R32: the settings of a disabled eye; its other fields are named by assumption log 17, its pin by 15. -/
def Eye.reset : Eye :=
  { set := { enable := false, input := .a, lane := 0, function := .feedLength, gate := 0, offset := 0, filter := 0
             polarity := false, jamLength := 0 }
    pinHigh := false, accepted := .clear, candidate := none, blockedDist := none, jammed := false }

/-- R46. -/
def Channel.reset : Channel :=
  { input := .a, mode := .distinct, owner := .none, active := none, next := none, output := false }

/-- R111, R124; the settings fields are named by assumption log 17. -/
def Gate.reset : Gate :=
  { set := { enable := false, lanes := 0, channel := none, wait := 0, active := 0, patience := 0, lead := 0
             spacerLength := 0, autoHold := false, initialLot := 0 }
    state := .empty, cls := none, lot := none, lastRelease := none, hold := false, block := false, lock := false
    holdPending := false, lotPending := none, gapRequest := false, rejectNext := false, mark := .none, release := none
    patienceCount := 0, withdrawPending := false }

/-- R160: names no channel, count 0, stack lot 255, last closure absent; distances by assumption log 17. -/
def Dest.reset : Dest :=
  { set := { divert := none, xd := 0, mb := 0, ma := 0, stackSize := 0, stackChannel := none, stackWait := 0
             stackActive := 0 }
    count := 0, stackLot := 255, last := none, owed := none }

/-- Assumption log 17: the class table in force before the first JOIN. -/
def ClassSettings.reset : ClassSettings := { nominal := 0, tolerance := 0, gap := 0, dest := 0 }

/-- The descriptor store at power-on (R190): every item 0, except F0 (9/0/2) 16,384, the reject destination (11/0/1) 3 and
the high water mark (7/0/1) 48. Items stand in the order of section, index and field. -/
def storeReset : Store :=
  ((Vector.replicate storeSize 0).set 168 48 |>.set 211 16384).set 246 3

/-- The tracker after power-on (R6, R32, R46, R67, R92, R111, R124, R129, R148, R160, R173, R187, R190, R198, R199). -/
def State.reset : State :=
  { travelA := Travel.reset, travelB := Travel.reset, lastStep := none, freshWindows := [], undoneReserves := []
    eyes := Vector.replicate 8 Eye.reset, channels := Vector.replicate 8 Channel.reset
    train := [], admissions := 0, serial := 0, waiting := []
    gates := Vector.replicate 4 Gate.reset, reservations := []
    holders := Vector.replicate 32 none, trainCause := false, lineHold := false, announced := false
    announcedReason := 0, highMark := 48, lowMark := 0
    slip := Config.slipDefault, slipLoaded := false, ironer := none, wrapAlarm := false, exitRejectNext := false
    dests := Vector.replicate 4 Dest.reset, rejectDest := 3, doubtfulToClass := false
    lots := Vector.replicate 16 none, closureList := []
    queue := [], busIdle := false, passageSeq := 0, watch := [], address := none, lastJoin := none
    mode := .config, role := none, store := storeReset, baseWidth := 0, propWidth := 0
    classes := Vector.replicate 16 ClassSettings.reset, settling := none, stopPin := false, alertMask := 0
    alertPin := false, faults := [], overflow := 0, response := [], freeDraws := 0, pending := [] }

end Sys2Proof.Machine
end

