-- ==== Sys2Proof/Machine/Arith.lean ====
section
/-! DEFINITION. Travel and position arithmetic (chapter 01): counted steps, signed differences, spans, edge offsets, window
half-widths, the ironer prediction and the slip lesson. -/

namespace Sys2Proof.Machine

/-- The signed difference diff(a, b) (R7). -/
def diff (a b : Pos) : Int := (a - b).toInt

/-- A position plus a distance, modulo 16,777,216 (R7). -/
def Pos.plus (p : Pos) (d : Int) : Pos := p + BitVec.ofInt 24 d

/-- "At or past" (R7). -/
def atOrPast (a b : Pos) : Bool := decide (0 ≤ diff a b)

/-- The span [s, e) contains x (R7). -/
def inSpan (x s e : Pos) : Bool := decide (0 ≤ diff x s) && decide (0 < diff e x)

/-- The closed range [lo, hi] contains x (R7). -/
def inRange (x lo hi : Pos) : Bool := decide (0 ≤ diff x lo) && decide (0 ≤ diff hi x)

/-- Two segments [a, b) and [x, y) overlap (R114). -/
def overlaps (a b x y : Pos) : Bool := decide (diff a y < 0) && decide (diff x b < 0)

/-- Lane sets that intersect. -/
def lanesMeet (m n : Lanes) : Bool := (m &&& n) != 0

/-- The reference lane: the lowest lane of a lane set (R47). -/
def refLane (m : Lanes) : Lane :=
  if m.getLsbD 0 then 0 else if m.getLsbD 1 then 1 else if m.getLsbD 2 then 2 else 3

def hasLane (m : Lanes) (l : Lane) : Bool := m.getLsbD l.val

/-- 11-bit signed difference of serials (chapter 10). -/
def serialDiff (a b : Serial) : Int := (a - b).toInt

def serialPast (a b : Serial) : Bool := decide (0 < serialDiff a b)

def serialAtOrPast (a b : Serial) : Bool := decide (0 ≤ serialDiff a b)

/-! ### Counted steps -/

/-- The next state of the channel pair in the sequence in which channel 1 leads channel 2 (table of R2). -/
def leadNext : Bool × Bool → Bool × Bool
  | (false, false) => (true, false)
  | (true, false) => (true, true)
  | (true, true) => (false, true)
  | (false, true) => (false, false)

/-- What a sample of the channel pair is (R2). -/
inductive Decoded where
  | nothing
  | step (reverse : Bool)
  | illegal
deriving DecidableEq, Repr

/-- Decoding a sample against the reference state (R2): channel 1 leading is forward with the inversion clear. -/
def decodeSample (inverted : Bool) (ref sample : Bool × Bool) : Decoded :=
  if sample = ref then .nothing
  else if sample.1 ≠ ref.1 ∧ sample.2 ≠ ref.2 then .illegal
  else .step (if sample = leadNext ref then inverted else !inverted)

/-- Position and fraction as one count of 1/4096 mm that wraps modulo 2^36 (R3). -/
def Travel.count (t : Travel) : BitVec 36 := t.position ++ t.fraction

/-- A counted step (R3, R4): the count moves by the pitch in force and the direction is the step's. -/
def Travel.counted (t : Travel) (reverse : Bool) : Travel :=
  let pitch := t.pitch.setWidth 36
  let count := if reverse then t.count - pitch else t.count + pitch
  { t with position := count.extractLsb' 12 24, fraction := count.extractLsb' 0 12, reverse := reverse }

/-! ### Edge offsets (R10 to R12) -/

/-- The 13-bit edge offset field sent: diff(T_tx, edge position) clamped to −4,096..+4,095 (R10). -/
def edgeOffset (tx edge : Pos) : BitVec 13 := BitVec.ofInt 13 (max (-4096) (min 4095 (diff tx edge)))

/-- The expected crossing of the receiver's reference line (R11). -/
def decodedCrossing (rx : Pos) (d : Int) (offset : BitVec 13) : Pos := Pos.plus rx (d - offset.toInt)

/-- A field of exactly +4,095 is saturated (R12). -/
def saturated (offset : BitVec 13) : Bool := decide (offset.toInt = 4095)

/-! ### Windows (R13, R14) -/

def clampHalf (n : Nat) : Nat := max Config.halfWidthMin (min Config.halfWidthMax n)

/-- Base value of the window half-width; a negative d counts as 0 (R13). -/
def baseHalf (wb wp : Nat) (d : Int) : Nat := wb + d.toNat * wp / 1024

/-- Window half-width: doubled once for a doubtful record, then clamped (R14). -/
def halfWidth (wb wp : Nat) (d : Int) (doubled : Bool) : Nat :=
  clampHalf (if doubled then 2 * baseHalf wb wp d else baseHalf wb wp d)

/-! ### Ironer prediction and slip (R17, R18) -/

/-- Predicted entry-to-exit travel on input B, rounded half up (R17). -/
def predictedTravel (pathLength slip : Nat) : Nat := (pathLength * slip + 8192) / 16384

/-- The measured ratio, rounded half up and clamped (R18). -/
def measuredRatio (pathLength m : Nat) : Nat :=
  max Config.slipMin (min Config.slipMax ((m * 16384 + pathLength / 2) / pathLength))

/-- The learning step (R18): F moves one eighth of the way toward r, rounding toward minus infinity. -/
def learnedSlip (pathLength slip : Nat) (exitB entryB : Pos) : Nat :=
  let m := diff exitB entryB
  if m ≤ 0 then slip
  else ((slip : Int) + ((measuredRatio pathLength m.toNat : Int) - slip) / 8).toNat

end Sys2Proof.Machine
end

