-- ==== Sys2Proof/Machine/Flags.lean ====
section
/-! DEFINITION. The ten flags of a record as bits (record layout), the flags that travel in a HANDOFF, and how a record
gains UNVERIFIED (R14, R48). -/

namespace Sys2Proof.Machine

/-- Flags word of the record layout: bits 0 to 9. -/
def Flags.bits (f : Flags) : BitVec 10 :=
  oneBits [f.lotUntracked, f.own, f.spacer, f.length, f.lateAnnounce, f.unverified, f.recovered, f.stray, f.double, f.reject]
where
  /-- Flags listed from bit 9 down to bit 0. -/
  oneBits (l : List Bool) : BitVec 10 := l.foldl (fun acc b => (acc <<< (1 : Nat)) ||| BitVec.ofNat 10 b.toNat) 0

/-- The six flags a HANDOFF carries (R143). -/
def Flags.handoff (f : Flags) : HandoffFlags :=
  { reject := f.reject, double := f.double, stray := f.stray, recovered := f.recovered, unverified := f.unverified
    length := f.length }

/-- The flags of a record admitted from a HANDOFF (R55), with LATE_ANNOUNCE for a saturated offset (R12). -/
def Flags.ofHandoff (h : HandoffFlags) (late : Bool) : Flags :=
  { reject := h.reject, double := h.double, stray := h.stray, recovered := h.recovered, unverified := h.unverified
    length := h.length, lateAnnounce := late }

/-- A record whose computed half-width is doubled (R14). -/
def Flags.doubles (f : Flags) : Bool := f.unverified || f.lateAnnounce

/-- A record clean for the slip lesson carries none of these (R142). -/
def Flags.dirty (f : Flags) : Bool := f.double || f.stray || f.unverified || f.lateAnnounce || f.length

/-- A doubtful flag for routing (R151). -/
def Flags.doubtful (f : Flags) : Bool := f.double || f.stray || f.unverified || f.length

def Record.reject (r : Record) : Record := { r with flags := { r.flags with reject := true } }

/-- DOUBLE and REJECT, as a double sets them (R85). -/
def Record.doubled (r : Record) : Record := { r with flags := { r.flags with double := true, reject := true } }

/-- Gaining UNVERIFIED (R65, R14): H is doubled and clamped where the record carried neither doubling flag. -/
def Record.unverify (r : Record) : Record :=
  { r with
    h := if r.flags.doubles then r.h else clampHalf (2 * r.h)
    flags := { r.flags with unverified := true } }

/-- "The length" of a record: measured when present, otherwise nominal, with 0 used as 1 (R47). -/
def Record.nominalUsed (r : Record) : Nat := max 1 r.nominal

def Record.len (r : Record) : Nat := r.measured.getD r.nominalUsed

def Record.lane (r : Record) : Lane := refLane r.lanes

end Sys2Proof.Machine
end

