-- ==== Sys2Proof/Machine/Operands.lean ====
section
/-! DEFINITION. The operands of the port's commands: the items of the station descriptor (R190), JOIN validation (R191),
the settings that a JOIN loads from the store (R192), and the gate a gate command names (R93). -/

namespace Sys2Proof.Machine

/-- First slot, number of indices and number of fields of each section of the descriptor table. -/
def sectionShape (sec : Nat) : Option (Nat × Nat × Nat) :=
  match sec with
  | 1 => some (0, 1, 2)
  | 2 => some (2, 2, 2)
  | 3 => some (6, 8, 9)
  | 4 => some (78, 1, 2)
  | 5 => some (80, 8, 3)
  | 6 => some (104, 16, 4)
  | 7 => some (168, 1, 2)
  | 8 => some (170, 4, 10)
  | 9 => some (210, 1, 4)
  | 10 => some (214, 4, 8)
  | 11 => some (246, 1, 2)
  | 12 => some (248, 8, 2)
  | _ => none

/-- The slot of the store that an item stands in; `none` for an identifier outside the table. -/
def itemSlot (sec index field : Nat) : Option (Fin storeSize) :=
  match sectionShape sec with
  | none => none
  | some (base, indices, fields) =>
    if index < indices ∧ 1 ≤ field ∧ field ≤ fields then
      let n := base + index * fields + (field - 1)
      if h : n < storeSize then some ⟨n, h⟩ else none
    else none

def ItemId.slot (i : ItemId) : Option (Fin storeSize) := itemSlot i.sec.toNat i.index.toNat i.field.toNat

/-- The stored value of an item as a two's-complement number. -/
def Store.val (st : Store) (sec index field : Nat) : Int :=
  match itemSlot sec index field with
  | some k => (st[k]).toInt
  | none => 0

/-! ### JOIN validation (R191) -/

def flagOk (v : Int) : Bool := decide (v = 0 ∨ v = 1)

def within (v lo hi : Int) : Bool := decide (lo ≤ v ∧ v ≤ hi)

/-- The channel that a channel field names; 8 and anything else name none. -/
def channelNamed (v : Int) : Option ChannelIx :=
  if h : v.toNat < 8 ∧ 0 ≤ v then some ⟨v.toNat, h.1⟩ else none

def Store.role (st : Store) : Option Role :=
  match st.val 1 0 2 with
  | 1 => some .feed
  | 2 => some .ironer
  | 3 => some .outlet
  | _ => none

def Store.eyeEnabled (st : Store) (e : Nat) : Bool := decide (st.val 3 e 1 = 1)

def Store.gateEnabled (st : Store) (g : Nat) : Bool := decide (st.val 8 g 1 = 1)

/-- The channel fields of the role section, in the order of their items, with the owner each names (R33): "counting every
gate channel field, divert channel field and stack channel field of the role section". The fields of gates that are not
enabled count too at a FEED tracker (assumption log 8); at an OUTLET the gates are not the role section. -/
def Store.bindings (st : Store) : List (Nat × Nat × Owner × Option ChannelIx) :=
  match st.role with
  | some .feed =>
    ([0, 1, 2, 3] : List (Fin 4)).map fun g => (8 * 16 + g.val, 3, .gate g, channelNamed (st.val 8 g.val 3))
  | some .outlet =>
    ([0, 1, 2, 3] : List (Fin 4)).flatMap fun d =>
      [(10 * 16 + d.val, 1, .divert d, channelNamed (st.val 10 d.val 1)),
        (10 * 16 + d.val, 6, .stack d, channelNamed (st.val 10 d.val 6))]
  | _ => []

/-- The owner that the role section names for a channel (R33). -/
def Store.ownerOf (st : Store) (c : ChannelIx) : Owner :=
  match st.bindings.find? fun b => b.2.2.2 == some c with
  | some b => b.2.2.1
  | none => .none

/-- No channel field before the given one (key of section and index, field) names the same channel (R33). -/
def Store.firstNamed (st : Store) (key field : Nat) (v : Int) : Bool :=
  match channelNamed v with
  | none => true
  | some c => (st.bindings.takeWhile fun b => !(b.1 == key && b.2.1 == field)).all fun b => b.2.2.2 != some c

/-- Is the destination the class destination of some class of the class table (R149)? -/
def Store.classUses (st : Store) (d : Nat) : Bool :=
  (List.range 16).any fun c => decide (st.val 6 c 4 = d)

/-- Is eye e an enabled FEED_LENGTH eye that names gate g? -/
def Store.eyeNames (st : Store) (g e : Nat) : Bool :=
  st.eyeEnabled e && decide (st.val 3 e 4 = 0 ∧ st.val 3 e 5 = g)

/-- R20's "gate fits", its part on the gate's enable: where a FEED_LENGTH eye names the gate, it is enabled. -/
def Store.namedEnabled (st : Store) (g : Nat) : Bool := st.gateEnabled g || (List.range 8).all fun e => !st.eyeNames g e

/-- R20's "gate fits", its part on the gate's lanes: they hold the lane of every FEED_LENGTH eye that names the gate. -/
def Store.lanesFit (st : Store) (g : Nat) : Bool :=
  (List.range 8).all fun e => !st.eyeNames g e || (BitVec.ofInt 4 (st.val 8 g 2)).getLsbD (st.val 3 e 3).toNat

/-- Conditions on one eye (R20), field by field. Each is answered with the last item it reads (R191); "gate fits" reads gate
items last and stands with them (assumption log 7). -/
def Store.eyeConditions (st : Store) (e : Nat) : List Bool :=
  let on := st.eyeEnabled e
  let fn := st.val 3 e 4
  let input := st.val 3 e 2
  let fitsRole := match st.role with
    | some .feed => decide (fn = 0 ∨ fn = 4)
    | some .ironer => decide (fn = 1 ∨ fn = 2 ∨ fn = 4)
    | some .outlet => decide (fn = 3 ∨ fn = 4)
    | none => false
  let fitsInput := decide (fn = 4 ∨ (fn = 2 ∧ input = 1) ∨ (fn ≠ 2 ∧ input = 0))
  let unique := decide (fn = 4) ||
    (List.range e).all fun k => !(st.eyeEnabled k && decide (st.val 3 k 4 = fn ∧ st.val 3 k 3 = st.val 3 e 3))
  [flagOk (st.val 3 e 1), flagOk input && (!on || decide (st.val 2 input.toNat 1 ≠ 0)), within (st.val 3 e 3) 0 3,
    within fn 0 4 && (!on || (fitsRole && fitsInput && unique)),
    within (st.val 3 e 5) 0 3, within (st.val 3 e 6) (-4000) 4000, within (st.val 3 e 7) 0 31, flagOk (st.val 3 e 8), within (st.val 3 e 9) 100 8000]

/-- Conditions on one watch entry (R130). -/
def Store.watchConditions (st : Store) (w : Nat) : List Bool :=
  let on := decide (st.val 5 w 1 = 1)
  let addr := st.val 5 w 2
  let unique := (List.range w).all fun k => !decide (st.val 5 k 1 = 1 ∧ st.val 5 k 2 = addr)
  [flagOk (st.val 5 w 1), !on || (within addr 0 31 && decide (addr ≠ st.val 1 0 1) && unique),
    !on || within (st.val 5 w 3) (-32000) 32000]

/-- Conditions on one gate (R93, R115), R20's "gate fits" for the eyes that name it, and at a FEED tracker R33's test of its
channel field. -/
def Store.gateConditions (st : Store) (g : Nat) : List Bool :=
  let on := st.gateEnabled g
  let feed := decide (st.role = some .feed)
  let w := st.val 8 g 4
  let a := st.val 8 g 5
  let someGate := (List.range 4).any st.gateEnabled
  [flagOk (st.val 8 g 1) && (!on || feed) && (g != 3 || !feed || someGate) && st.namedEnabled g,
    !on || (within (st.val 8 g 2) 1 15 && st.lanesFit g),
    (!on || within (st.val 8 g 3) 0 7) && (!feed || st.firstNamed (8 * 16 + g) 3 (st.val 8 g 3)),
    !on || within w 0 3999, !on || (within a 1 4000 && decide (w + a ≤ 4000)), !on || within (st.val 8 g 6) 0 65535,
    !on || (within (st.val 8 g 7) 0 4000 && (decide (st.val 8 g 6 = 0) || decide (w + a < st.val 8 g 7))),
    !on || within (st.val 8 g 8) 1 4095, !on || flagOk (st.val 8 g 9), !on || within (st.val 8 g 10) 0 254]

/-- Conditions on one destination (R149, R33). -/
def Store.destConditions (st : Store) (d : Nat) : List Bool :=
  let divert := st.val 10 d 1
  let stack := st.val 10 d 6
  [within divert 0 8 && (d != 0 || (channelNamed divert).isNone) &&
      (d == 0 || !st.classUses d || (channelNamed divert).isSome) && st.firstNamed (10 * 16 + d) 1 divert,
    within (st.val 10 d 2) 0 8000, within (st.val 10 d 3) 0 1000, within (st.val 10 d 4) 0 1000,
    within (st.val 10 d 5) 0 255,
    within stack 0 8 && (decide (st.val 10 d 5 = 0) || (channelNamed stack).isSome) &&
      st.firstNamed (10 * 16 + d) 6 stack,
    within (st.val 10 d 7) 0 4000, within (st.val 10 d 8) 1 4000]

/-- Conditions on one channel: ranges, and the bindings of R33. -/
def Store.channelConditions (st : Store) (c : ChannelIx) : List Bool :=
  let input := st.val 12 c.val 1
  let mode := st.val 12 c.val 2
  let owner := st.ownerOf c
  let distinctOnly := match owner with
    | .gate _ => true
    | .stack _ => true
    | _ => false
  [flagOk input && (owner == .none || decide (input = 0 ∧ st.val 2 0 1 ≠ 0)),
    flagOk mode && (!distinctOnly || decide (mode = 1))]

/-- The conditions of one section and index, field by field (R191's condition table). Sections that the role does not
check hold. -/
def Store.conditionsAt (st : Store) (sec index : Nat) : List Bool :=
  match sec with
  | 1 => [within (st.val 1 0 1) 0 31, within (st.val 1 0 2) 1 3]
  | 2 => [within (st.val 2 index 1) 0 65535, flagOk (st.val 2 index 2)]
  | 3 => st.eyeConditions index
  | 4 => [within (st.val 4 0 1) 0 255, within (st.val 4 0 2) 0 255]
  | 5 => st.watchConditions index
  | 6 => [within (st.val 6 index 1) 1 4095, within (st.val 6 index 2) 0 4095, within (st.val 6 index 3) 0 4095,
      within (st.val 6 index 4) 0 3]
  | 7 => [within (st.val 7 0 1) 2 48, within (st.val 7 0 2) 0 (st.val 7 0 1 - 1)]
  | 8 => st.gateConditions index
  | 9 => if st.role = some .ironer then
      [within (st.val 9 0 1) 500 20000, within (st.val 9 0 2) 15360 17408, flagOk (st.val 9 0 3), flagOk (st.val 9 0 4)]
    else []
  | 10 => if st.role = some .outlet then st.destConditions index else []
  | 11 => if st.role = some .outlet then
      [within (st.val 11 0 1) 1 3 && (channelNamed (st.val 10 (st.val 11 0 1).toNat 1)).isSome, flagOk (st.val 11 0 2)]
    else []
  | 12 => if h : index < 8 then st.channelConditions ⟨index, h⟩ else []
  | _ => []

/-- The first field, counted from 1, whose condition is broken. -/
def firstBroken : Nat → List Bool → Option Nat
  | _, [] => none
  | n, b :: rest => if b then firstBroken (n + 1) rest else some n

/-- Sections and indices in the order of validation. -/
def descriptorOrder : List (Nat × Nat) :=
  [(1, 1), (2, 2), (3, 8), (4, 1), (5, 8), (6, 16), (7, 1), (8, 4), (9, 1), (10, 4), (11, 1), (12, 8)].flatMap
    fun sn => (List.range sn.2).map fun i => (sn.1, i)

/-- JOIN validation: the identifier of the first failing item in the order of section, index and field (R191). -/
def Store.validate (st : Store) : Option ItemId :=
  descriptorOrder.findSome? fun si =>
    (firstBroken 1 (st.conditionsAt si.1 si.2)).map fun f =>
      { sec := BitVec.ofNat 8 si.1, index := BitVec.ofNat 8 si.2, field := BitVec.ofNat 8 f }

/-! ### Settings in force, as a JOIN loads them (R192) -/

def inputOf (v : Int) : TravelInput := if v = 1 then .b else .a

def fin4 (v : Int) : Fin 4 := Fin.ofNat 4 v.toNat

def functionOf (v : Int) : EyeFunction :=
  match v with
  | 1 => .entry
  | 2 => .exit
  | 3 => .outletEntry
  | 4 => .levelHold
  | _ => .feedLength

def Store.eyeSettings (st : Store) (e : EyeIx) : EyeSettings :=
  let v := st.val 3 e.val
  { enable := decide (v 1 = 1), input := inputOf (v 2), lane := fin4 (v 3), function := functionOf (v 4)
    gate := fin4 (v 5), offset := v 6, filter := (v 7).toNat, polarity := decide (v 8 = 1), jamLength := (v 9).toNat }

def Store.gateSettings (st : Store) (g : GateIx) : GateSettings :=
  let v := st.val 8 g.val
  { enable := decide (v 1 = 1), lanes := BitVec.ofInt 4 (v 2), channel := channelNamed (v 3), wait := (v 4).toNat
    active := (v 5).toNat, patience := (v 6).toNat, lead := (v 7).toNat, spacerLength := (v 8).toNat
    autoHold := decide (v 9 = 1), initialLot := BitVec.ofInt 8 (v 10) }

def Store.classSettings (st : Store) (c : Fin 16) : ClassSettings :=
  let v := st.val 6 c.val
  { nominal := (v 1).toNat, tolerance := (v 2).toNat, gap := (v 3).toNat, dest := fin4 (v 4) }

def Store.ironerSettings (st : Store) : IronerSettings :=
  let v := st.val 9 0
  { pathLength := (v 1).toNat, slipInitial := (v 2).toNat, learning := decide (v 3 = 1), reload := decide (v 4 = 1) }

def Store.destSettings (st : Store) (d : DestIx) : DestSettings :=
  let v := st.val 10 d.val
  { divert := channelNamed (v 1), xd := (v 2).toNat, mb := (v 3).toNat, ma := (v 4).toNat, stackSize := (v 5).toNat
    stackChannel := channelNamed (v 6), stackWait := (v 7).toNat, stackActive := (v 8).toNat }

/-- The watch list in force: the present entries in the order of the descriptor, unsynchronised with no credits (R130,
R132). -/
def Store.watchList (st : Store) : List WatchEntry :=
  ([0, 1, 2, 3, 4, 5, 6, 7] : List (Fin 8)).filterMap fun w =>
    if st.val 5 w.val 1 = 1 then
      some { place := w, address := BitVec.ofInt 5 (st.val 5 w.val 2), offset := st.val 5 w.val 3, expected := none
             credits := 0 }
    else none

def modeOf (v : Int) : PulseMode := if v = 0 then .merge else .distinct

/-! ### The gate a command names (R93) -/

/-- The gate index of a one-byte gate parameter. -/
def gateParam (g : Byte) : Option GateIx :=
  if h : g.toNat < 4 then some ⟨g.toNat, h⟩ else none

/-- The gate named, where it exists and is enabled in force; otherwise the command is answered BAD_PARAM (R93). -/
def State.namedGate (s : State) (g : Byte) : Option GateIx :=
  match gateParam g with
  | some i => if (s.gates[i]).set.enable then some i else none
  | none => none

end Sys2Proof.Machine
end

