-- ==== Sys2Proof/Machine/Ops.lean ====
section
/-! DEFINITION. Named operations over the state that every block uses: reading and setting one eye, channel, gate,
destination, slot; positions; tracker states; the fault list (R199); the response of a transaction (R188). -/

namespace Sys2Proof.Machine

/-! ### One element of a bank -/

def State.eye (s : State) (e : EyeIx) : Eye := s.eyes[e]
def State.setEye (s : State) (e : EyeIx) (x : Eye) : State := { s with eyes := s.eyes.set e x }
def State.channel (s : State) (c : ChannelIx) : Channel := s.channels[c]
def State.setChannel (s : State) (c : ChannelIx) (x : Channel) : State := { s with channels := s.channels.set c x }
def State.gate (s : State) (g : GateIx) : Gate := s.gates[g]
def State.setGate (s : State) (g : GateIx) (x : Gate) : State := { s with gates := s.gates.set g x }
def State.dest (s : State) (d : DestIx) : Dest := s.dests[d]
def State.setDest (s : State) (d : DestIx) (x : Dest) : State := { s with dests := s.dests.set d x }
def State.lotSlot (s : State) (k : Fin 16) : Option LotEntry := s.lots[k]
def State.setLotSlot (s : State) (k : Fin 16) (x : Option LotEntry) : State := { s with lots := s.lots.set k x }
def State.classOf (s : State) (c : Cls) : ClassSettings := s.classes[c.toFin]
def State.holder (s : State) (a : Addr) : Option (BitVec 5) := s.holders[a.toFin]
def State.setHolder (s : State) (a : Addr) (x : Option (BitVec 5)) : State :=
  { s with holders := s.holders.set a.toFin x }

def eyeIxs : List EyeIx := [0, 1, 2, 3, 4, 5, 6, 7]
def channelIxs : List ChannelIx := [0, 1, 2, 3, 4, 5, 6, 7]
def gateIxs : List GateIx := [0, 1, 2, 3]
def destIxs : List DestIx := [0, 1, 2, 3]
def slotIxs : List (Fin 16) := [0, 1, 2, 3, 4, 5, 6, 7, 8, 9, 10, 11, 12, 13, 14, 15]

/-! ### Travel -/

def State.travel (s : State) : TravelInput → Travel
  | .a => s.travelA
  | .b => s.travelB

def State.setTravel (s : State) (i : TravelInput) (t : Travel) : State :=
  match i with
  | .a => { s with travelA := t }
  | .b => { s with travelB := t }

/-- A candidate's snapshot of one input (R22). -/
def Candidate.snap (c : Candidate) : TravelInput → Pos
  | .a => c.snapA
  | .b => c.snapB

/-- The current position of an input. -/
def State.pos (s : State) (i : TravelInput) : Pos := (s.travel i).position

/-- Travel has reached position p on the counted step still being acted on (R8): a forward step of that input that
started short of p and ended at or past it. -/
def State.reached (s : State) (i : TravelInput) (p : Pos) : Bool :=
  match s.lastStep with
  | some st => st.input == i && st.forward && decide (diff st.before p < 0) && atOrPast (s.pos i) p
  | none => false

/-! ### Tracker states -/

/-- RUNNING or STOPPED: records are admitted, matched, advanced and removed (R53, R65, R68). -/
def State.live (s : State) : Bool := s.mode == .running || s.mode == .stopped

/-- JOINING, RUNNING or STOPPED: gate commands are taken (R94). -/
def State.serving (s : State) : Bool := s.mode == .joining || s.live

/-- JOINING, RUNNING, STOPPED or CONFLICT: enabled eyes are sampled (R21, R31). -/
def State.joined (s : State) : Bool := s.mode != .config

/-! ### Faults (R199) -/

def FaultKind.code : FaultKind → Byte
  | .missed => 1
  | .wrap => 2
  | .cleared => 3
  | .stray => 4
  | .double => 5
  | .length => 6
  | .releaseFail => 7
  | .trainFull => 8
  | .duplicateTag => 9
  | .missingAnnounce => 10
  | .lateAnnounce => 11
  | .jam => 12
  | .encoderSkip => 13
  | .divertBusy => 14
  | .lateDivert => 15
  | .stackBusy => 16
  | .lotTableFull => 17
  | .lotReopened => 18
  | .noticeLost => 19
  | .txOverrun => 20
  | .txAbandoned => 21
  | .addressConflict => 22
  | .stopAbort => 23

/-- Recording a fault (R199): at the end of the list, or on the overflow count when the list holds 8 records. -/
def State.recordFault (s : State) (f : FaultRecord) : State :=
  if s.faults.length < Config.faultCapacity then { s with faults := s.faults ++ [f] }
  else { s with overflow := min Config.overflowLimit (s.overflow + 1) }

/-! ### Responses (R188) -/

/-- The result codes of R188. -/
inductive Result where
  | ok
  | state
  | occupied
  | locked
  | badParam
  | empty
  | badDescriptor
deriving DecidableEq, Repr

def Result.code : Result → Byte
  | .ok => 0
  | .state => 1
  | .occupied => 2
  | .locked => 3
  | .badParam => 4
  | .empty => 5
  | .badDescriptor => 6

/-- A response byte: its value, and the mask of the bits that the layouts of chapter 12 give a meaning to. -/
structure MaskedByte where
  value : Byte
  mask : Byte
deriving DecidableEq, Repr

/-- A byte whose eight bits all have a meaning. -/
def full (b : Byte) : MaskedByte := ⟨b, 0xFF⟩

/-- A byte of which the layout gives only the bits of the mask. -/
def part (mask b : Byte) : MaskedByte := ⟨b, mask⟩

/-- A byte of an absent field whose reading the spec does not give. -/
def unstated : MaskedByte := ⟨0, 0⟩

/-- Response bytes on the wire: the bits without a meaning are free values, drawn from the n-th on (assumption log 6). -/
def fillFree (n : Nat) : List MaskedByte → List Byte
  | [] => []
  | b :: rest => ((b.value &&& b.mask) ||| (Config.freeByte n &&& ~~~b.mask)) :: fillFree (n + 1) rest

/-- A 16-bit value that the spec does not state, from two free bytes (assumption log 47). -/
def freeWord (n : Nat) : BitVec 16 := Config.freeByte n ++ Config.freeByte (n + 1)

/-- The response of a command: result code, then the data (R188). -/
def State.respond (s : State) (r : Result) (data : List MaskedByte := []) : State :=
  { s with response := r.code :: fillFree s.freeDraws data, freeDraws := s.freeDraws + data.length }

/-- The byte that SDO shifts out as the i-th of a transaction whose command byte and parameters take n bytes: 0xFF while they
are clocked in, then the response, and 0x00 after its end (R188). -/
def sdoByte (n : Nat) (response : List Byte) (i : Nat) : Byte := if i < n then 0xFF else response.getD (i - n) 0

/-- What the controller reads over the first k bytes of such a transaction. -/
def State.sdo (s : State) (n k : Nat) : List Byte := (List.range k).map (sdoByte n s.response)

/-- A value in n bytes, most significant byte first (R188). -/
def bytesOf (n : Nat) (v : Nat) : List MaskedByte :=
  (List.range n).map fun i => full (BitVec.ofNat 8 (v / 256 ^ (n - 1 - i)))

end Sys2Proof.Machine
end

