-- ==== Sys2Proof/Machine/Pulse.lean ====
section
/-! DEFINITION. The pulse channels (chapter 03): requests, extension, abort, retirement, output level. -/

namespace Sys2Proof.Machine

inductive Slot where
  | active
  | next
deriving DecidableEq, Repr

/-- The answers of a channel (R36 to R42). PLACED, MERGED and LATE carry the slot that holds the span and the pulse's start
and end; an empty request carries none (R40). ABORTED carries the started field (R42). -/
inductive Answer where
  | placed (at_ : Option (Slot × Pos × Pos))
  | merged (at_ : Option (Slot × Pos × Pos))
  | late (at_ : Option (Slot × Pos × Pos))
  | tooLate
  | busy
  | gone
  | unchanged
  | extended
  | limited
  | aborted (started : Bool)
deriving DecidableEq, Repr

/-- The last four references of a list (R40). -/
def keepRefs (refs : List Tag) : List Tag := refs.drop (refs.length - Config.refCapacity)

def refList : Option Tag → List Tag
  | some t => [t]
  | none => []

/-- The span [s, e) touches a pulse [a, b) (R37). -/
def Pulse.touches (q : Pulse) (s e : Pos) : Bool := decide (diff s q.stop ≤ 0) && decide (diff q.start e ≤ 0)

def earlier (a b : Pos) : Pos := if diff a b ≤ 0 then a else b

def later (a b : Pos) : Pos := if 0 ≤ diff a b then a else b

/-- A span merged into a pulse, its tag last (R38, R40). -/
def Pulse.absorb (q : Pulse) (s e : Pos) (ref : Option Tag) : Pulse :=
  { q with start := earlier q.start s, stop := later q.stop e, refs := keepRefs (q.refs ++ refList ref) }

/-- ACTIVE and NEXT joined: from the ACTIVE start to the later end, started if either was (R38); the references of the
earlier pulse first, those of the later after them, the new tag last (R40). -/
def Pulse.joinNext (q n : Pulse) (ref : Option Tag) : Pulse :=
  { start := q.start, stop := later q.stop n.stop, refs := keepRefs (q.refs ++ n.refs ++ refList ref)
    started := q.started || n.started }

def Pulse.fresh (s e : Pos) (ref : Option Tag) : Pulse := { start := s, stop := e, refs := refList ref, started := false }

/-- PLACED, or LATE for a late request (R36). -/
def takenAnswer (late merged : Bool) (slot : Slot) (q : Pulse) : Answer :=
  let at_ := some (slot, q.start, q.stop)
  if late then .late at_ else if merged then .merged at_ else .placed at_

/-- A span that lies after the ACTIVE pulse or has been moved after it, in NEXT if that is empty (R38, R39). -/
def Channel.placeNext (c : Channel) (late : Bool) (s e : Pos) (ref : Option Tag) : Channel × Answer :=
  match c.next with
  | none =>
    let q := Pulse.fresh s e ref
    ({ c with next := some q }, takenAnswer late false .next q)
  | some _ => (c, .busy)

/-- A span that touches the ACTIVE pulse: merged in MERGE mode (R38), moved to begin just after it in DISTINCT (R39). -/
def Channel.placeTouching (c : Channel) (a : Pulse) (late : Bool) (s e : Pos) (ref : Option Tag) : Channel × Answer :=
  match c.mode with
  | .merge =>
    let a' := a.absorb s e none
    match c.next with
    | some n =>
      if n.touches a'.start a'.stop then
        let j := a'.joinNext n ref
        ({ c with active := some j, next := none }, takenAnswer late true .active j)
      else
        let a' := a.absorb s e ref
        ({ c with active := some a' }, takenAnswer late true .active a')
    | none =>
      let a' := a.absorb s e ref
      ({ c with active := some a' }, takenAnswer late true .active a')
  | .distinct => c.placeNext late (a.stop + 1) (a.stop + 1 + (e - s)) ref

/-- A span that lies after the ACTIVE pulse (R38, R39). -/
def Channel.placeAfter (c : Channel) (late : Bool) (s e : Pos) (ref : Option Tag) : Channel × Answer :=
  match c.mode, c.next with
  | .merge, some n =>
    if n.touches s e then
      let n' := n.absorb s e ref
      ({ c with next := some n' }, takenAnswer late true .next n')
    else (c, .busy)
  | _, _ => c.placeNext late s e ref

/-- A span placed against the slots (R37). -/
def Channel.place (c : Channel) (late : Bool) (s e : Pos) (ref : Option Tag) : Channel × Answer :=
  match c.active with
  | none =>
    let q := Pulse.fresh s e ref
    ({ c with active := some q }, takenAnswer late false .active q)
  | some a =>
    if a.touches s e then c.placeTouching a late s e ref
    else if 0 < diff a.start e then
      match c.next with
      | none =>
        let q := Pulse.fresh s e ref
        ({ c with active := some q, next := some a }, takenAnswer late false .active q)
      | some _ => (c, .busy)
    else c.placeAfter late s e ref

/-- A request of the span [s, e) at position t (R36). -/
def Channel.request (c : Channel) (t s e : Pos) (ref : Option Tag) : Channel × Answer :=
  if diff e s ≤ 0 then (c, .placed none)
  else if 0 ≤ diff t e then (c, .tooLate)
  else if 0 < diff t s then c.place true t e ref
  else c.place false s e ref

/-- Extension of the pulse that holds the tag to the new end y (R41). -/
def Channel.extend (c : Channel) (tag : Tag) (y : Pos) : Channel × Answer :=
  match c.active with
  | none => (c, .gone)
  | some a =>
    if tag ∈ a.refs then
      if diff y a.stop ≤ 0 then (c, .unchanged)
      else
        match c.next with
        | none => ({ c with active := some { a with stop := y } }, .extended)
        | some n =>
          match c.mode with
          | .merge =>
            if n.touches a.start y then
              ({ c with active := some ({ a with stop := y }.joinNext n none), next := none }, .extended)
            else ({ c with active := some { a with stop := y } }, .extended)
          | .distinct =>
            if 0 ≤ diff y n.start then ({ c with active := some { a with stop := n.start - 1 } }, .limited)
            else ({ c with active := some { a with stop := y } }, .extended)
    else
      match c.next with
      | none => (c, .gone)
      | some n =>
        if tag ∈ n.refs then
          if diff y n.stop ≤ 0 then (c, .unchanged)
          else ({ c with next := some { n with stop := y } }, .extended)
        else (c, .gone)

/-- Abort of the pulse that holds the tag (R42). -/
def Channel.abort (c : Channel) (tag : Tag) : Channel × Answer :=
  match c.active with
  | none => (c, .gone)
  | some a =>
    if tag ∈ a.refs then ({ c with active := c.next, next := none }, .aborted a.started)
    else
      match c.next with
      | none => (c, .gone)
      | some n => if tag ∈ n.refs then ({ c with next := none }, .aborted n.started) else (c, .gone)

/-- The pulse drives an output at position p, the tracker being RUNNING or not (R35). -/
def pulseDrives (q : Option Pulse) (p : Pos) (running : Bool) : Bool :=
  match q with
  | some a => running && inSpan p a.start a.stop
  | none => false

/-- A pulse that drives the output becomes started (R35). -/
def pulseStarted (q : Option Pulse) : Option Pulse := q.map fun a => { a with started := true }

/-- The output level taken afresh (R35), against ACTIVE; or, where the step being acted on has reached the end of ACTIVE
(`ended`), against NEXT, which ACTIVE then holds (R43). -/
def Channel.afresh (c : Channel) (p : Pos) (running ended : Bool) : Channel :=
  if ended then
    if pulseDrives c.next p running then { c with output := true, next := pulseStarted c.next }
    else { c with output := false }
  else if pulseDrives c.active p running then { c with output := true, active := pulseStarted c.active }
  else { c with output := false }

/-! ### On the tracker -/

/-- An owner's request on a channel, at the current position of the channel's input. -/
def State.request (s : State) (c : ChannelIx) (from_ to_ : Pos) (ref : Option Tag) : State × Answer :=
  let r := (s.channel c).request (s.pos (s.channel c).input) from_ to_ ref
  (s.setChannel c r.1, r.2)

def State.extend (s : State) (c : ChannelIx) (tag : Tag) (y : Pos) : State × Answer :=
  let r := (s.channel c).extend tag y
  (s.setChannel c r.1, r.2)

def State.abort (s : State) (c : ChannelIx) (tag : Tag) : State × Answer :=
  let r := (s.channel c).abort tag
  (s.setChannel c r.1, r.2)

/-- Travel has reached the end of a channel's ACTIVE pulse, which is still there (R43). -/
def State.ended (s : State) (x : Channel) : Bool :=
  s.joined &&
    match x.active with
    | some a => s.reached x.input a.stop
    | none => false

/-- The ACTIVE pulse of a channel is to be retired (R43). -/
def State.retirementDue (s : State) (c : ChannelIx) : Bool := s.ended (s.channel c)

/-- One retirement: ACTIVE takes the NEXT pulse (R43). -/
def State.retireOne (s : State) (c : ChannelIx) : State :=
  if s.retirementDue c then
    let ch := s.channel c
    s.setChannel c { ch with active := ch.next, next := none }
  else s

/-- Retirement at a step (R43): the ACTIVE pulse, and in its turn the promoted one if the step reaches its end too. -/
def State.retirePulses (s : State) (c : ChannelIx) : State := (s.retireOne c).retireOne c

/-- A channel as the tracker shows it: its output level taken afresh at the position of its input (R35, R43, R45). -/
def State.shown (s : State) (x : Channel) : Channel := x.afresh (s.pos x.input) (s.mode == .running) (s.ended x)

/-- Output levels of all channels taken afresh (R35, R45). -/
def State.outputsAfresh (s : State) : State := channelIxs.foldl (fun s c => s.setChannel c (s.shown (s.channel c))) s

end Sys2Proof.Machine
end

