-- ==== Sys2Proof/Machine/Queue.lean ====
section
/-! DEFINITION. The transmit queue (R182, R183) as its owners see it: room, offering a frame, and the removal of a void
RESERVE. -/

namespace Sys2Proof.Machine

/-- RELEASE, RESERVE, WITHDRAW and LOTMARK frames (R178, R182). -/
def feedClass : Frame → Bool
  | .release _ => true
  | .reserve _ => true
  | .withdraw _ => true
  | .lotmark _ => true
  | _ => false

def State.feedCount (s : State) : Nat := s.queue.countP fun q => feedClass q.frame

/-- The queue holds fewer than 16 frames. -/
def State.queueRoom (s : State) : Bool := decide (s.queue.length < Config.queueCapacity)

/-- Room for a feed-class frame (R182). -/
def State.feedRoom (s : State) : Bool := s.queueRoom && decide (s.feedCount < Config.feedCapacity)

/-- Room for a given frame. -/
def State.roomFor (s : State) (f : Frame) : Bool := if feedClass f then s.feedRoom else s.queueRoom

/-- A frame at its queuing: no attempt yet (R181). -/
def TxFrame.new (f : Frame) (edge : Pos) : TxFrame :=
  { frame := f, sender := 0, edge := edge, failed := 0, stamped := false, underWay := false, void := false, orphan := false }

/-- A frame placed at the tail of the queue (R182). -/
def State.push (s : State) (f : Frame) (edge : Pos) : State := { s with queue := s.queue ++ [TxFrame.new f edge] }

/-- A frame offered by an owner: placed at the tail, or refused (`none`) where there is no room (R182). -/
def State.offer (s : State) (f : Frame) (edge : Pos := 0) : Option State :=
  if s.roomFor f then some (s.push f edge) else none

/-- A TX_OVERRUN fault with the tag (R62, R144, R197). -/
def State.txOverrun (s : State) (tag : Tag) : State :=
  s.recordFault { kind := .txOverrun, position := s.pos .a, input := .a, tag := some tag }

/-- A frame that is dropped with TX_OVERRUN when the queue is full (R62, R144, R197). -/
def State.offerOrDrop (s : State) (f : Frame) (tag : Tag) : State :=
  match s.offer f with
  | some s' => s'
  | none => s.txOverrun tag

/-- Is the frame the RESERVE of a gate? -/
def isReserveOf (g : GateIx) (q : TxFrame) : Bool :=
  match q.frame with
  | .reserve r => r.gate == g && !q.orphan
  | _ => false

/-- The RESERVE of a gate leaves the queue as void; one under way is left to its attempt (R117, R183). -/
def State.voidReserve (s : State) (g : GateIx) : State :=
  { s with
    queue := s.queue.filterMap fun q =>
      if isReserveOf g q then (if q.underWay then some { q with void := true } else none) else some q }

/-- An attempt of the head frame is under way (R181). -/
def State.attempting (s : State) : Bool := s.queue.any (·.underWay)

end Sys2Proof.Machine
end

