-- ==== Sys2Proof/Machine/Stacks.lean ====
section
/-! DEFINITION. The stacks of the outlet unit (R150, R156 to R158). -/

namespace Sys2Proof.Machine

/-- The trigger span [T + Sw, T + Sw + Sa) requested of a destination's stack channel (R157). A destination with a stack has
a channel (R149). -/
def State.requestTrigger (s : State) (d : DestIx) : State × Answer :=
  let x := (s.dest d).set
  match x.stackChannel with
  | some c => s.request c (Pos.plus (s.pos .a) x.stackWait) (Pos.plus (s.pos .a) (x.stackWait + x.stackActive)) none
  | none => (s, .placed none)

/-- Input A moves in reverse: no record is routed and no divert or stack span is requested (R159). -/
def State.outletWaits (s : State) : Bool := s.travelA.reverse

/-- A STACK_BUSY fault (R157). -/
def State.stackBusy (s : State) (d : DestIx) (lot : Lot) (count : Nat) : State :=
  s.recordFault
    { kind := .stackBusy, position := s.pos .a, input := .a, lot := some lot, unit := some (.destination d)
      count := some count }

/-- The trigger of a destination's closure of a lot's stack of a count, with its STACK_BUSY fault (R157). -/
def State.trigger (s : State) (d : DestIx) (lot : Lot) (count : Nat) : State :=
  let q := s.requestTrigger d
  if q.2 = .busy then q.1.stackBusy d lot count else q.1

/-- Closing a destination's stack at the current position of input A (R157). While input A moves in reverse the closure is
taken (R158) and its trigger is owed until forward travel (R159): a choice of the model (assumption log 43). -/
def State.closeStack (s : State) (d : DestIx) (reason : ClosureReason) : State :=
  let x := s.dest d
  let y := { x with count := 0, last := some { lot := x.stackLot, count := x.count, reason := reason } }
  if s.outletWaits then s.setDest d { y with owed := y.last } else (s.setDest d y).trigger d x.stackLot x.count

/-- A trigger owed since reverse travel is requested (R159), with its STACK_BUSY fault of the closure that owes it. -/
def State.payTrigger (s : State) (d : DestIx) : State :=
  match (s.dest d).owed with
  | some c => (s.setDest d { s.dest d with owed := none }).trigger d c.lot c.count
  | none => s

/-- Counting a departing item of lot x into destination d (R156, steps 1 to 4). -/
def State.countIntoStack (s : State) (d : DestIx) (x : Lot) : State :=
  if (s.dest d).set.stackSize = 0 then s
  else
    let s1 := if 0 < (s.dest d).count ∧ (s.dest d).stackLot ≠ x then s.closeStack d .lotSwitch else s
    let s2 := s1.setDest d { s1.dest d with count := (s1.dest d).count + 1, stackLot := x }
    if (s2.dest d).set.stackSize ≤ (s2.dest d).count then s2.closeStack d .full else s2

/-- A closed lot closes every stack that holds it, in destination order (R158), at the event that closes the lot, also while
input A moves in reverse (a choice of the model between R158 and R159, assumption log 43). -/
def State.lotEnd (s : State) (lot : Lot) : State :=
  destIxs.foldl (fun s d =>
    let x := s.dest d
    if 0 < x.set.stackSize ∧ x.stackLot = lot ∧ 0 < x.count then s.closeStack d .lotEnd else s) s

end Sys2Proof.Machine
end

