-- ==== Sys2Proof/Machine/Lots.lean ====
section
/-! DEFINITION. The lot unit (chapter 10): the lot table, sources and their end marks, closure and notices. -/

namespace Sys2Proof.Machine

/-- The slot that holds a lot's entry (R161). -/
def State.lotSlotOf (s : State) (lot : Lot) : Option (Fin 16) :=
  slotIxs.find? fun k =>
    match s.lotSlot k with
    | some e => e.lot == lot
    | none => false

def Source.isOf (x : Source) (origin : Addr) (gate : GateIx) : Bool := x.origin == origin && x.gate == gate

/-- The state an entry's source set and in-flight count give it (R169). -/
def LotEntry.judged (e : LotEntry) : LotState :=
  if e.sources ≠ [] then .opened else if 0 < e.inFlight then .closing else .closed

/-- An entry's state taken afresh; an entry that becomes CLOSED joins the tail of the closure list with its notice unread
and is handed to the outlet unit (R169, R170). -/
def State.judgeLot (s : State) (k : Fin 16) : State :=
  match s.lotSlot k with
  | none => s
  | some e =>
    if e.judged = .closed ∧ e.state ≠ .closed then
      let s1 := s.setLotSlot k (some { e with state := .closed, noticeUnread := true })
      ({ s1 with closureList := s1.closureList ++ [k] }).lotEnd e.lot
    else s.setLotSlot k (some { e with state := e.judged })

/-- All entries judged, in slot order (R170). An entry that the event did not touch keeps its state. -/
def State.judgeLots (s : State) : State := slotIxs.foldl State.judgeLot s

/-! ### Admission (R163 to R165) -/

/-- A source as a record makes it: no end mark, no highest serial. -/
def Source.new (origin : Addr) (gate : GateIx) : Source :=
  { origin := origin, gate := gate, endMark := .absent, highest := none }

/-- A record of an open entry names its source (R163): a source that is present stays, and loses an end mark that the
record's serial is past; an absent one is added while the set holds fewer than 16. The set is kept, and READ LOT lists it,
in the order in which its sources were added: a choice of the model (assumption log 42). -/
def LotEntry.addSource (e : LotEntry) (tag : Tag) (gate : GateIx) : LotEntry :=
  if e.sources.any (·.isOf tag.origin gate) then
    { e with
      sources := e.sources.map fun x =>
        if x.isOf tag.origin gate then
          match x.endMark with
          | .serial last => if serialPast tag.serial last then { x with endMark := .absent } else x
          | _ => x
        else x }
  else if e.sources.length < Config.sourceCapacity then
    { e with sources := e.sources ++ [Source.new tag.origin gate] }
  else { e with incomplete := true }

def sourcesOf (tag : Tag) : Option GateIx → List Source
  | some g => [Source.new tag.origin g]
  | none => []

/-- A new entry for a lot (R165). -/
def LotEntry.new (lot : Lot) (tag : Tag) (gate : Option GateIx) : LotEntry :=
  { lot := lot, state := .opened, inFlight := 1, sources := sourcesOf tag gate, incomplete := false, departed := 0
    rejects := 0, noticeUnread := false }

/-- The slot a new entry takes, and the fault of taking it (R165): an empty slot (the lowest, assumption log 10), else the
first CLOSED entry in the closure list whose notice is read, else the first in the list with NOTICE_LOST. -/
def State.slotForNewLot (s : State) : Option (Fin 16 × Option Lot) :=
  match slotIxs.find? fun k => (s.lotSlot k).isNone with
  | some k => some (k, none)
  | none =>
    let read := s.closureList.find? fun k =>
      match s.lotSlot k with
      | some e => !e.noticeUnread
      | none => false
    match read, s.closureList with
    | some k, _ => some (k, none)
    | none, k :: _ => some (k, (s.lotSlot k).map (·.lot))
    | none, [] => none

/-- What the lot unit does with a record handed over at its admission or creation (R163 to R165). The second component
says whether the record becomes LOT_UNTRACKED. -/
def State.lotAdmit (s : State) (tag : Tag) (lot : Lot) (gate : Option GateIx) : State × Bool :=
  if lot = Config.unknownLot then (s, false)
  else
    match s.lotSlotOf lot with
    | some k =>
      match s.lotSlot k with
      | none => (s, false)
      | some e =>
        if e.state = .closed then
          -- R164: the entry is reopened with the record's source as its only one
          let s1 := s.setLotSlot k (some { e with state := .opened, inFlight := 1, sources := sourcesOf tag gate })
          let s2 := { s1 with closureList := s1.closureList.filter (· != k) }
          ((s2.recordFault { kind := .lotReopened, position := s.pos .a, input := .a, tag := some tag, lot := some lot
                             }).judgeLots, false)
        else
          let e1 := { e with inFlight := e.inFlight + 1 }
          let e2 := match gate with
            | some g => e1.addSource tag g
            | none => e1
          ((s.setLotSlot k (some e2)).judgeLots, false)
    | none =>
      match s.slotForNewLot with
      | some (k, discarded) =>
        let s1 := { s with closureList := s.closureList.filter (· != k) }
        let s2 := s1.setLotSlot k (some (LotEntry.new lot tag gate))
        let s3 := match discarded with
          | some old => s2.recordFault
              { kind := .noticeLost, position := s.pos .a, input := .a, tag := some tag, lot := some old }
          | none => s2
        (s3.judgeLots, false)
      | none =>
        (s.recordFault { kind := .lotTableFull, position := s.pos .a, input := .a, tag := some tag, lot := some lot },
          true)

/-! ### Removal (R166) and the tests of R168 -/

/-- R168: a source whose end mark is "none released", or whose highest serial is at or past its last serial, is closed. -/
def Source.closed (x : Source) : Bool :=
  match x.endMark with
  | .absent => false
  | .noneReleased => true
  | .serial last =>
    match x.highest with
    | some hi => serialAtOrPast hi last
    | none => false

/-- The record's serial raises the highest serial of its own source, and the source is tested (R166 step 2, R168). -/
def LotEntry.raiseHighest (e : LotEntry) (tag : Tag) (gate : GateIx) : LotEntry :=
  { e with
    sources := e.sources.filterMap fun x =>
      if x.isOf tag.origin gate then
        let hi := match x.highest with
          | none => tag.serial
          | some h => if serialPast tag.serial h then tag.serial else h
        let x' := { x with highest := some hi }
        if x'.closed then none else some x'
      else some x }

/-- A record of another lot from the same gate, past the last serial, has left: the source is removed (R166 step 3). -/
def LotEntry.passLast (e : LotEntry) (tag : Tag) (gate : GateIx) : LotEntry :=
  { e with
    sources := e.sources.filter fun x =>
      !(x.isOf tag.origin gate &&
        match x.endMark with
        | .serial last => serialPast tag.serial last
        | _ => false) }

/-- Counts of an entry at the removal of one of its records (R166 step 1). -/
def LotEntry.countRemoval (e : LotEntry) (passed reject : Bool) : LotEntry :=
  { e with
    inFlight := e.inFlight - 1
    departed := if passed then min Config.lotCountLimit (e.departed + 1) else e.departed
    rejects := if passed && reject then min Config.lotCountLimit (e.rejects + 1) else e.rejects }

/-- The lot unit's part of a removal (R166): `passed` for DEPARTED and CLEARED. -/
def State.lotRemove (s : State) (r : Record) (passed : Bool) : State :=
  if r.lot = Config.unknownLot then s
  else
    let touched (e : LotEntry) : LotEntry :=
      let e1 := if e.lot = r.lot ∧ !r.flags.lotUntracked then e.countRemoval passed r.flags.reject else e
      match r.gate with
      | none => e1
      | some g => if e.lot = r.lot then e1.raiseHighest r.tag g else e1.passLast r.tag g
    (slotIxs.foldl (fun s k => s.setLotSlot k ((s.lotSlot k).map touched)) s).judgeLots

/-! ### LOTMARK (R167) -/

/-- The end mark a LOTMARK sets on the source it names, tested at once (R167, R168). -/
def LotEntry.setEndMark (e : LotEntry) (origin : Addr) (gate : GateIx) (mark : EndMark) : LotEntry :=
  { e with
    sources := e.sources.filterMap fun x =>
      if x.isOf origin gate then
        let x' := { x with endMark := mark }
        if x'.closed then none else some x'
      else some x }

/-- The lot unit's part of a received LOTMARK (R167). -/
def State.lotMarked (s : State) (sender : Addr) (f : LotMarkFrame) : State :=
  if !s.serving then s
  else
    match s.lotSlotOf f.old with
    | none => s
    | some k =>
      let mark := match f.last with
        | some t => EndMark.serial t.serial
        | none => EndMark.noneReleased
      (s.setLotSlot k ((s.lotSlot k).map fun e => e.setEndMark sender f.gate mark)).judgeLots

/-! ### LEAVE (R174) -/

/-- The lot table at LEAVE: counts 0, sources emptied, every entry CLOSED, those that were not appended to the closure
list in slot order with their notice flags as they were. -/
def State.lotLeave (s : State) : State :=
  slotIxs.foldl (fun s k =>
    match s.lotSlot k with
    | none => s
    | some e =>
      let s1 := s.setLotSlot k (some { e with state := .closed, inFlight := 0, sources := [] })
      if e.state = .closed then s1 else { s1 with closureList := s1.closureList ++ [k] }) s

/-- The first entry of the closure list whose notice is unread (R171). -/
def State.firstNotice (s : State) : Option (Fin 16) :=
  s.closureList.find? fun k =>
    match s.lotSlot k with
    | some e => e.noticeUnread
    | none => false

end Sys2Proof.Machine
end

