-- ==== Sys2Proof/Machine/Train.lean ====
section
/-! DEFINITION. The item train (chapter 04): order, the count and its TRAIN cause, serials, checkpoints, removal. -/

namespace Sys2Proof.Machine

/-! ### Order (R51) -/

/-- Stage order from the head of the train. -/
def Stage.rank : Stage → Nat
  | .leaving => 0
  | .inside => 1
  | .entering => 2
  | .pending => 3

/-- Record x stands before record y (R51): later stage first, then earlier p, then earlier admission. -/
def Record.before (x y : Record) : Bool :=
  decide (x.stage.rank < y.stage.rank) ||
    (x.stage == y.stage && (decide (diff x.p y.p < 0) || (x.p == y.p && decide (x.order < y.order))))

/-- A record set where the order puts it. -/
def insertRecord (r : Record) : List Record → List Record
  | [] => [r]
  | x :: rest => if r.before x then r :: x :: rest else x :: insertRecord r rest

def State.findRecord (s : State) (tag : Tag) : Option Record := s.train.find? fun r => r.tag == tag

/-- A change that does not move the record (R51): H, flags, measured length, lead capture, destination. -/
def State.updateRecord (s : State) (tag : Tag) (f : Record → Record) : State :=
  { s with train := s.train.map fun r => if r.tag == tag then f r else r }

/-- A change of p or stage: the record is taken from its place and set where the order then puts it (R51). -/
def State.replaceRecord (s : State) (r : Record) : State :=
  { s with train := insertRecord r (s.train.filter fun x => x.tag != r.tag) }

/-- The new count handed to the hold unit: the TRAIN cause between the water marks (R52, R126). -/
def State.handCount (s : State) : State :=
  let n := s.train.length
  { s with trainCause := if s.highMark ≤ n then true else if n ≤ s.lowMark then false else s.trainCause }

def State.trainFull (s : State) : Bool := decide (Config.trainCapacity ≤ s.train.length)

/-- A new record takes its place by admission, and the count is handed onward (R51, R52). -/
def State.addRecord (s : State) (r : Record) : State :=
  State.handCount { s with
    train := insertRecord { r with order := s.admissions } s.train
    admissions := s.admissions + 1 }

/-- The lot unit is handed a new record (R53, R56, R57, R74), which may become LOT_UNTRACKED (R165). -/
def State.handToLots (s : State) (tag : Tag) (lot : Lot) (gate : Option GateIx) : State :=
  let q := s.lotAdmit tag lot gate
  if q.2 then q.1.updateRecord tag fun r => { r with flags := { r.flags with lotUntracked := true } } else q.1

/-! ### Serials (R49) -/

/-- The first serial from `next` on whose own tag is absent from the train; at most 48 are passed over. -/
def freeSerial (train : List Record) (own : Addr) : Nat → Serial → Serial
  | 0, next => next
  | n + 1, next =>
    if train.any fun r => r.tag == { origin := own, serial := next } then freeSerial train own n (next + 1) else next

/-- The tracker's own address; a tracker that makes a record or sends a frame has one in force (R187). -/
def State.ownAddress (s : State) : Addr := s.address.getD 0

/-- Allocation of a tag (R49). -/
def State.allocate (s : State) : Tag × State :=
  let n := freeSerial s.train s.ownAddress Config.trainCapacity s.serial
  ({ origin := s.ownAddress, serial := n }, { s with serial := n + 1 })

/-! ### Checkpoints (chapter 05, "Checkpoints and positions") -/

inductive Checkpoint where
  | feed
  | entry
  | exit
  | outlet
deriving DecidableEq, Repr

def Checkpoint.function : Checkpoint → EyeFunction
  | .feed => .feedLength
  | .entry => .entry
  | .exit => .exit
  | .outlet => .outletEntry

/-- The checkpoint an eye function serves; a LEVEL_HOLD eye serves none. -/
def EyeFunction.checkpoint : EyeFunction → Option Checkpoint
  | .feedLength => some .feed
  | .entry => some .entry
  | .exit => some .exit
  | .outletEntry => some .outlet
  | .levelHold => none

/-- The checkpoint eye of a function and lane: the enabled eye that has them (R19). -/
def State.eyeAt (s : State) (k : Checkpoint) (l : Lane) : Option EyeIx :=
  eyeIxs.find? fun e => (s.eye e).set.enable && (s.eye e).set.function == k.function && (s.eye e).set.lane == l

/-- The offset of a checkpoint eye, 0 where the lane has none (R13, R19). -/
def State.offsetAt (s : State) (k : Checkpoint) (l : Lane) : Int :=
  match s.eyeAt k l with
  | some e => (s.eye e).set.offset
  | none => 0

/-- The checkpoint at which a record awaits its leading edge, by role and stage; a SPACER awaits none (R81, R140). -/
def State.awaitsAt (s : State) (r : Record) : Option Checkpoint :=
  match s.role, r.stage with
  | some .feed, .pending => if r.flags.spacer then none else some .feed
  | some .ironer, .pending => some .entry
  | some .ironer, .entering => some .exit
  | some .ironer, .inside => some .exit
  | some .outlet, .pending => some .outlet
  | _, _ => none

/-- Half-width for a prediction d, for a record's flags (R13, R14). -/
def State.halfWidthFor (s : State) (d : Int) (f : Flags) : Nat := halfWidth s.baseWidth s.propWidth d f.doubles

/-- A record whose window has just been set: a closing position already behind is not reached by the step being acted on
(R8, assumption log 22). -/
def State.markFresh (s : State) (tag : Tag) : State := { s with freshWindows := tag :: s.freshWindows }

/-! ### Removal (R62) -/

inductive RemovalCause where
  | departed
  | cleared
  | missed
  | clearedUnverified
  | wrap
  | releaseFail
  | lostRemote
  | cancelled
deriving DecidableEq, Repr

/-- The LOST cause code of a removal that queues one (removal table, LOST payload). -/
def RemovalCause.lostCode : RemovalCause → Option Byte
  | .missed => some 1
  | .clearedUnverified => some 2
  | .wrap => some 3
  | .releaseFail => some 4
  | .cancelled => some 5
  | _ => none

/-- The fault of a removal that records one (removal table). -/
def RemovalCause.fault : RemovalCause → Option FaultKind
  | .missed => some .missed
  | .clearedUnverified => some .cleared
  | .wrap => some .wrap
  | .releaseFail => some .releaseFail
  | .cancelled => some .stopAbort
  | _ => none

/-- Removals by which a record passed this tracker normally (R166). -/
def RemovalCause.passed : RemovalCause → Bool
  | .departed => true
  | .cleared => true
  | _ => false

/-- The record out of the train and out of the matcher's sets (R62, R84). -/
def State.takeOut (s : State) (tag : Tag) : State :=
  State.handCount { s with
    train := s.train.filter fun x => x.tag != tag
    waiting := s.waiting.filter fun w => w.tag != tag
    freshWindows := s.freshWindows.filter (· != tag) }

/-- The LOST of a removal that calls for one (R62). -/
def State.queueLost (s : State) (tag : Tag) (cause : RemovalCause) : State :=
  match cause.lostCode with
  | some c => s.offerOrDrop (.lost tag c) tag
  | none => s

/-- The fault of a removal that calls for one (R62): at the position of the record's basis input. -/
def State.removalFault (s : State) (r : Record) (cause : RemovalCause) (unit : Option FaultUnit) : State :=
  match cause.fault with
  | some k => s.recordFault
      { kind := k, position := s.pos r.basis, input := r.basis, tag := some r.tag, lot := some r.lot, unit := unit }
  | none => s

/-- A WRAP sets the wrap alarm (R87, R90). -/
def State.alarmAt (s : State) (cause : RemovalCause) : State := if cause = .wrap then { s with wrapAlarm := true } else s

/-- A removal (R62): the record leaves the train, the count and the lot unit are handed it, then LOST and the fault follow
where the cause calls for them. The TX_OVERRUN of a LOST that finds no room comes before the removal's own fault, where R62
gives no order: a choice of the model (assumption log 39). -/
def State.removeRecord (s : State) (r : Record) (cause : RemovalCause) (unit : Option FaultUnit) : State :=
  let s1 := (s.takeOut r.tag).lotRemove r cause.passed
  ((s1.queueLost r.tag cause).removalFault r cause unit).alarmAt cause

/-! ### Feed clearance (R59) -/

/-- The clearance position q + len + G of a FEED record. -/
def State.clearanceAt (s : State) (r : Record) : Pos := Pos.plus r.p (r.len + (s.classOf r.cls).gap)

/-- A FEED record whose clearance position is at or behind the current position is cleared at once. -/
def State.clearIfPassed (s : State) (tag : Tag) : State :=
  match s.findRecord tag with
  | some r =>
    if s.role = some .feed ∧ atOrPast (s.pos .a) (s.clearanceAt r) then s.removeRecord r .cleared none else s
  | none => s

/-- A change of a FEED record from r that moves its clearance position clears it at once where that position is then at or
behind the current position (R59). A position that has not moved is left to the step that reaches it. -/
def State.clearIfMoved (s : State) (r : Record) : State :=
  match s.findRecord r.tag with
  | some y => if s.clearanceAt y = s.clearanceAt r then s else s.clearIfPassed r.tag
  | none => s

/-! ### Marks (R64) -/

/-- REJECT set on the record of a tag. -/
def State.markReject (s : State) (tag : Tag) : State := s.updateRecord tag Record.reject

/-- The mark code of R178. -/
def rejectMark : Byte := 1

end Sys2Proof.Machine
end

