-- ==== Sys2Proof/Machine/Outlet.lean ====
section
/-! DEFINITION. Outlet routing, divert requests, extension and departure (chapter 09). -/

namespace Sys2Proof.Machine

/-- The destination of a record at routing: the first row that applies (R151). -/
def State.routeOf (s : State) (r : Record) : DestIx :=
  if r.flags.reject then s.rejectDest
  else if r.lot = Config.unknownLot then s.rejectDest
  else if r.flags.doubtful ∧ !s.doubtfulToClass then s.rejectDest
  else (s.classOf r.cls).dest

/-- A fault about a divert: the record's tag and lot, a destination as unit, the position of input A (R152, R154). -/
def State.divertFault (s : State) (k : FaultKind) (r : Record) (d : DestIx) : State :=
  s.recordFault
    { kind := k, position := s.pos .a, input := .a, tag := some r.tag, lot := some r.lot, unit := some (.destination d) }

/-- The departure position e + Xd + Lused + Ma of a routed record (R155). -/
def State.departureAt (s : State) (r : Record) : Option Pos :=
  match r.dest, r.lead with
  | some d, some e => some (Pos.plus e ((s.dest d).set.xd + r.len + (s.dest d).set.ma))
  | _, _ => none

/-- A departure (R156): counted into the stack first, then removed with cause DEPARTED. -/
def State.depart (s : State) (r : Record) : State :=
  match r.dest with
  | some d => (s.countIntoStack d r.lot).removeRecord r .departed none
  | none => s

/-- A record whose departure position is at or behind the current position departs at once (R155). -/
def State.departIfPassed (s : State) (tag : Tag) : State :=
  match s.findRecord tag with
  | some r =>
    match s.departureAt r with
    | some p => if s.role = some .outlet ∧ atOrPast (s.pos .a) p then s.depart r else s
    | none => s
  | none => s

/-- A change of a routed record from r that moves its departure position departs it at once where that position is then at
or behind the current position; one that has not moved is left to the step that reaches it (R155). -/
def State.departIfMoved (s : State) (r : Record) : State :=
  match s.findRecord r.tag with
  | some y => if s.departureAt y = s.departureAt r then s else s.departIfPassed r.tag
  | none => s

/-- The divert of a routed record requested of its destination's channel, and the answer acted on (R152). -/
def State.requestDivert (s : State) (r : Record) (e : Pos) (d : DestIx) : State :=
  let cfg := (s.dest d).set
  match cfg.divert with
  | none => s
  | some c =>
    let q := s.request c (Pos.plus e ((cfg.xd : Int) - cfg.mb)) (Pos.plus e (cfg.xd + r.nominalUsed + cfg.ma)) (some r.tag)
    match q.2 with
    | .late _ => q.1.divertFault .lateDivert r d
    | .tooLate => (q.1.updateRecord r.tag fun x => { x with dest := some 0 }).divertFault .lateDivert r d
    | .busy => (q.1.updateRecord r.tag fun x => { x with dest := some 0 }).divertFault .divertBusy r d
    | _ => q.1

/-- Routing of a record at ENTERING, with routing position e = its lead capture (R151), the divert request of R152 and the
departure at once of R155. While input A moves in reverse the record is left unrouted (R159), until forward travel
(assumption log 43). -/
def State.route (s : State) (tag : Tag) : State :=
  if s.outletWaits then s
  else
    match s.findRecord tag with
    | none => s
    | some r =>
      match r.lead with
      | none => s
      | some e =>
        let d := s.routeOf r
        ((s.updateRecord tag fun x => { x with dest := some d }).requestDivert r e d).departIfPassed tag

/-- A record at the outlet entry or past it that reverse travel has left unrouted. -/
def Record.unrouted (r : Record) : Bool :=
  (r.stage == .entering || r.stage == .leaving) && r.dest.isNone

/-- What the outlet unit owes since reverse travel, at the first forward step of input A: triggers are requested in
destination order, then records are routed in train order (R159, assumption log 43). -/
def State.payOutlet (s : State) : State :=
  if s.role = some .outlet ∧ s.live then
    ((s.train.filter Record.unrouted).map (·.tag)).foldl State.route (destIxs.foldl State.payTrigger s)
  else s

/-- Extension of the divert of an item measured longer than nominal (R154). -/
def State.extendDivert (s : State) (r : Record) (m : Nat) : State :=
  match r.dest, r.lead with
  | some d, some e =>
    if r.nominalUsed < m then
      match (s.dest d).set.divert with
      | none => s
      | some c =>
        let q := s.extend c r.tag (Pos.plus e ((s.dest d).set.xd + m + (s.dest d).set.ma))
        match q.2 with
        | .gone => q.1.divertFault .lateDivert r d
        | _ => q.1
    else s
  | _, _ => s

end Sys2Proof.Machine
end

