-- ==== Sys2Proof/Machine/Transit.lean ====
section
/-! DEFINITION. The ironer transit (chapter 08): rebasing at the entry, the exit steps, HANDOFF, the slip lesson; and dead
reckoning at a checkpoint without an eye (R82). -/

namespace Sys2Proof.Machine

/-- pred for the path length in force and the slip factor as it stands (R17). -/
def State.pred (s : State) : Nat :=
  match s.ironer with
  | some x => predictedTravel x.pathLength s.slip
  | none => 0

/-- A record rebased onto input B at entry position entry_B (R60, R139): p, H, lead capture and entry_B. -/
def State.rebased (s : State) (r : Record) (entryB : Pos) (stage : Stage) : Record :=
  { r with
    stage := stage, basis := .b, p := Pos.plus entryB s.pred, h := s.halfWidthFor s.pred r.flags, lead := some entryB
    entryB := some entryB }

/-- The HANDOFF announcing a record (R143); offset and sequence are filled at transmission. -/
def handoffFrame (r : Record) : HandoffFrame :=
  { tag := r.tag, cls := r.cls, gate := r.gate, lot := r.lot, lanes := r.lanes, flags := r.flags.handoff
    length := BitVec.ofNat 12 (min 4095 (r.measured.getD r.nominal)), offset := 0, seq := 0 }

/-- A HANDOFF dropped: its sequence is spent and a TX_OVERRUN fault recorded (R145). -/
def State.dropHandoff (s : State) (r : Record) : State :=
  { s with passageSeq := s.passageSeq + 1 }.recordFault
    { kind := .txOverrun, position := s.pos .b, input := .b, tag := some r.tag, lot := some r.lot }

/-- The HANDOFF queued, or dropped when the queue is full (R143, R145). -/
def State.queueHandoff (s : State) (r : Record) : State :=
  match s.offer (.handoff (handoffFrame r)) (r.lead.getD 0) with
  | some s' => s'
  | none => s.dropHandoff r

/-- The slip lesson of a captured exit edge (R142, R18). -/
def State.slipLesson (s : State) (r : Record) (exitB : Pos) : State :=
  match s.ironer, r.entryB with
  | some x, some entryB =>
    if x.learning && !r.flags.dirty then { s with slip := learnedSlip x.pathLength s.slip exitB entryB } else s
  | _, _ => s

/-- The exit reject-next consumed by a record that moves to LEAVING (R147). -/
def State.takeExitReject (s : State) (tag : Tag) : State :=
  if s.exitRejectNext then { s.markReject tag with exitRejectNext := false } else s

/-- The exit steps of R141 for a record just moved to LEAVING: exit reject-next, HANDOFF, and the lesson where an exit edge
was captured. -/
def State.exitSteps (s : State) (tag : Tag) (captured : Option Pos) : State :=
  let s1 := s.takeExitReject tag
  match s1.findRecord tag with
  | none => s1
  | some r =>
    let s2 := s1.queueHandoff r
    match captured with
    | some x => s2.slipLesson r x
    | none => s2

/-! ### Dead reckoning (R82) -/

/-- The position at which a record advances by dead reckoning, on its basis: its p at a checkpoint whose reference lane has
no eye, or p + length for a record dead-reckoned across the exit. -/
def State.reckoningAt (s : State) (r : Record) : Option Pos :=
  match s.role, r.stage with
  | some .feed, .pending => if (s.eyeAt .feed r.lane).isNone then some r.p else none
  | some .ironer, .pending => if (s.eyeAt .entry r.lane).isNone then some r.p else none
  | some .ironer, .inside => if (s.eyeAt .exit r.lane).isNone then some r.p else none
  | some .ironer, .leaving => if (s.eyeAt .exit r.lane).isNone then some (Pos.plus r.p r.len) else none
  | some .outlet, .pending => if (s.eyeAt .outlet r.lane).isNone then some r.p else none
  | _, _ => none

/-- The exit dead-reckoned: LEAVING with lead capture p, HANDOFF queued, no lesson (R82, R141). The same step may reach its
departure at p + length as well (R8). -/
def State.reckonExit (s : State) (r : Record) : State :=
  (s.replaceRecord { r with stage := .leaving, lead := some r.p }).exitSteps r.tag none

/-- An INSIDE record at the ironer whose exit lane has no eye advances at once where its p is at or behind input B (R82). -/
def State.reckonExitIfPassed (s : State) (tag : Tag) : State :=
  match s.findRecord tag with
  | some r =>
    if s.role = some .ironer ∧ r.stage = .inside ∧ (s.eyeAt .exit r.lane).isNone ∧ atOrPast (s.pos .b) r.p then
      s.reckonExit r
    else s
  | none => s

/-- The advance of a record by dead reckoning (R58, R82). -/
def State.reckon (s : State) (r : Record) : State :=
  match s.role, r.stage with
  | some .feed, .pending =>
    s.replaceRecord { r with stage := .inside, lead := some r.p }
  | some .ironer, .pending =>
    let r' := s.rebased r (s.pos .b) .inside
    ((s.replaceRecord r').markFresh r.tag).reckonExitIfPassed r.tag
  | some .ironer, .inside => s.reckonExit r
  | some .ironer, .leaving => s.removeRecord r .departed none
  | some .outlet, .pending =>
    (s.replaceRecord { r with stage := .entering, lead := some r.p }).route r.tag
  | _, _ => s

/-- A record that comes to await dead reckoning with its p at or behind the current position advances at once (R82). -/
def State.reckonIfPassed (s : State) (tag : Tag) : State :=
  match s.findRecord tag with
  | some r =>
    match r.stage, s.reckoningAt r with
    | .leaving, _ => s
    | _, some p => if atOrPast (s.pos r.basis) p then s.reckon r else s
    | _, none => s
  | none => s

end Sys2Proof.Machine
end

