-- ==== Sys2Proof/Machine/Matching.lean ====
section
/-! DEFINITION. Edge matching and verification (chapter 05): leading and trailing edges, strays, length verdicts, window
closure, doubles, blocked passes, misses. -/

namespace Sys2Proof.Machine

/-- An edge as the eye unit delivers it (R23): its eye, its kind, and the snapshots of both inputs. -/
structure Edge where
  eye : EyeIx
  leading : Bool
  snapA : Pos
  snapB : Pos
deriving DecidableEq, Repr

def Edge.snap (x : Edge) : TravelInput → Pos
  | .a => x.snapA
  | .b => x.snapB

/-- The edge of a candidate accepted at an eye (R23). -/
def Candidate.edge (c : Candidate) (e : EyeIx) : Edge :=
  { eye := e, leading := c.level == .blocked, snapA := c.snapA, snapB := c.snapB }

/-- The capture: the snapshot of the eye's own input (R23). -/
def State.capture (s : State) (x : Edge) : Pos := x.snap (s.eye x.eye).set.input

/-! ### Who takes part at a checkpoint -/

/-- Awaiting a leading edge at a checkpoint (checkpoint table, R140). -/
def Record.awaitsLead (r : Record) : Checkpoint → Bool
  | .feed => r.stage == .pending && !r.flags.spacer
  | .entry => r.stage == .pending && !r.flags.spacer
  | .exit => (r.stage == .inside || r.stage == .entering) && !r.flags.spacer
  | .outlet => r.stage == .pending && !r.flags.spacer

/-- Awaiting a trailing edge at a checkpoint. -/
def Record.awaitsTrail (r : Record) : Checkpoint → Bool
  | .exit => r.stage == .leaving
  | _ => r.stage == .entering

/-- Present for footprints at a checkpoint. -/
def Record.present (r : Record) : Checkpoint → Bool
  | .feed => r.stage == .pending || r.stage == .entering || r.stage == .inside
  | .entry => r.stage == .pending || r.stage == .entering || r.stage == .inside
  | .exit => r.stage == .inside || r.stage == .leaving
  | .outlet => r.stage == .pending || r.stage == .entering || r.stage == .leaving

/-- The anchor of a record at an eye, with its input (R69). -/
def State.anchor (s : State) (r : Record) (k : Checkpoint) (e : EyeIx) : TravelInput × Pos :=
  let off := (s.eye e).set.offset
  match k, r.entryB with
  | .entry, some b => (.b, Pos.plus b (off - s.offsetAt .entry r.lane))
  | _, _ => (r.basis, Pos.plus r.p off)

/-- The window at an eye contains the edge: a footprint of zero length (R15, R69, R70). -/
def State.inWindow (s : State) (r : Record) (k : Checkpoint) (x : Edge) : Bool :=
  let a := s.anchor r k x.eye
  inRange (x.snap a.1) (Pos.plus a.2 (-(r.h : Int))) (Pos.plus a.2 r.h)

/-- The footprint at an eye contains the edge (R69). -/
def State.inFootprint (s : State) (r : Record) (k : Checkpoint) (x : Edge) : Bool :=
  let a := s.anchor r k x.eye
  inRange (x.snap a.1) (Pos.plus a.2 (-(r.h : Int))) (Pos.plus a.2 (r.len + r.h))

/-! ### Checkpoint rules at a leading edge (R58, R60, R61, R76) -/

/-- A record leaves the set of those whose closure waits (R84). -/
def State.stopWaiting (s : State) (tag : Tag) : State := { s with waiting := s.waiting.filter fun w => w.tag != tag }

/-- A record moved on as at a leading-edge match with capture e at checkpoint k. At the IRONER entry `entryB` is the
companion capture, or its estimate; at the exit `captured` says whether the exit edge was captured (R141). -/
def State.advanceLead (s : State) (r : Record) (k : Checkpoint) (e entryB : Pos) (captured : Bool) : State :=
  let s0 := s.stopWaiting r.tag
  let p := Pos.plus e (-(s.offsetAt k r.lane))
  match k with
  | .feed => (s0.replaceRecord { r with stage := .entering, lead := some e, p := p }).clearIfMoved r
  | .entry => (s0.replaceRecord (s0.rebased r entryB .entering)).markFresh r.tag
  | .exit =>
    (s0.replaceRecord { r with stage := .leaving, lead := some e, p := p }).exitSteps r.tag
      (if captured then some e else none)
  | .outlet => (s0.replaceRecord { r with stage := .entering, lead := some e, p := p }).route r.tag

/-! ### Strays (R73 to R75) -/

/-- The upstream watch entry that gives a credit: smallest offset, first in the list among equals (R73, R134). -/
def creditIndex (watch : List WatchEntry) : Option Nat :=
  let offers := (watch.zipIdx).filter fun w => decide (0 < w.1.offset) && decide (1 ≤ w.1.credits)
  (offers.foldl (fun best w =>
    match best with
    | none => some w
    | some b => if w.1.offset < b.1.offset then some w else some b) none).map (·.2)

/-- One credit taken from an entry of the watch list. -/
def takeCredit (watch : List WatchEntry) (i : Nat) : List WatchEntry :=
  watch.zipIdx.map fun w => if w.2 = i then { w.1 with credits := w.1.credits - 1 } else w.1

/-- The stray record of an edge at a first checkpoint (R74). -/
def State.strayRecord (s : State) (tag : Tag) (flags : Flags) (k : Checkpoint) (x : Edge) : Record :=
  let e := s.capture x
  let lane := (s.eye x.eye).set.lane
  let r : Record :=
    { tag := tag, cls := Config.unknownClass, lot := Config.unknownLot, gate := none
      lanes := (1 : Lanes) <<< lane.val, nominal := 0, measured := none, stage := .entering, basis := .a
      p := Pos.plus e (-((s.eye x.eye).set.offset)), h := s.halfWidthFor 0 flags, lead := some e, entryB := none
      dest := none, flags := flags, order := 0 }
  match k with
  | .entry => s.rebased r x.snapB .entering
  | _ => r

/-- The credit of a stray taken from its entry (R73). -/
def State.spendCredit (s : State) (credit : Option Nat) : State :=
  match credit with
  | some i => { s with watch := takeCredit s.watch i }
  | none => s

/-- A stray (R73 to R75, R57). At the OUTLET its STRAY fault is recorded before a fault of its routing, where the spec gives
no order: a choice of the model (assumption log 39). -/
def State.stray (s : State) (k : Checkpoint) (x : Edge) : State :=
  let e := s.capture x
  let input := (s.eye x.eye).set.input
  if k = .exit then
    s.recordFault { kind := .stray, position := e, input := input, unit := some (.eye x.eye) }
  else if s.trainFull then
    s.recordFault { kind := .trainFull, position := s.pos .a, input := .a, unit := some (.eye x.eye) }
  else
    let credit := creditIndex s.watch
    let flags : Flags := { recovered := credit.isSome, stray := credit.isNone }
    let q := s.allocate
    let s1 := q.2.spendCredit credit
    let s2 := ((s1.addRecord (s1.strayRecord q.1 flags k x)).markFresh q.1).handToLots q.1 Config.unknownLot none
    let s3 := match credit with
      | some _ => s2
      | none => s2.recordFault
          { kind := .stray, position := e, input := input, tag := some q.1, lot := some Config.unknownLot
            unit := some (.eye x.eye) }
    match k with
    | .outlet => s3.route q.1
    | .feed => s3.clearIfPassed q.1
    | _ => s3

/-! ### Leading edges (R70 to R73) -/

def State.leadingEdge (s : State) (k : Checkpoint) (x : Edge) : State :=
  let lane := (s.eye x.eye).set.lane
  match s.train.find? fun r => r.awaitsLead k && r.lane == lane && s.inWindow r k x with
  | some r => s.advanceLead r k (s.capture x) x.snapB true
  | none =>
    if s.train.any fun r => r.awaitsTrail k && r.lane == lane && s.inFootprint r k x then s
    else if s.train.any fun r =>
      r.present k && hasLane r.lanes lane && r.lane != lane && s.inFootprint r k x then s
    else s.stray k x

/-! ### Trailing edges and length (R77 to R80) -/

/-- The measured length of a trailing edge (R78): on the eye's input from the lead capture, or on input B from entry_B at
the IRONER entry; absent where the difference is zero or less. -/
def State.measure (s : State) (r : Record) (k : Checkpoint) (x : Edge) : Option Nat :=
  let from_ := match k with
    | .entry => r.entryB
    | _ => r.lead
  let at_ := match k with
    | .entry => x.snapB
    | _ => s.capture x
  match from_ with
  | some a => if 0 < diff at_ a then some (diff at_ a).toNat else none
  | none => none

/-- |m − n| exceeds the tolerance of the record's class (R79). -/
def State.outOfTolerance (s : State) (r : Record) (m : Nat) : Bool :=
  decide ((s.classOf r.cls).tolerance < ((m : Int) - r.nominalUsed).natAbs)

/-- The length verdict (R79): no verdict for a STRAY or RECOVERED record. -/
def State.verdict (s : State) (r : Record) (m : Nat) (x : Edge) : State :=
  if r.flags.stray || r.flags.recovered then s
  else if s.outOfTolerance r m then
    (s.updateRecord r.tag fun y => { y with flags := { y.flags with length := true } }).recordFault
      { kind := .length, position := s.capture x, input := (s.eye x.eye).set.input, tag := some r.tag, lot := some r.lot
        unit := some (.eye x.eye) }
  else s

/-- The train moves a record on at a trailing edge (R77): INSIDE, LEAVING, or out with cause DEPARTED. `before` is the record
as the edge found it; only a measured length moves its clearance or departure position (R59, R155). -/
def State.advanceTrail (s : State) (before : Record) (k : Checkpoint) : State :=
  match s.findRecord before.tag with
  | none => s
  | some r =>
    match k with
    | .feed => (s.replaceRecord { r with stage := .inside }).clearIfMoved before
    | .entry => (s.replaceRecord { r with stage := .inside }).reckonExitIfPassed r.tag
    | .exit => s.removeRecord r .departed none
    | .outlet => (s.replaceRecord { r with stage := .leaving }).departIfMoved before

/-- The measured length set, judged, and at the outlet covered by the divert (R78, R79, R154). -/
def State.measured (s : State) (r : Record) (k : Checkpoint) (x : Edge) : State :=
  match s.measure r k x with
  | none => s
  | some m =>
    let s1 := (s.updateRecord r.tag fun y => { y with measured := some m }).verdict r m x
    if k = Checkpoint.outlet then s1.extendDivert r m else s1

/-- The record takes a trailing edge at an eye of the lane now. At a FEED length eye a record whose clearance position travel
has reached takes none, whether CLEARED has been taken or not: the edge finds no record, as after its clearance (R59). -/
def State.takesTrail (s : State) (k : Checkpoint) (lane : Lane) (r : Record) : Bool :=
  r.awaitsTrail k && r.lane == lane && !(k == .feed && atOrPast (s.pos .a) (s.clearanceAt r))

/-- The other DOUBLE records that advance with a DOUBLE record (R80). -/
def State.pairedWith (s : State) (r : Record) (k : Checkpoint) (lane : Lane) : List Record :=
  if r.flags.double then
    s.train.filter fun y => y.tag != r.tag && y.flags.double && s.takesTrail k lane y
  else []

/-- A trailing edge at a checkpoint (R77 to R80, R154). -/
def State.trailingEdge (s : State) (k : Checkpoint) (x : Edge) : State :=
  let lane := (s.eye x.eye).set.lane
  match s.train.find? (s.takesTrail k lane) with
  | none => s
  | some r =>
    (s.pairedWith r k lane).foldl (fun s y => s.advanceTrail y k) ((s.measured r k x).advanceTrail r k)

/-- An edge handed to the matcher (R68). -/
def State.edge (s : State) (x : Edge) : State :=
  match (s.eye x.eye).set.function.checkpoint with
  | none => s
  | some k => if x.leading then s.leadingEdge k x else s.trailingEdge k x

/-! ### Window closure (R81 to R89) -/

/-- The checkpoint, eye and closing position of the window a record keeps (R81, R15). -/
def State.windowOf (s : State) (r : Record) : Option (Checkpoint × EyeIx × Pos) :=
  match s.awaitsAt r with
  | none => none
  | some k =>
    match s.eyeAt k r.lane with
    | none => none
    | some e => some (k, e, Pos.plus r.p ((s.eye e).set.offset + r.h))

/-- The record carries OWN and the eye names its gate (R87). -/
def State.ownAtGateEye (s : State) (r : Record) (k : Checkpoint) (e : EyeIx) : Bool :=
  r.flags.own && k == .feed && r.gate == some (s.eye e).set.gate

/-- The first cause that applies to a miss (R87, R89). -/
def State.missCause (s : State) (r : Record) (k : Checkpoint) (e : EyeIx) : RemovalCause :=
  if k = .exit then .wrap
  else if r.flags.unverified then .clearedUnverified
  else if s.ownAtGateEye r k e then .releaseFail
  else .missed

/-- A miss: the closing record is removed (R87). -/
def State.miss (s : State) (r : Record) (k : Checkpoint) (e : EyeIx) : State :=
  s.removeRecord r (s.missCause r k e) (some (.eye e))

/-- Does the queue still hold the HANDOFF of a tag (R144)? -/
def State.handoffQueued (s : State) (tag : Tag) : Bool :=
  s.queue.any fun q =>
    match q.frame with
    | .handoff f => f.tag == tag
    | _ => false

/-- A record at the ironer that gains REJECT by a double at the exit after its HANDOFF has left the queue has a MARK queued
for its tag (R144). -/
def State.exitDoubleMark (s : State) (pre : Record) (k : Checkpoint) : State :=
  if k = .exit ∧ !pre.flags.reject ∧ !s.handoffQueued pre.tag then
    s.offerOrDrop (.mark pre.tag rejectMark) pre.tag
  else s

/-- The closing record moves on as at a match with capture p_eye; at the IRONER entry entry_B is the position of input B
less the record's H (R85, R86). -/
def State.passOn (s : State) (tag : Tag) (k : Checkpoint) (e : EyeIx) : State :=
  match s.findRecord tag with
  | none => s
  | some r =>
    s.advanceLead r k (Pos.plus r.p (s.eye e).set.offset) (Pos.plus (s.pos .b) (-(r.h : Int))) false

/-- The decision of a closure on the eye's accepted level: double, blocked pass or miss (R84 to R87). -/
def State.decideClosure (s : State) (r : Record) (k : Checkpoint) (e : EyeIx) (closing : Pos) : State :=
  match (s.eye e).accepted with
  | .clear => s.miss r k e
  | .blocked =>
    match s.train.find? fun y => y.awaitsTrail k && y.lane == r.lane && y.tag != r.tag with
    | none => s.passOn r.tag k e
    | some pre =>
      let s1 := (s.updateRecord pre.tag Record.doubled).updateRecord r.tag Record.doubled
      -- R144's MARK before R85's fault: a choice of the model (assumption log 39)
      let s2 := s1.exitDoubleMark pre k
      let s3 := s2.recordFault
        { kind := .double, position := closing, input := r.basis, tag := some r.tag, lot := some r.lot
          unit := some (.eye e) }
      s3.passOn r.tag k e

/-- An eye holds a candidate begun at or before the closing position, on the record's basis (R84). -/
def Eye.holdsBefore (x : Eye) (basis : TravelInput) (closing : Pos) : Bool :=
  match x.candidate with
  | none => false
  | some c => atOrPast closing (c.snap basis)

/-- A closure (R83, R84): it waits on the eye's candidate, or is decided. -/
def State.closeWindow (s : State) (r : Record) : State :=
  match s.windowOf r with
  | none => s
  | some (k, e, closing) =>
    if (s.eye e).holdsBefore r.basis closing then
      { s with waiting := s.waiting ++ [{ eye := e, tag := r.tag, widened := false }] }
    else s.decideClosure r k e closing

/-- A waiting closure decided afresh when its candidate has ended (R84): a record that awaits no more has left the set; one
that has gained UNVERIFIED while it waited, and whose closing position lies ahead, returns to awaiting; every other is
decided on the accepted level as it then stands, wherever travel has gone. -/
def State.redecide (s : State) (w : Waiting) : State :=
  match s.findRecord w.tag with
  | none => s
  | some r =>
    match s.windowOf r with
    | none => s
    | some (k, e, closing) =>
      if w.widened && !atOrPast (s.pos r.basis) closing then s else s.decideClosure r k e closing

/-- A record missed at its admission: its closing position is at or behind the current position (R88). -/
def State.missIfClosed (s : State) (tag : Tag) : State :=
  match s.findRecord tag with
  | none => s
  | some r =>
    match s.windowOf r with
    | none => s
    | some (k, e, closing) => if atOrPast (s.pos r.basis) closing then s.miss r k e else s

end Sys2Proof.Machine
end

