-- ==== Sys2Proof/Machine/Hold.lean ====
section
/-! DEFINITION. The hold unit (R125 to R129) and the conditions that suspend a gate (R95): own causes, holding, the holder
set, the announced state, HOLD frames. -/

namespace Sys2Proof.Machine

/-! ### Own causes (R126) -/

/-- JAM: at least one eye is jammed (R29). -/
def State.jamCause (s : State) : Bool := eyeIxs.any fun e => (s.eye e).jammed

/-- LEVEL: at least one LEVEL_HOLD eye is blocked (R30). -/
def State.levelCause (s : State) : Bool :=
  eyeIxs.any fun e =>
    (s.eye e).set.enable && (s.eye e).set.function == .levelHold && (s.eye e).accepted == .blocked

/-- The causes present, in the bit order of the HOLD reason: TRAIN, JAM, LEVEL, WRAP, CONTROLLER from bit 0 (R178). -/
def State.causes (s : State) : BitVec 5 :=
  oneBit s.lineHold ++ oneBit s.wrapAlarm ++ oneBit s.levelCause ++ oneBit s.jamCause ++ oneBit s.trainCause

/-- HOLDING: at least one cause is present, in every tracker state (R126). -/
def State.anyCause (s : State) : Bool := s.causes != 0

/-- The tracker is holding (R127). -/
def State.holding (s : State) : Bool := s.joined && s.anyCause

/-- The reason held for an address: the peer's, or the tracker's own, which is in the set exactly while it is holding
(R125, R127; assumption log 11). -/
def State.reasonHeld (s : State) (a : Addr) : Option (BitVec 5) :=
  if s.address = some a then (if s.holding then some s.announcedReason else none) else s.holder a

/-- The 32 line addresses. -/
def addrs : List Addr := (List.range 32).map fun n => BitVec.ofNat 5 n

/-- HELD: the holder set is non-empty (R128). -/
def State.held (s : State) : Bool := s.holding || addrs.any fun a => (s.reasonHeld a).isSome

/-! ### HOLD frames (R127) -/

/-- The holding condition differs from the announced state, and there is room for a HOLD. -/
def State.holdDue (s : State) : Bool :=
  s.holding != s.announced && s.queueRoom && s.mode != .conflict

/-- A HOLD frame queued with the holding condition and the causes present (none for off). -/
def State.queueHold (s : State) : State :=
  if s.holdDue then
    let reason : BitVec 5 := if s.holding then s.causes else 0
    { s.push (.hold s.holding reason) 0 with announced := s.holding, announcedReason := reason }
  else s

/-! ### Suspension (R95) -/

/-- A gate is suspended. -/
def State.suspended (s : State) (g : GateIx) : Bool :=
  (s.gate g).hold || (s.gate g).block || (s.gate g).lock || s.held || s.mode != .running || s.trainFull ||
    decide (Config.feedCapacity ≤ s.feedCount) || s.travelA.reverse

/-! ### Status conditions and ALERT (R198) -/

/-- GATE_EMPTY: at least one enabled gate is EMPTY (R94). -/
def State.gateEmpty (s : State) : Bool := gateIxs.any fun g => (s.gate g).set.enable && (s.gate g).state == .empty

/-- The status byte: FAULT_PENDING, WRAP, HOLDING, HELD, GATE_EMPTY, LOT_NOTICE, CONFLICT, STOPPED from bit 0. -/
def State.conditions (s : State) : Byte :=
  oneBit (s.mode == .stopped) ++ oneBit (s.mode == .conflict) ++ oneBit s.firstNotice.isSome ++ oneBit s.gateEmpty ++
    oneBit s.held ++ oneBit s.anyCause ++ oneBit s.wrapAlarm ++ oneBit (!s.faults.isEmpty || decide (0 < s.overflow))

/-- The ALERT pin follows the unmasked conditions. -/
def State.alertAfresh (s : State) : State := { s with alertPin := (s.conditions &&& s.alertMask) != 0 }

end Sys2Proof.Machine
end

