-- ==== Sys2Proof/Machine/Space.lean ====
section
/-! DEFINITION. The space unit (chapter 07): the free-space test, own and peer reservations, withdrawal, expiry. -/

namespace Sys2Proof.Machine

/-! ### Belt spans and the free-space test (R112, R113) -/

/-- The end q + len of a record's belt span [q, q + len). -/
def Record.spanEnd (r : Record) : Pos := Pos.plus r.p r.len

/-- A span of length L at s is clear of [q, e) by the gap G: diff(s, e) ≥ G or diff(q, s + L) ≥ G. -/
def clearOf (s : Pos) (len gap : Nat) (q e : Pos) : Bool :=
  decide ((gap : Int) ≤ diff s e) || decide ((gap : Int) ≤ diff q (Pos.plus s len))

/-- An own entry of a gate. -/
def Reservation.isOwn (r : Reservation) (g : GateIx) : Bool := r.own && r.gate == g

/-- The gate's own reservation, QUEUED or STANDING. -/
def State.ownReservation (s : State) (g : GateIx) : Option Reservation := s.reservations.find? (·.isOwn g)

/-- The span [at, at + L) with gap G is clear of every record and of every reservation but the gate's own (R112, R113). -/
def State.spanClear (s : State) (g : GateIx) (at_ : Pos) (len gap : Nat) : Bool :=
  let lanes := (s.gate g).set.lanes
  (s.train.all fun r => !lanesMeet r.lanes lanes || clearOf at_ len gap r.p r.spanEnd) &&
    (s.reservations.all fun r => r.isOwn g || !lanesMeet r.lanes lanes || clearOf at_ len gap r.start r.stop)

/-- A segment overlaps the belt span of some record on intersecting lanes. -/
def State.segmentHitsRecord (s : State) (lanes : Lanes) (start stop : Pos) : Bool :=
  s.train.any fun r => lanesMeet r.lanes lanes && overlaps start stop r.p r.spanEnd

/-- A segment overlaps a stored entry of the given kind on intersecting lanes. -/
def State.segmentHitsEntry (s : State) (lanes : Lanes) (start stop : Pos) (kind : Reservation → Bool) : Bool :=
  s.reservations.any fun r => kind r && lanesMeet r.lanes lanes && overlaps start stop r.start r.stop

/-! ### Gates as the space unit sees them -/

/-- W + A of a gate. -/
def State.dropWait (s : State) (g : GateIx) : Nat := (s.gate g).set.wait + (s.gate g).set.active

/-- Gap G of the item loaded at a gate: the minimum gap of its class. -/
def State.gateGap (s : State) (g : GateIx) : Nat :=
  match (s.gate g).cls with
  | some k => (s.classOf k).gap
  | none => 0

/-- Length L of the item loaded at a gate: the nominal length of its class. -/
def State.gateLength (s : State) (g : GateIx) : Nat :=
  match (s.gate g).cls with
  | some k => (s.classOf k).nominal
  | none => 0

/-- The alignment position c_a = segment start + G − W − A (R113). -/
def State.alignment (s : State) (g : GateIx) (r : Reservation) : Pos :=
  Pos.plus r.start ((s.gateGap g : Int) - s.dropWait g)

/-- Restarting a gate's patience (R115). -/
def State.restartPatience (s : State) (g : GateIx) : State := s.setGate g { s.gate g with patienceCount := 0 }

/-- The patience is reached while the count equals a non-zero patience setting (R115). -/
def State.patienceReached (s : State) (g : GateIx) : Bool :=
  (s.gate g).set.patience != 0 && (s.gate g).patienceCount == (s.gate g).set.patience

/-! ### Removing own entries (R117, R119) -/

/-- The gate's own entry out of the list. -/
def State.dropOwn (s : State) (g : GateIx) : State :=
  { s with reservations := s.reservations.filter fun r => !r.isOwn g }

/-- An own QUEUED entry voided: removed, its RESERVE taken from the queue, the gate's patience restarted (R117). -/
def State.voidQueued (s : State) (g : GateIx) : State := ((s.dropOwn g).voidReserve g).restartPatience g

/-- A WITHDRAW for a gate: queued where there is room, otherwise pending (R119). -/
def State.queueWithdraw (s : State) (g : GateIx) : State :=
  match s.offer (.withdraw g) with
  | some s' => s'
  | none => s.setGate g { s.gate g with withdrawPending := true }

/-- A gate's reservation withdrawn (R119), with no change to its patience. -/
def State.withdrawEntry (s : State) (g : GateIx) : State :=
  match s.ownReservation g with
  | none => s
  | some r =>
    match r.phase with
    | .queued => (s.dropOwn g).voidReserve g
    | .standing => (s.dropOwn g).queueWithdraw g

/-- A withdrawal that restarts the gate's patience: every one but at a commit or a suspension (R119). -/
def State.withdraw (s : State) (g : GateIx) : State :=
  match s.ownReservation g with
  | none => s
  | some _ => (s.withdrawEntry g).restartPatience g

/-- The space unit's part of a commit at drop crossing x: into the reservation it is consumed, elsewhere it is withdrawn
(R113, R119). -/
def State.reservationAtCommit (s : State) (g : GateIx) (x : Pos) : State :=
  match s.ownReservation g with
  | none => s
  | some r =>
    if x = Pos.plus r.start (s.gateGap g) then
      match r.phase with
      | .queued => (s.dropOwn g).voidReserve g
      | .standing => s.dropOwn g
    else s.withdrawEntry g

/-- Suspended gates hold no reservation (R95, R119): those suspended at this moment are withdrawn, their counts held. Their
WITHDRAW frames are queued in gate order, lowest first, where the spec gives none (a choice of the model, assumption log
39). -/
def State.withdrawSuspended (s : State) : State :=
  (gateIxs.filter s.suspended).foldl State.withdrawEntry s

/-! ### Sending a RESERVE (R116) -/

/-- Segment length L + 2G of the item loaded at a gate. -/
def State.segmentLength (s : State) (g : GateIx) : Nat := s.gateLength g + 2 * s.gateGap g

/-- A RESERVE of this gate would fill the queue again at a position where it has done so before (assumption log 46). -/
def State.reserveUndone (s : State) (g : GateIx) : Bool :=
  s.undoneReserves.contains g && decide (Config.feedCapacity ≤ s.feedCount + 1)

/-- All conditions for a gate's reservation hold at the current position. A reservation that the queue its own RESERVE fills
has undone is not made again at that position: a choice of the model (assumption log 46). -/
def State.canReserve (s : State) (g : GateIx) : Bool :=
  let x := s.gate g
  let start := Pos.plus (s.pos .a) x.set.lead
  let stop := Pos.plus start (s.segmentLength g)
  x.state == .ready && !s.suspended g && s.patienceReached g && (s.ownReservation g).isNone && !x.withdrawPending &&
    !s.segmentHitsRecord x.set.lanes start stop && !s.segmentHitsEntry x.set.lanes start stop (fun _ => true) &&
    decide (s.reservations.length < Config.reservationCapacity) && s.feedRoom && !s.reserveUndone g

/-- An own entry stored QUEUED, and its RESERVE queued; lead and length are filled at each attempt (R116, R117). -/
def State.sendReservation (s : State) (g : GateIx) : State :=
  let x := s.gate g
  let start := Pos.plus (s.pos .a) x.set.lead
  let entry : Reservation :=
    { reserver := s.ownAddress, gate := g, lanes := x.set.lanes, start := start
      stop := Pos.plus start (s.segmentLength g), own := true, phase := .queued }
  { s with reservations := s.reservations ++ [entry] }.push
    (.reserve { gate := g, lanes := x.set.lanes, lead := 0, length := 0 }) start

/-- A RESERVE that fills the queue suspends its own gate, whose entry is withdrawn at once (R95, R119): the gate has had its
turn at this position (assumption log 46). -/
def State.noteUndone (s : State) (g : GateIx) : State :=
  if (s.ownReservation g).isNone then { s with undoneReserves := g :: s.undoneReserves } else s

/-! ### RESERVE received (R118, R120) -/

/-- The gate's own entry heard back: it is STANDING. -/
def State.standOwn (s : State) (g : GateIx) : State :=
  { s with reservations := s.reservations.map fun x => if x.isOwn g then { x with phase := .standing } else x }

/-- The own RESERVE of a gate received back (R118). -/
def State.ownReserveHeard (s : State) (g : GateIx) : State :=
  match s.ownReservation g with
  | none => s.queueWithdraw g
  | some r =>
    if r.phase ≠ .queued then s.queueWithdraw g
    else if s.segmentHitsEntry r.lanes r.start r.stop (fun x => !x.isOwn g) ||
        s.segmentHitsRecord r.lanes r.start r.stop then
      ((s.dropOwn g).queueWithdraw g).restartPatience g
    else
      let s1 := s.standOwn g
      if atOrPast (s.pos .a) (s.alignment g r) then s1.withdraw g else s1

/-- Every own QUEUED entry that a segment overlaps on intersecting lanes is voided (R120). -/
def State.voidOverlapped (s : State) (lanes : Lanes) (start stop : Pos) : State :=
  gateIxs.foldl (fun s g =>
    if s.segmentHitsEntry lanes start stop (fun r => r.isOwn g && r.phase == .queued) then s.voidQueued g else s) s

/-- The stored entry of a peer's gate removed (R120, R122). -/
def State.dropPeer (s : State) (sender : Addr) (g : GateIx) : State :=
  { s with reservations := s.reservations.filter fun r => !(!r.own && r.reserver == sender && r.gate == g) }

/-- A peer's RESERVE (R120). `offset` is the sender's watch offset, so that D = −offset. -/
def State.peerReserve (s : State) (sender : Addr) (offset : Int) (f : ReserveFrame) : State :=
  let rx := s.pos .a
  let start := Pos.plus rx (f.lead.toNat + offset)
  let stop := Pos.plus start f.length.toNat
  let s1 := s.dropPeer sender f.gate
  if 0 ≤ diff rx stop then s1
  else if s1.segmentHitsEntry f.lanes start stop (fun r => !(r.own && r.phase == .queued)) ||
      s1.segmentHitsRecord f.lanes start stop then s1
  else if Config.reservationCapacity ≤ s1.reservations.length then s1
  else
    let entry : Reservation :=
      { reserver := sender, gate := f.gate, lanes := f.lanes, start := start, stop := stop, own := false
        phase := .standing }
    let s2 := s1.voidOverlapped f.lanes start stop
    { s2 with reservations := s2.reservations ++ [entry] }

/-- An own entry or a peer's reaching its segment end, or removed with it (R122): a peer's entry goes silently, an own one
restarts its gate's patience, and an own QUEUED one is void as well. -/
def State.expireEntry (s : State) (r : Reservation) : State :=
  if r.own then
    match r.phase with
    | .queued => s.voidQueued r.gate
    | .standing => (s.dropOwn r.gate).restartPatience r.gate
  else s.dropPeer r.reserver r.gate

/-- The reservation test of an admitted RELEASE (R121): every entry its belt span overlaps on intersecting lanes is removed,
an own one with its gate's patience restarted. -/
def State.breakReservations (s : State) (r : Record) : State :=
  (s.reservations.filter fun x => lanesMeet x.lanes r.lanes && overlaps x.start x.stop r.p r.spanEnd).foldl
    State.expireEntry s

end Sys2Proof.Machine
end

