-- ==== Sys2Proof/Machine/Gates.lean ====
section
/-! DEFINITION. The feed gates (chapter 06): commit conditions, item and spacer commits, the end of a release, lot changes
and their LOTMARKs, the settling of a release at STOP. -/

namespace Sys2Proof.Machine

/-! ### Commit conditions (R96) -/

/-- The drop crossing of a commit at the current position: c + W + A. -/
def State.dropAt (s : State) (g : GateIx) : Pos := Pos.plus (s.pos .a) (s.dropWait g)

/-- The item commit conditions of a gate hold at the current position. -/
def State.canCommit (s : State) (g : GateIx) : Bool :=
  (s.gate g).state == .ready && !s.suspended g && s.spanClear g (s.dropAt g) (s.gateLength g) (s.gateGap g) && s.queueRoom

/-- The spacer commit conditions of a gate hold at the current position; its gap is the minimum gap of class 0. -/
def State.canSpacer (s : State) (g : GateIx) : Bool :=
  (s.gate g).state == .empty && (s.gate g).gapRequest && !s.suspended g &&
    s.spanClear g (s.dropAt g) (s.gate g).set.spacerLength (s.classOf 0).gap && s.queueRoom

/-- A lower gate whose lanes intersect this one's would commit or reserve at the same position: it goes first (R96, R116). -/
def State.lowerGateFirst (s : State) (g : GateIx) : Bool :=
  gateIxs.any fun k =>
    decide (k.val < g.val) && lanesMeet (s.gate k).set.lanes (s.gate g).set.lanes &&
      (s.canCommit k || s.canSpacer k || s.canReserve k)

/-! ### Commits (R56, R97, R98) -/

/-- The record of an own commit at the current position (R56). -/
def State.commitRecord (s : State) (g : GateIx) (tag : Tag) (cls : Cls) (lot : Lot) (nominal : Nat) (flags : Flags) :
    Record :=
  let x := (s.gate g).set
  { tag := tag, cls := cls, lot := lot, gate := some g, lanes := x.lanes, nominal := nominal, measured := none
    stage := .pending, basis := .a, p := s.dropAt g
    h := s.halfWidthFor (s.dropWait g + s.offsetAt .feed (refLane x.lanes)) flags
    lead := none, entryB := none, dest := none, flags := flags, order := 0 }

/-- The RELEASE announcing an own record (R97, R98); offset and sequence are filled at transmission. -/
def releaseFrame (r : Record) (g : GateIx) : ReleaseFrame :=
  { tag := r.tag, cls := r.cls, gate := g, lot := r.lot, lanes := r.lanes, reject := r.flags.reject
    spacer := r.flags.spacer, length := BitVec.ofNat 12 r.nominal, offset := 0, seq := 0 }

/-- The train's part of a commit: a new record, handed to the lot unit and counted; its RELEASE is queued (R97 steps 1
and 2, R98). -/
def State.commitAnnounced (s : State) (g : GateIx) (cls : Cls) (lot : Lot) (nominal : Nat) (flags : Flags) :
    State × Tag :=
  let q := s.allocate
  let r := q.2.commitRecord g q.1 cls lot nominal flags
  let s1 := ((q.2.addRecord r).markFresh q.1).handToLots q.1 lot (some g)
  (s1.push (.release (releaseFrame r g)) r.p, q.1)

/-- The release span [c + W, c + W + A) requested of the gate's channel (R97 step 3). -/
def State.requestRelease (s : State) (g : GateIx) (c : Pos) (tag : Tag) : State :=
  let x := (s.gate g).set
  match x.channel with
  | some ch => (s.request ch (Pos.plus c x.wait) (Pos.plus c (x.wait + x.active)) (some tag)).1
  | none => s

/-- An item commit (R97). -/
def State.commitItem (s : State) (g : GateIx) : State :=
  let x := s.gate g
  match x.cls with
  | none => s
  | some cls =>
    let c := s.pos .a
    let q := s.commitAnnounced g cls (x.lot.getD Config.unknownLot) (s.classOf cls).nominal
      { own := true, reject := x.rejectNext }
    let s2 := (q.1.requestRelease g c q.2).reservationAtCommit g (s.dropAt g)
    s2.setGate g { s2.gate g with
      state := .releasing, rejectNext := false, lastRelease := some q.2.serial
      release := some {
        commit := c, stop := s.dropAt g, tag := q.2, spacer := false, begun := false, prevRejectNext := x.rejectNext
        prevLast := x.lastRelease } }

/-- A spacer commit (R98). -/
def State.commitSpacer (s : State) (g : GateIx) : State :=
  let x := s.gate g
  let q := s.commitAnnounced g 0 Config.unknownLot x.set.spacerLength { own := true, spacer := true }
  let s2 := q.1.reservationAtCommit g (s.dropAt g)
  s2.setGate g { s2.gate g with
    state := .releasing
    release := some {
      commit := s.pos .a, stop := s.dropAt g, tag := q.2, spacer := true, begun := x.set.wait == 0
      prevRejectNext := x.rejectNext, prevLast := x.lastRelease } }

/-- A spacer's release is begun: RUNNING, with input A at or past c + W (R98). -/
def State.spacerBeginDue (s : State) (g : GateIx) : Bool :=
  match (s.gate g).release with
  | some r =>
    (s.gate g).state == .releasing && r.spacer && !r.begun && s.mode == .running &&
      atOrPast (s.pos .a) (Pos.plus r.commit (s.gate g).set.wait)
  | none => false

def State.beginSpacer (s : State) (g : GateIx) : State :=
  s.setGate g { s.gate g with release := (s.gate g).release.map fun r => { r with begun := true } }

/-! ### Lot changes (R105, R106) -/

/-- The LOTMARK frame of a mark: its last tag carries the tracker's own address. -/
def State.markFrame (s : State) (g : GateIx) (m : LotMark) : Frame :=
  .lotmark { gate := g, old := m.old, new := m.new, last := m.last.map fun n => { origin := s.ownAddress, serial := n } }

/-- A WAITING mark queued where there is room (R106). -/
def State.queueMark (s : State) (g : GateIx) : State :=
  match (s.gate g).mark with
  | .waiting m =>
    match s.offer (s.markFrame g m) with
    | some s' => s'.setGate g { s.gate g with mark := .queued m }
    | none => s
  | _ => s

/-- WAITING marks queued in gate order, as far as the room goes (R106). -/
def State.queueMarks (s : State) : State := gateIxs.foldl State.queueMark s

/-- A lot change to lot n applied to an EMPTY gate (R105). -/
def State.applyLotChange (s : State) (g : GateIx) (n : Lot) : State :=
  let x := s.gate g
  (s.setGate g { x with
    lot := some n, lastRelease := none, lock := true
    mark := .waiting { old := x.lot.getD Config.unknownLot, new := n, last := x.lastRelease } }).queueMarks

/-- A lot change left pending is applied and cleared. -/
def State.applyPendingLot (s : State) (g : GateIx) : State :=
  match (s.gate g).lotPending with
  | some n => (s.setGate g { s.gate g with lotPending := none }).applyLotChange g n
  | none => s

/-- An own LOTMARK received back (R107). -/
def State.ownLotmarkHeard (s : State) (f : LotMarkFrame) : State :=
  let x := s.gate f.gate
  match x.mark with
  | .queued _ => if x.lot = some f.new then s.setGate f.gate { x with lock := false, mark := .none } else s
  | _ => s

/-! ### The end of a release (R99) -/

/-- The gate EMPTY, its release discarded, and the four actions of R99 in their order. -/
def State.endRelease (s : State) (g : GateIx) : State :=
  let x := s.gate g
  let spacer := match x.release with
    | some r => r.spacer
    | none => false
  (s.setGate g { x with
    state := .empty, cls := none, release := none, hold := x.hold || x.holdPending || x.set.autoHold
    holdPending := false, gapRequest := if spacer then false else x.gapRequest }).applyPendingLot g

/-- Travel A has reached the release end of a RELEASING gate. -/
def State.releaseEndDue (s : State) (g : GateIx) : Bool :=
  match (s.gate g).release with
  | some r => (s.gate g).state == .releasing && s.reached .a r.stop
  | none => false

/-! ### STOP during a release (R109, R110) -/

/-- The record of a cancelled commit removed, if it still stands (R109 step 1). -/
def State.cancelRecord (s : State) (g : GateIx) (tag : Tag) : State :=
  match s.findRecord tag with
  | some x => s.removeRecord x .cancelled (some (.gate g))
  | none => s

/-- A cancelled commit (R109). -/
def State.cancelRelease (s : State) (g : GateIx) (r : Release) : State :=
  let s1 := s.cancelRecord g r.tag
  let x := s1.gate g
  let y : Gate := { x with
    release := none, rejectNext := r.prevRejectNext, lastRelease := r.prevLast
    hold := x.hold || x.holdPending, holdPending := false }
  if r.spacer then (s1.setGate g { y with state := .empty }).applyPendingLot g
  else s1.setGate g { y with state := .ready, patienceCount := 0 }

/-- A release that had begun ends, with its STOP_ABORT fault (R110). -/
def State.stopRelease (s : State) (g : GateIx) (r : Release) : State :=
  let lot : Lot := match s.findRecord r.tag with
    | some x => x.lot
    | none => if r.spacer then Config.unknownLot else (s.gate g).lot.getD Config.unknownLot
  (s.endRelease g).recordFault
    { kind := .stopAbort, position := s.pos .a, input := .a, tag := some r.tag, lot := some lot, unit := some (.gate g) }

/-- A RELEASING gate settled at the entry into STOPPED: its pulse is aborted, or its begun field looked at (R109, R110). -/
def State.settleRelease (s : State) (g : GateIx) : State :=
  match (s.gate g).state, (s.gate g).release with
  | .releasing, some r =>
    if r.spacer then (if r.begun then s.stopRelease g r else s.cancelRelease g r)
    else
      match (s.gate g).set.channel with
      | none => s.stopRelease g r
      | some c =>
        let q := s.abort c r.tag
        match q.2 with
        | .aborted false => q.1.cancelRelease g r
        | _ => q.1.stopRelease g r
  | _, _ => s

/-- Every RELEASING gate settled, lowest first: the spec gives no order between gates (a choice of the model, assumption
log 39). -/
def State.settleReleases (s : State) : State := gateIxs.foldl State.settleRelease s

/-! ### Following up a command -/

/-- What follows every event at once (R35, R95, R198): suspended gates give up their reservations, the outputs and the ALERT
pin are taken afresh. A withdrawal can fill the queue and so suspend the other gates; the second pass sees to those. -/
def State.refresh (s : State) : State := s.withdrawSuspended.withdrawSuspended.outputsAfresh.alertAfresh

end Sys2Proof.Machine
end

