-- ==== Sys2Proof/Machine/Eyes.lean ====
section
/-! DEFINITION. The eye unit (chapter 02): the filter, accepted changes, the re-take, jams; and the commands EYE_RAW_CHANGE,
EDGE_ACCEPTED and JAM. -/

namespace Sys2Proof.Machine

abbrev Outcome := Host.Outcome State Fault Refusal

/-! ### One eye -/

/-- The raw level: the pin read through the polarity (R21). -/
def Eye.raw (x : Eye) : Level := if x.pinHigh != x.set.polarity then .blocked else .clear

/-- A checkpoint eye; a LEVEL_HOLD eye keeps no blocked-distance count and delivers no edges (R24, R28). -/
def Eye.isCheckpoint (x : Eye) : Bool := x.set.function != .levelHold

/-- The blocked-distance count started, or absent at a LEVEL_HOLD eye (R28). -/
def Eye.startCount (x : Eye) : Option Nat := if x.isCheckpoint then some 0 else none

/-- A change of the accepted level: BLOCKED starts the count, CLEAR ends it and lifts a jam (R28, R29). The channel holds no
candidate afterwards. -/
def Eye.become (x : Eye) (l : Level) : Eye :=
  match l with
  | .blocked => { x with accepted := .blocked, candidate := none, blockedDist := x.startCount }
  | .clear => { x with accepted := .clear, candidate := none, blockedDist := none, jammed := false }

/-- The re-take (R27): any candidate is discarded and the accepted level is the raw level; BLOCKED kept keeps its count. -/
def Eye.retake (x : Eye) : Eye :=
  if x.raw = x.accepted then { x with candidate := none } else x.become x.raw

/-- A counted forward step of the eye's input adds its increment to the candidate's distance (R23) and to the blocked
distance of an eye that is not jammed (R28). -/
def Eye.advance (x : Eye) (inc : Nat) : Eye :=
  { x with
    candidate := x.candidate.map fun c => { c with dist := c.dist + inc }
    blockedDist := if x.jammed then x.blockedDist else x.blockedDist.map (· + inc) }

/-- A candidate has persisted for Fd millimetres (R23). -/
def Eye.acceptDue (x : Eye) : Bool :=
  match x.candidate with
  | some c => decide (x.set.filter ≤ c.dist)
  | none => false

/-- The blocked distance is above the jam length of an eye not yet jammed (R28). -/
def Eye.jamDue (x : Eye) : Bool :=
  !x.jammed &&
    match x.blockedDist with
    | some n => decide (x.set.jamLength < n)
    | none => false

/-! ### On the tracker -/

/-- The eye runs: it is enabled and the tracker is JOINING, RUNNING, STOPPED or CONFLICT (R21). -/
def State.eyeRuns (s : State) (e : EyeIx) : Bool := s.joined && (s.eye e).set.enable

/-- An edge is handed to the matcher: of a checkpoint eye, in RUNNING or STOPPED, its input not moving in reverse (R24,
R26). -/
def State.delivers (s : State) (e : EyeIx) : Bool :=
  s.live && (s.eye e).isCheckpoint && !(s.travel (s.eye e).set.input).reverse

/-- A closure that waits, decided if it still does: an edge or a closure before it may have taken it out of the set (R84). -/
def State.decideWaiting (s : State) (w : Waiting) : State :=
  if s.waiting.any fun y => y.tag == w.tag then ((s.stopWaiting w.tag).redecide w).refresh else s

/-- The end of an eye's candidate: each closure waiting on it is decided, an event of its own, in the order in which they
began to wait (R84; the order is the model's, assumption log 38). In CONFLICT the train is held and nothing is decided
(R83). -/
def State.candidateEnded (s : State) (e : EyeIx) : State :=
  if !s.live then s else (s.waiting.filter fun w => w.eye == e).foldl State.decideWaiting s

/-- Acceptance of a candidate (R23): the level changes, the edge is delivered, and then the closures still waiting on the
candidate are decided (R84). -/
def State.acceptCandidate (s : State) (e : EyeIx) (c : Candidate) : State :=
  let s1 := s.setEye e ((s.eye e).become c.level)
  let s2 := if s1.delivers e then (s1.edge (c.edge e)).refresh else s1
  s2.candidateEnded e

/-- The candidate of an eye accepted where its distance has been reached. -/
def State.acceptIfDue (s : State) (e : EyeIx) : State :=
  match (s.eye e).candidate with
  | some c => if s.eyeRuns e && (s.eye e).acceptDue then s.acceptCandidate e c else s
  | none => s

/-- A new candidate at this sample (R22), accepted at once with Fd = 0 (R23). -/
def State.startCandidate (s : State) (e : EyeIx) : State :=
  let x := s.eye e
  (s.setEye e { x with
    candidate := some { level := x.raw, snapA := s.pos .a, snapB := s.pos .b, dist := 0 } }).acceptIfDue e

/-- One sample of an eye whose pin has been set (R22). -/
def State.filterSample (s : State) (e : EyeIx) : State :=
  let x := s.eye e
  if x.raw = x.accepted then
    match x.candidate with
    | some _ => (s.setEye e { x with candidate := none }).candidateEnded e
    | none => s
  else
    match x.candidate with
    | some _ => s
    | none => s.startCandidate e

/-! ### EYE_RAW_CHANGE (R21, R22) -/

/-- A sample of the pin: a candidate whose distance has been reached is accepted first, then the sample is filtered. The pin
of an eye that does not run is not sampled. A jam that the last step has brought due and JAM has not yet taken is lifted,
without its fault, where the sample clears the eye at once: a choice of the model (assumption log 44). -/
def State.onEyeRawChange (s : State) (e : EyeIx) (high : Bool) : State :=
  let s1 := s.acceptIfDue e
  let s2 := s1.setEye e { s1.eye e with pinHigh := high }
  if s2.eyeRuns e then (s2.filterSample e).refresh else s2

def execEyeRawChange (e : EyeIx) (high : Bool) (s : State) : Outcome := .next (s.onEyeRawChange e high)

/-! ### EDGE_ACCEPTED (R23) -/

def State.onEdgeAccepted (s : State) (e : EyeIx) : State :=
  if s.eyeRuns e && (s.eye e).acceptDue then (s.acceptIfDue e).refresh else s

def execEdgeAccepted (e : EyeIx) (s : State) : Outcome := .next (s.onEdgeAccepted e)

/-! ### JAM (R28) -/

/-- The eye becomes jammed; one JAM fault with the eye's input position. A jam still due when the eye clears, or at LEAVE, is
not recorded: a choice of the model (assumption log 44). -/
def State.onJam (s : State) (e : EyeIx) : State :=
  if s.eyeRuns e && (s.eye e).jamDue then
    ((s.setEye e { s.eye e with jammed := true }).recordFault
      { kind := .jam, position := s.pos (s.eye e).set.input, input := (s.eye e).set.input, unit := some (.eye e) }).refresh
  else s

def execJam (e : EyeIx) (s : State) : Outcome := .next (s.onJam e)

end Sys2Proof.Machine
end

