-- ==== Sys2Proof/Machine/Events.lean ====
section
/-! DEFINITION. What travel brings due (R8): the commands PULSE_RETIRED, WINDOW_CLOSURE, DEAD_RECKONING, CLEARED and
DEPARTED. Each acts only where its own position has been reached and no other event of its kind comes before it. -/

namespace Sys2Proof.Machine

/-! ### PULSE_RETIRED (R43) -/

def State.onPulseRetired (s : State) (c : ChannelIx) : State :=
  if s.retirementDue c then (s.retirePulses c).refresh else s

def execPulseRetired (c : ChannelIx) (s : State) : Outcome := .next (s.onPulseRetired c)

/-! ### Positions of a record that travel has reached -/

/-- What travel can bring due for a record. -/
inductive TravelEvent where
  | closure
  | reckoning
  | clearance
  | departure
deriving DecidableEq, Repr

/-- The position at which an event of a record comes due, where the tracker takes such events (RUNNING or STOPPED). -/
def State.eventAt (s : State) (r : Record) : TravelEvent → Option Pos
  | .closure =>
    if s.waiting.any (fun w => w.tag == r.tag) || s.freshWindows.contains r.tag then none
    else (s.windowOf r).map fun w => w.2.2
  | .reckoning => if s.freshWindows.contains r.tag then none else s.reckoningAt r
  | .clearance => if s.role = some .feed then some (s.clearanceAt r) else none
  | .departure => if s.role = some .outlet then s.departureAt r else none

/-- An event due: how far from the start of the step it lies, its kind, its record. -/
structure Due where
  at_ : Int
  kind : TravelEvent
  tag : Tag
deriving DecidableEq, Repr

/-- The event of a record that the step still being acted on has reached. -/
def State.dueOf (s : State) (r : Record) (k : TravelEvent) : Option Due :=
  match s.lastStep, s.eventAt r k with
  | some st, some p =>
    if s.live && s.reached r.basis p then some { at_ := diff p st.before, kind := k, tag := r.tag } else none
  | _, _ => none

/-- All events due of the given kinds, record by record in train order. -/
def State.dueEvents (s : State) (kinds : List TravelEvent) : List Due :=
  s.train.flatMap fun r => kinds.filterMap (s.dueOf r)

/-- The first in the order of positions along the belt; among equal positions the first of the list (R83). -/
def firstDue : List Due → Option Due
  | [] => none
  | x :: rest =>
    match firstDue rest with
    | none => some x
    | some y => if y.at_ < x.at_ then some y else some x

/-- Within one record, a closure goes before a clearance at the same position or ahead of it (R59). -/
def State.yields (s : State) (r : Record) (x : Due) : Bool :=
  match x.kind with
  | .closure => match s.dueOf r .clearance with
    | some y => decide (y.at_ < x.at_)
    | none => false
  | .clearance => match s.dueOf r .closure with
    | some y => decide (y.at_ ≤ x.at_)
    | none => false
  | _ => false

/-- The record whose event of this kind is to be taken, if it is the one named: the first along the belt, and at equal
positions the first of the train. R83 and R155 order closures and departures so. For clearances and dead reckonings of
several records the spec gives no order, and the same one is taken: a choice of the model (assumption log 45). -/
def State.dueRecord (s : State) (k : TravelEvent) (tag : Tag) : Option Record :=
  match firstDue (s.dueEvents [k]), s.findRecord tag with
  | some x, some r => if x.tag = tag ∧ s.yields r x = false then some r else none
  | _, _ => none

/-- An event of a record taken: a window closure (R83), dead reckoning (R82), clearance (R59), departure (R155). -/
def State.takeEvent (s : State) (r : Record) : TravelEvent → State
  | .closure => s.closeWindow r
  | .reckoning => s.reckon r
  | .clearance => s.removeRecord r .cleared none
  | .departure => s.depart r

/-- The first of all events due, whatever its kind. -/
def State.nextDue (s : State) : Option (TravelEvent × Record) :=
  match firstDue (s.dueEvents [.closure, .reckoning, .clearance, .departure]) with
  | none => none
  | some x => (s.findRecord x.tag).map fun r => (x.kind, r)

/-! ### WINDOW_CLOSURE (R83 to R89) -/

def State.onWindowClosure (s : State) (tag : Tag) : State :=
  match s.dueRecord .closure tag with
  | some r => (s.takeEvent r .closure).refresh
  | none => s

def execWindowClosure (tag : Tag) (s : State) : Outcome := .next (s.onWindowClosure tag)

/-! ### DEAD_RECKONING (R82) -/

def State.onDeadReckoning (s : State) (tag : Tag) : State :=
  match s.dueRecord .reckoning tag with
  | some r => (s.takeEvent r .reckoning).refresh
  | none => s

def execDeadReckoning (tag : Tag) (s : State) : Outcome := .next (s.onDeadReckoning tag)

/-! ### CLEARED (R59) -/

def State.onCleared (s : State) (tag : Tag) : State :=
  match s.dueRecord .clearance tag with
  | some r => (s.takeEvent r .clearance).refresh
  | none => s

def execCleared (tag : Tag) (s : State) : Outcome := .next (s.onCleared tag)

/-! ### DEPARTED (R155, R156) -/

def State.onDeparted (s : State) (tag : Tag) : State :=
  match s.dueRecord .departure tag with
  | some r => (s.takeEvent r .departure).refresh
  | none => s

def execDeparted (tag : Tag) (s : State) : Outcome := .next (s.onDeparted tag)

end Sys2Proof.Machine
end

