-- ==== Sys2Proof/Machine/GateEvents.lean ====
section
/-! DEFINITION. The gates' and the space unit's own events: commits, spacers, release ends, patience, reservations, and the
frames that wait for room. Each acts only where its own condition holds (assumption log 2). -/

namespace Sys2Proof.Machine

/-! ### GATE_COMMIT (R96, R97) and SPACER_COMMIT (R98) -/

def State.onGateCommit (s : State) (g : GateIx) : State :=
  if s.canCommit g && !s.lowerGateFirst g then (s.commitItem g).refresh else s

def execGateCommit (g : GateIx) (s : State) : Outcome := .next (s.onGateCommit g)

def State.onSpacerCommit (s : State) (g : GateIx) : State :=
  if s.canSpacer g && !s.lowerGateFirst g then (s.commitSpacer g).refresh else s

def execSpacerCommit (g : GateIx) (s : State) : Outcome := .next (s.onSpacerCommit g)

/-! ### SPACER_BEGUN (R98) and RELEASE_END (R99) -/

def State.onSpacerBegun (s : State) (g : GateIx) : State :=
  if s.spacerBeginDue g then s.beginSpacer g else s

/-- Every spacer whose release has come to its begin is begun (R98): "from the first moment". -/
def State.beginSpacers (s : State) : State := gateIxs.foldl State.onSpacerBegun s

def execSpacerBegun (g : GateIx) (s : State) : Outcome := .next (s.onSpacerBegun g)

def State.onReleaseEnd (s : State) (g : GateIx) : State :=
  if s.releaseEndDue g then (s.endRelease g).refresh else s

def execReleaseEnd (g : GateIx) (s : State) : Outcome := .next (s.onReleaseEnd g)

/-! ### PATIENCE_REACHED (R115) -/

/-- The count has come to the patience: it stands there and stops growing. -/
def State.patienceDue (s : State) (g : GateIx) : Bool :=
  (s.gate g).state == .ready && (s.gate g).set.patience != 0 &&
    decide ((s.gate g).set.patience ≤ (s.gate g).patienceCount)

def State.onPatienceReached (s : State) (g : GateIx) : State :=
  if s.patienceDue g then s.setGate g { s.gate g with patienceCount := (s.gate g).set.patience } else s

def execPatienceReached (g : GateIx) (s : State) : Outcome := .next (s.onPatienceReached g)

/-! ### RESERVATION_SENT (R116) -/

def State.onReservationSent (s : State) (g : GateIx) : State :=
  if s.canReserve g && !s.lowerGateFirst g then (s.sendReservation g).refresh.noteUndone g else s

def execReservationSent (g : GateIx) (s : State) : Outcome := .next (s.onReservationSent g)

/-! ### RESERVATION_VOID (R117) -/

/-- Travel A has reached the segment start or the alignment position of an own QUEUED entry. -/
def State.voidDue (s : State) (g : GateIx) : Bool :=
  match s.ownReservation g with
  | some r => r.phase == .queued && (s.reached .a r.start || s.reached .a (s.alignment g r))
  | none => false

def State.onReservationVoid (s : State) (g : GateIx) : State :=
  if s.voidDue g then (s.voidQueued g).refresh else s

/-- Every own QUEUED entry that the step being acted on has made void, removed with its frame (R117). -/
def State.voidReached (s : State) : State := gateIxs.foldl State.onReservationVoid s

def execReservationVoid (g : GateIx) (s : State) : Outcome := .next (s.onReservationVoid g)

/-! ### RESERVATION_WITHDRAWN (R119) -/

/-- Travel A has reached the alignment position of an own STANDING entry, and the gate does not commit there. -/
def State.alignmentMissed (s : State) (g : GateIx) : Bool :=
  match s.ownReservation g with
  | some r => r.phase == .standing && s.reached .a (s.alignment g r) && !s.canCommit g
  | none => false

def State.onReservationWithdrawn (s : State) (g : GateIx) : State :=
  if s.alignmentMissed g then (s.withdraw g).refresh else s

def execReservationWithdrawn (g : GateIx) (s : State) : Outcome := .next (s.onReservationWithdrawn g)

/-! ### RESERVATION_EXPIRY (R122) -/

/-- The entry of a reserver's gate, where travel A has reached its segment end. -/
def State.expired (s : State) (reserver : Addr) (g : GateIx) : Option Reservation :=
  s.reservations.find? fun r => r.reserver == reserver && r.gate == g && s.reached .a r.stop

def State.onReservationExpiry (s : State) (reserver : Addr) (g : GateIx) : State :=
  match s.expired reserver g with
  | some r => (s.expireEntry r).refresh
  | none => s

def execReservationExpiry (reserver : Addr) (g : GateIx) (s : State) : Outcome := .next (s.onReservationExpiry reserver g)

/-! ### LOTMARK_QUEUED (R106), WITHDRAW_QUEUED (R119), HOLD_QUEUED (R127) -/

/-- The mark of a gate waits, there is room, and no lower gate's mark waits (R106). -/
def State.markDue (s : State) (g : GateIx) : Bool :=
  s.feedRoom &&
    (match (s.gate g).mark with
      | .waiting _ => true
      | _ => false) &&
    gateIxs.all fun k => decide (g.val ≤ k.val) ||
      match (s.gate k).mark with
      | .waiting _ => false
      | _ => true

def State.onLotmarkQueued (s : State) (g : GateIx) : State :=
  if s.markDue g then (s.queueMark g).refresh else s

def execLotmarkQueued (g : GateIx) (s : State) : Outcome := .next (s.onLotmarkQueued g)

/-- A pending WITHDRAW finds room. -/
def State.withdrawDue (s : State) (g : GateIx) : Bool := (s.gate g).withdrawPending && s.feedRoom

def State.onWithdrawQueued (s : State) (g : GateIx) : State :=
  if s.withdrawDue g then
    ((s.setGate g { s.gate g with withdrawPending := false }).push (.withdraw g) 0).refresh
  else s

def execWithdrawQueued (g : GateIx) (s : State) : Outcome := .next (s.onWithdrawQueued g)

def State.onHoldQueued (s : State) : State := if s.holdDue then s.queueHold.refresh else s

def execHoldQueued (s : State) : Outcome := .next s.onHoldQueued

end Sys2Proof.Machine
end

