-- ==== Sys2Proof/Machine/TravelStep.lean ====
section
/-! DEFINITION. The commands TRAVEL_STEP and ILLEGAL_TRANSITION (R1 to R6, R9), and the settling of what a step has brought
due before the next counted step moves a position (assumption log 3). -/

namespace Sys2Proof.Machine

/-! ### Settling -/

/-- Train events taken one after another, first position first, until none is due; a record gives a handful at one step, so
the bound is never met (assumption log 3). -/
def State.settleTrain : Nat → State → State
  | 0, s => s
  | n + 1, s =>
    match s.nextDue with
    | none => s
    | some (k, r) => settleTrain n (s.takeEvent r k).refresh

/-- The most train events taken at one settling: four for each of 48 records and some to spare. -/
def trainEventLimit : Nat := 200

/-- The edges that have persisted long enough, then the train events that a step has reached: what the matcher and the train
owe before the tracker state changes (R110). -/
def State.settleMatching (s : State) : State := (eyeIxs.foldl State.onEdgeAccepted s).settleTrain trainEventLimit

/-- Every entry of the list that has reached its end expires. -/
def State.settleExpiries (s : State) : State :=
  s.reservations.foldl (fun s r => s.onReservationExpiry r.reserver r.gate) s

/-- The commit and reservation events of one gate. -/
def State.settleGate (s : State) (g : GateIx) : State := ((s.onGateCommit g).onSpacerCommit g).onReservationSent g

/-- Some gate would commit, reserve or withdraw at this position, or has a frame that finds room (R96, R106, R116, R119). -/
def State.gatesDue (s : State) : Bool :=
  gateIxs.any fun g =>
    s.canCommit g || s.canSpacer g || s.canReserve g || s.alignmentMissed g || s.markDue g || s.withdrawDue g

/-- One round over the gates: commits and reservations in gate order, then missed alignments, then the LOTMARK and WITHDRAW
frames that wait for room. -/
def State.gateRound (s : State) : State :=
  let s := gateIxs.foldl State.settleGate s
  let s := gateIxs.foldl State.onReservationWithdrawn s
  let s := gateIxs.foldl State.onLotmarkQueued s
  gateIxs.foldl State.onWithdrawQueued s

/-- The gates' events at one position, round after round until none is due. A withdrawal, a commit or a frame that fills the
queue can free the span of another gate, whose conditions are then taken afresh (R96, R116). -/
def State.settleGates : Nat → State → State
  | 0, s => s
  | n + 1, s => if s.gatesDue then settleGates n s.gateRound else s

/-- The most rounds at one settling, and some to spare. Every round but the last takes an event. At one position the four
gates give at most sixteen commits, missed alignments, LOTMARK and WITHDRAW frames, and four reservations that fill the
queue. Each of these twenty may undo the reservations of all four, which may then be sent again. -/
def gateRoundLimit : Nat := 120

/-- Everything that is due and has not been taken, in one order (assumption log 3): accepted edges, retired pulses, jams,
train events by position, release ends, begun spacers, patience, voided and expired reservations, then commits,
reservations, missed alignments and waiting LOTMARK and WITHDRAW frames until no gate has any, then a waiting HOLD. -/
def State.settle (s : State) : State :=
  let s := eyeIxs.foldl State.onEdgeAccepted s
  let s := channelIxs.foldl State.onPulseRetired s
  let s := eyeIxs.foldl State.onJam s
  let s := s.settleTrain trainEventLimit
  let s := gateIxs.foldl State.onReleaseEnd s
  let s := s.beginSpacers
  let s := gateIxs.foldl State.onPatienceReached s
  let s := s.voidReached
  let s := s.settleExpiries
  let s := s.settleGates gateRoundLimit
  s.onHoldQueued

/-! ### A counted step (R3, R4) -/

/-- An eye of the input at a counted forward step: at the first one after reverse travel the level is re-taken (R27), then
the increment is counted (R23, R28). -/
def Eye.atForwardStep (x : Eye) (first : Bool) (inc : Nat) : Eye :=
  (if first then x.retake else x).advance inc

/-- The step at one eye; where a re-take ends a candidate, the closures waiting on it are decided (R84). -/
def State.stepEye (s : State) (i : TravelInput) (first : Bool) (inc : Nat) (e : EyeIx) : State :=
  let x := s.eye e
  if s.eyeRuns e && x.set.input == i then
    let s1 := s.setEye e (x.atForwardStep first inc)
    if first && x.candidate.isSome then s1.candidateEnded e else s1
  else s

/-- The patience of a READY gate that is not suspended grows by a forward increment of input A until it is reached (R115): a
step that carries it across its setting reaches it, and it grows no further (R9). Suspension is read after the direction
and the eyes of the step, so the first forward step after reverse travel counts too: a choice of the model (assumption log
40). -/
def State.stepPatience (s : State) (inc : Nat) (g : GateIx) : State :=
  let x := s.gate g
  if x.state == .ready && !s.suspended g && decide (x.patienceCount < x.set.patience) then
    s.setGate g { x with patienceCount := min x.set.patience (x.patienceCount + inc) }
  else s

/-- The counters at a counted step, and the step kept for what it reaches (R3, R4, R8). -/
def State.countStep (s : State) (i : TravelInput) (sample : Bool × Bool) (reverse : Bool) : State :=
  let t := s.travel i
  { s.setTravel i { t.counted reverse with reference := some sample } with
    lastStep := some { input := i, before := t.position, forward := !reverse }, freshWindows := []
    undoneReserves := [] }

/-- A counted step handed to the blocks bound to the input (R4). What the outlet owes since reverse travel is taken before
the eyes (a choice of the model, assumption log 43). Eyes that are re-taken at one step are taken in the order E0
to E7, and with them the closures that wait on their candidates: the spec gives no order (a choice of the model,
assumption log 39). -/
def State.takeStep (s : State) (i : TravelInput) (sample : Bool × Bool) (reverse : Bool) : State :=
  let s1 := s.countStep i sample reverse
  if reverse then s1
  else
    let first := (s.travel i).reverse
    let inc := (diff (s1.pos i) (s.pos i)).toNat
    match i with
    | .a =>
      gateIxs.foldl (fun s g => s.stepPatience inc g)
        (eyeIxs.foldl (fun s e => s.stepEye .a first inc e) s1.payOutlet)
    | .b => eyeIxs.foldl (fun s e => s.stepEye .b first inc e) s1

/-! ### An illegal transition (R5) -/

/-- The sampled pair becomes the reference state; one ENCODER_SKIP fault with the held position. -/
def State.illegalStep (s : State) (i : TravelInput) (sample : Bool × Bool) : State :=
  ((s.setTravel i { s.travel i with reference := some sample }).recordFault
    { kind := .encoderSkip, position := s.pos i, input := i, unit := some (.travel i) }).refresh

/-! ### TRAVEL_STEP (R1, R2) -/

/-- A sample of the channel pair. An unused input is not decoded; with no reference state yet the sample is taken as the
reference and counts nothing (R1). -/
def State.onTravelSample (s : State) (i : TravelInput) (sample : Bool × Bool) : State :=
  let t := s.travel i
  if t.pitch = 0 then s
  else
    match t.reference with
    | none => s.setTravel i { t with reference := some sample }
    | some ref =>
      match decodeSample t.inverted ref sample with
      | .nothing => s
      | .illegal => s.illegalStep i sample
      | .step reverse => (s.settle.takeStep i sample reverse).refresh

def execTravelStep (i : TravelInput) (ch1 ch2 : Bool) (s : State) : Outcome := .next (s.onTravelSample i (ch1, ch2))

/-! ### ILLEGAL_TRANSITION (R5) -/

/-- A sample in which both channels differ from the reference state. -/
def State.onIllegalTransition (s : State) (i : TravelInput) : State :=
  match (s.travel i).reference with
  | some ref => if (s.travel i).pitch = 0 then s else s.illegalStep i (!ref.1, !ref.2)
  | none => s

def execIllegalTransition (i : TravelInput) (s : State) : Outcome := .next (s.onIllegalTransition i)

end Sys2Proof.Machine
end

