-- ==== Sys2Proof/Machine/Reception.lean ====
section
/-! DEFINITION. Frames received from other senders (R184 to R186): the filter, the sequence check (R133), admission (R53 to
R55, R135, R136), and the rows RELEASE to JOIN_FRAME and DISCARDED_FRAME. -/

namespace Sys2Proof.Machine

/-! ### The watch list (R130, R132, R133) -/

/-- The watch entry of a sender. -/
def State.watchOf (s : State) (a : Addr) : Option WatchEntry := s.watch.find? fun w => w.address == a

def State.updateWatch (s : State) (a : Addr) (f : WatchEntry → WatchEntry) : State :=
  { s with watch := s.watch.map fun w => if w.address == a then f w else w }

/-- How many announcements are missing before a sequence: modulo 8, none at an unsynchronised entry. -/
def WatchEntry.missing (w : WatchEntry) (seq : Seq) : Nat :=
  match w.expected with
  | some e => (seq - e).toNat
  | none => 0

/-- An entry after the check of a sequence. -/
def WatchEntry.checked (w : WatchEntry) (seq : Seq) : WatchEntry :=
  { w with expected := some (seq + 1), credits := min Config.creditLimit (w.credits + w.missing seq) }

/-- The sequence check of an announcement from a watched sender (R133). -/
def State.sequenceCheck (s : State) (w : WatchEntry) (seq : Seq) (tag : Tag) : State :=
  if !s.serving then s
  else
    let s1 := s.updateWatch w.address fun x => x.checked seq
    if 0 < w.missing seq then
      s1.recordFault
        { kind := .missingAnnounce, position := s.pos .a, input := .a, tag := some tag, count := some (w.missing seq) }
    else s1

/-! ### Admission -/

/-- The tracker's first checkpoint, whose eye enters the window of an admitted record (R13, R136). -/
def State.firstCheckpoint (s : State) : Checkpoint :=
  match s.role with
  | some .ironer => .entry
  | some .outlet => .outlet
  | _ => .feed

/-- A fault of a refused admission (R53): the tag, the frame's lot, the position of input A. -/
def State.refusal (s : State) (k : FaultKind) (tag : Tag) (lot : Lot) : State :=
  s.recordFault { kind := k, position := s.pos .a, input := .a, tag := some tag, lot := some lot }

/-- The PENDING record of an admitted announcement, with p, H and LATE_ANNOUNCE as R11 to R14 and R136 give them. -/
def State.announcedRecord (s : State) (offset : Int) (field : BitVec 13) (r : Record) : Record :=
  let rx := s.pos .a
  let p := decodedCrossing rx offset field
  let eye := s.offsetAt s.firstCheckpoint r.lane
  { r with p := p, h := s.halfWidthFor (diff (Pos.plus p eye) rx) r.flags }

/-- Admission proper (R53 to R55, R12, R121, R88, R82, R59): the record joins the train and the lot unit is handed it; a
saturated offset is a fault; a RELEASE at a FEED tracker breaks reservations; a record whose window, crossing or clearance
lies behind is missed, advanced or cleared at once. The lot unit's fault (LOT_REOPENED, NOTICE_LOST or LOT_TABLE_FULL) is
recorded before LATE_ANNOUNCE, where the spec gives no order: a choice of the model (assumption log 39). -/
def State.takeIn (s : State) (r : Record) : State :=
  let s1 := (s.addRecord r).handToLots r.tag r.lot r.gate
  let s2 := if r.flags.lateAnnounce then
      s1.recordFault
        { kind := .lateAnnounce, position := s.pos .a, input := .a, tag := some r.tag, lot := some r.lot }
    else s1
  let s3 := if s.role = some .feed then s2.breakReservations r else s2
  ((s3.missIfClosed r.tag).reckonIfPassed r.tag).clearIfPassed r.tag

/-- The last four tests of R53 in their order, then R135, then admission. -/
def State.testedAdmission (s : State) (offset : Int) (tag : Tag) (lot : Lot) (lanes : Lanes) (r : Record) : State :=
  if lanes = 0 then s
  else if s.train.any fun x => x.tag == tag then s.refusal .duplicateTag tag lot
  else if s.trainFull then s.refusal .trainFull tag lot
  else if offset ≤ 0 then s
  else s.takeIn r

/-- The role admits a RELEASE (R53's table). -/
def State.admitsRelease (s : State) (spacer : Bool) : Bool :=
  match s.role with
  | some .feed => true
  | some .ironer => !spacer
  | _ => false

/-- The record of a RELEASE before its position is decoded (R54). -/
def releaseRecord (f : ReleaseFrame) : Record :=
  { tag := f.tag, cls := f.cls, lot := if f.spacer then Config.unknownLot else f.lot, gate := some f.gate
    lanes := f.lanes, nominal := f.length.toNat, measured := none, stage := .pending, basis := .a, p := 0, h := 1
    lead := none, entryB := none, dest := none
    flags := { reject := f.reject, spacer := f.spacer, lateAnnounce := saturated f.offset }, order := 0 }

/-- The record of a HANDOFF before its position is decoded (R55). -/
def handoffRecord (f : HandoffFrame) : Record :=
  { tag := f.tag, cls := f.cls, lot := f.lot, gate := f.gate, lanes := f.lanes, nominal := f.length.toNat
    measured := none, stage := .pending, basis := .a, p := 0, h := 1, lead := none, entryB := none, dest := none
    flags := Flags.ofHandoff f.flags (saturated f.offset), order := 0 }

/-! ### Each kind at its owners (R185) -/

/-- RELEASE from a watched sender: the sequence check, then admission. -/
def State.takeRelease (s : State) (sender : Addr) (f : ReleaseFrame) : State :=
  match s.watchOf sender with
  | none => s
  | some w =>
    let s1 := s.sequenceCheck w f.seq f.tag
    if s1.live && s1.admitsRelease f.spacer then
      s1.testedAdmission w.offset f.tag f.lot f.lanes (s1.announcedRecord w.offset f.offset (releaseRecord f))
    else s1

/-- HANDOFF from a watched sender: the sequence check, then admission at an OUTLET. -/
def State.takeHandoff (s : State) (sender : Addr) (f : HandoffFrame) : State :=
  match s.watchOf sender with
  | none => s
  | some w =>
    let s1 := s.sequenceCheck w f.seq f.tag
    if s1.live && s1.role == some .outlet then
      s1.testedAdmission w.offset f.tag f.lot f.lanes (s1.announcedRecord w.offset f.offset (handoffRecord f))
    else s1

/-- LOST (R63): the record leaves as LOST_REMOTE if it is PENDING. -/
def State.takeLost (s : State) (tag : Tag) : State :=
  match s.findRecord tag with
  | some r => if s.live && r.stage == .pending then s.removeRecord r .lostRemote none else s
  | none => s

/-- MARK (R64): the reject mark sets REJECT, any other value nothing. -/
def State.takeMark (s : State) (tag : Tag) (mark : Byte) : State :=
  if s.live && mark == rejectMark then s.markReject tag else s

/-- HOLD from another address (R125). -/
def State.takeHold (s : State) (sender : Addr) (on : Bool) (reason : BitVec 5) : State :=
  if s.address = some sender then s else s.setHolder sender (if on then some reason else none)

/-- RESERVE from a watched sender at a FEED tracker (R120). -/
def State.takeReserve (s : State) (sender : Addr) (f : ReserveFrame) : State :=
  match s.watchOf sender with
  | some w => if s.live && s.role == some .feed then s.peerReserve sender w.offset f else s
  | none => s

/-- WITHDRAW from a watched sender at a FEED tracker (R122). -/
def State.takeWithdraw (s : State) (sender : Addr) (g : GateIx) : State :=
  match s.watchOf sender with
  | some _ => if s.live && s.role == some .feed then s.dropPeer sender g else s
  | none => s

/-- JOIN from another address (R185): the last JOIN heard, the holder set (R125), the reservations (R122) and the sender's
watch entry (R132). A holding tracker announces its hold again. -/
def State.takeJoin (s : State) (sender : Addr) (role format : Byte) : State :=
  if s.address = some sender then s
  else
    let s1 := { s.setHolder sender none with
      lastJoin := some { address := sender, role := role, format := format }
      reservations := s.reservations.filter fun r => r.reserver != sender }
    let s2 := s1.updateWatch sender fun w => { w with expected := none, credits := 0 }
    if s2.holding && s2.mode != .conflict then { s2 with announced := false } else s2

/-- An accepted frame handed on by kind and sender (R185). -/
def State.handOn (s : State) (sender : Addr) : Frame → State
  | .hold on reason => s.takeHold sender on reason
  | .lost tag _ => s.takeLost tag
  | .mark tag m => s.takeMark tag m
  | .handoff f => s.takeHandoff sender f
  | .release f => s.takeRelease sender f
  | .reserve f => s.takeReserve sender f
  | .withdraw g => s.takeWithdraw sender g
  | .lotmark f => s.lotMarked sender f
  | .join role format => s.takeJoin sender role format

/-! ### Acceptance -/

/-- The head's attempt ends without completing (R179, R183, R187): the frame stays at the head, but a void RESERVE and a
frame left from before a LEAVE go; a HOLD among the latter sets the announced state to on. -/
def State.attemptEnded (s : State) : State :=
  match s.queue with
  | [] => s
  | q :: rest =>
    if !q.underWay then s
    else if q.orphan then
      match q.frame with
      | .hold _ _ => { s with queue := rest, announced := true }
      | _ => { s with queue := rest }
    else if q.void then { s with queue := rest }
    else { s with queue := { q with underWay := false } :: rest }

/-- An accepted frame carries the address in force and is not the tracker's own (R186). -/
def State.clash (s : State) (sender : Addr) : Bool := s.serving && s.address == some sender

/-- The entry into CONFLICT (R186, R196). -/
def State.enterConflict (s : State) : State :=
  { s with mode := .conflict, settling := none }.recordFault
    { kind := .addressConflict, position := s.pos .a, input := .a }

/-- A frame of another sender accepted (R184 to R186). An attempt of the tracker's own has lost arbitration to it (assumption
log 12), and the bus is not idle. -/
def State.accept (s : State) (sender : Addr) (f : Frame) : State :=
  let s1 := { s.attemptEnded with busIdle := false }
  if s1.mode = .config then s1
  else if s1.clash sender then s1.enterConflict.refresh
  else (s1.handOn sender f).refresh

/-! ### The frame rows -/

def execRelease (sender : Addr) (f : ReleaseFrame) (s : State) : Outcome := .next (s.accept sender (.release f))

def execHandoff (sender : Addr) (f : HandoffFrame) (s : State) : Outcome := .next (s.accept sender (.handoff f))

def execLost (sender : Addr) (tag : Tag) (cause : Byte) (s : State) : Outcome := .next (s.accept sender (.lost tag cause))

def execMark (sender : Addr) (tag : Tag) (mark : Byte) (s : State) : Outcome := .next (s.accept sender (.mark tag mark))

def execHold (sender : Addr) (on : Bool) (reason : BitVec 5) (s : State) : Outcome :=
  .next (s.accept sender (.hold on reason))

def execReserve (sender : Addr) (f : ReserveFrame) (s : State) : Outcome := .next (s.accept sender (.reserve f))

def execWithdraw (sender : Addr) (g : GateIx) (s : State) : Outcome := .next (s.accept sender (.withdraw g))

def execLotmark (sender : Addr) (f : LotMarkFrame) (s : State) : Outcome := .next (s.accept sender (.lotmark f))

def execJoinFrame (sender : Addr) (role format : Byte) (s : State) : Outcome :=
  .next (s.accept sender (.join role format))

/-- DISCARDED_FRAME (R184): bits that fail a check reach no owner and record no fault. Bits that pass are a frame like any
other. -/
def execDiscardedFrame (bits : List Bool) (s : State) : Outcome :=
  match Frame.receive bits with
  | none => .next { s.attemptEnded with busIdle := false }
  | some (sender, f) => .next (s.accept sender f)

end Sys2Proof.Machine
end

