-- ==== Sys2Proof/Machine/Bus.lean ====
section
/-! DEFINITION. The transmitter (chapter 11): BUS_IDLE, TX_ATTEMPT_START, ARBITRATION_LOST, BUS_ERROR, TX_COMPLETE, with what
each owner does with its own frame heard back or abandoned. -/

namespace Sys2Proof.Machine

/-! ### BUS_IDLE (R175) -/

/-- The receiver judges the bus idle; while the tracker sends, it is not. -/
def State.onBusIdle (s : State) : State := if s.attempting then s else { s with busIdle := true }

def execBusIdle (s : State) : Outcome := .next s.onBusIdle

/-! ### TX_ATTEMPT_START (R179, R181) -/

/-- The fields that describe the attempt (R10, R117, R144), and the sequence stamped at the first one (R131). A HANDOFF whose
record has departed keeps its flags as last taken, so a LENGTH gained at the exit trailing edge is in no frame: a choice
of the model between two sentences of R146 (assumption log 41). A RESERVE whose gate holds no own entry at its start bit
announces none: no rule states its lead and length, which are free values (assumption log 47). -/
def State.filledFrame (s : State) (q : TxFrame) : Frame :=
  match q.frame with
  | .release f =>
    .release { f with offset := edgeOffset (s.pos .a) q.edge, seq := if q.stamped then f.seq else s.passageSeq }
  | .handoff f =>
    .handoff { f with
      offset := edgeOffset (s.pos .b) q.edge, seq := if q.stamped then f.seq else s.passageSeq
      flags := match s.findRecord f.tag with
        | some r => r.flags.handoff
        | none => f.flags }
  | .reserve f =>
    match s.ownReservation f.gate with
    | some r => .reserve { f with
        lead := BitVec.ofInt 16 (diff r.start (s.pos .a)), length := BitVec.ofInt 16 (diff r.stop r.start) }
    | none => .reserve { f with lead := freeWord s.freeDraws, length := freeWord (s.freeDraws + 2) }
  | f => f

/-- How many free bytes an attempt draws: the four of a RESERVE whose gate holds no own entry (assumption log 47). -/
def State.attemptDraws (s : State) : Frame → Nat
  | .reserve f => if (s.ownReservation f.gate).isNone then 4 else 0
  | _ => 0

/-- Does the frame take a passage sequence (R131)? -/
def takesSequence : Frame → Bool
  | .release _ => true
  | .handoff _ => true
  | _ => false

/-- The transmitter may start an attempt: the bus is idle, the tracker not in CONFLICT (R175, R179). -/
def State.canAttempt (s : State) : Bool := !s.attempting && s.busIdle && s.mode != .conflict

/-- The attempt starts under the address in force (R176): its fields are filled, and its bits stand on the bus
(`State.onWire`). -/
def State.startAttempt (s : State) : State :=
  match s.queue with
  | [] => s
  | q :: rest =>
    let stamps := takesSequence q.frame && !q.stamped
    { s with
      queue :=
        { q with
          frame := s.filledFrame q, sender := s.ownAddress, underWay := true
          stamped := takesSequence q.frame } :: rest
      passageSeq := if stamps then s.passageSeq + 1 else s.passageSeq
      busIdle := false, freeDraws := s.freeDraws + s.attemptDraws q.frame }

/-- The head frame's attempt. A RESERVE that travel has made void leaves the queue first, so that none is sent with a lead
that has run out (R117). -/
def State.onTxAttemptStart (s : State) : State := if s.canAttempt then s.voidReached.startAttempt else s

/-- The bits the transmitter sends: those of the frame under way, under the address in force at its start bit (R176). -/
def State.onWire (s : State) : Option (List Bool) :=
  (s.queue.find? (·.underWay)).map fun q => q.frame.bits q.sender

def execTxAttemptStart (s : State) : Outcome := .next s.onTxAttemptStart

/-! ### ARBITRATION_LOST (R179) -/

/-- The loss counts no failed attempt. -/
def State.onArbitrationLost (s : State) : State :=
  if s.attempting then { s.attemptEnded with busIdle := false }.refresh else s

def execArbitrationLost (s : State) : Outcome := .next s.onArbitrationLost

/-! ### BUS_ERROR (R180, R181) -/

/-- The tag a frame carries. -/
def carriedTag : Frame → Option Tag
  | .lost t _ => some t
  | .mark t _ => some t
  | .handoff f => some f.tag
  | .release f => some f.tag
  | .lotmark f => f.last
  | _ => none

/-- The lot a frame carries; of a LOTMARK the old one. -/
def carriedLot : Frame → Option Lot
  | .handoff f => some f.lot
  | .release f => some f.lot
  | .lotmark f => some f.old
  | _ => none

/-- The gate of a frame of a gate. -/
def frameGate : Frame → Option GateIx
  | .release f => some f.gate
  | .reserve f => some f.gate
  | .withdraw g => some g
  | .lotmark f => some f.gate
  | _ => none

def isHold (q : TxFrame) : Bool :=
  match q.frame with
  | .hold _ _ => true
  | _ => false

/-- The owner's treatment of an abandoned frame, which has left the queue (table of R181). -/
def State.handBack (s : State) (f : Frame) : State :=
  match f with
  | .lotmark m =>
    match (s.gate m.gate).mark with
    | .queued x => (s.setGate m.gate { s.gate m.gate with mark := .waiting x }).queueMarks
    | _ => s
  | .reserve r =>
    match s.ownReservation r.gate with
    | some x => if x.phase = .queued then (s.dropOwn r.gate).restartPatience r.gate else s
    | none => s
  | .hold on _ => if s.queue.any isHold then s else { s with announced := !on }
  | .join _ _ => if s.mode = .joining then { s.push f 0 with announced := false } else s
  | _ => s

/-- The TX_ABANDONED fault of a frame (R181). -/
def State.abandonedFault (s : State) (f : Frame) : State :=
  s.recordFault
    { kind := .txAbandoned, position := s.pos .a, input := .a, tag := carriedTag f, lot := carriedLot f
      unit := (frameGate f).map .gate, count := some Config.attemptLimit }

/-- A bus error in the head frame's attempt: one more failed attempt, the sixteenth abandons the frame. A void RESERVE and a
frame from before a LEAVE leave instead (R183, R187). -/
def State.failAttempt (s : State) : State :=
  match s.queue with
  | [] => s
  | q :: rest =>
    if q.orphan || q.void then s.attemptEnded
    else if Config.attemptLimit ≤ q.failed + 1 then
      ({ s with queue := rest }.abandonedFault q.frame).handBack q.frame
    else { s with queue := { q with underWay := false, failed := q.failed + 1 } :: rest }

def State.onBusError (s : State) : State :=
  if s.attempting then { s.failAttempt with busIdle := false }.refresh else s

def execBusError (s : State) : Outcome := .next s.onBusError

/-! ### TX_COMPLETE (R181, R184) -/

/-- JOINING ends when the timer has expired and the own JOIN has been heard back (R193). -/
def State.endJoining (s : State) : State :=
  match s.mode, s.settling with
  | .joining, some x =>
    if x.expired && x.heard then { s with mode := if s.stopPin then .stopped else .running, settling := none } else s
  | _, _ => s

/-- The own JOIN received back (R193). -/
def State.ownJoinHeard (s : State) : State :=
  { s with settling := s.settling.map fun (x : Settling) => { x with heard := true } }.endJoining

/-- An own frame received back, by its owner (R185): a RELEASE or HANDOFF ends at R53's second test, a HOLD or WITHDRAW
changes nothing. -/
def State.ownHeard (s : State) : Frame → State
  | .lost tag _ => s.takeLost tag
  | .mark tag m => s.takeMark tag m
  | .reserve f => if s.role = some .feed then s.ownReserveHeard f.gate else s
  | .lotmark f => (s.lotMarked s.ownAddress f).ownLotmarkHeard f
  | .join _ _ => s.ownJoinHeard
  | _ => s

/-- The attempt completes: the frame leaves the queue and is received back; in CONFIG, or when it stands from before a LEAVE,
it is discarded (R184, R187). -/
def State.onTxComplete (s : State) : State :=
  match s.queue with
  | [] => s
  | q :: rest =>
    if !q.underWay then s
    else
      let s1 := { s with queue := rest, busIdle := false }
      if q.orphan || s.mode == .config then s1.refresh else (s1.ownHeard q.frame).refresh

def execTxComplete (s : State) : Outcome := .next s.onTxComplete

end Sys2Proof.Machine
end

