-- ==== Sys2Proof/Machine/Control.lean ====
section
/-! DEFINITION. The control unit (chapter 12): POWER_ON, the STOP pin, the settle timer, JOIN and LEAVE. -/

namespace Sys2Proof.Machine

/-! ### POWER_ON (R6 and every block's power-on column) -/

/-- Every block at its power-on value. The levels of the pins and the commands waiting are outside the part's reset
(assumption log 16). -/
def State.powerOn (s : State) : State :=
  { State.reset with
    pending := s.pending, freeDraws := s.freeDraws, stopPin := s.stopPin
    eyes := s.eyes.map fun x => { Eye.reset with pinHigh := x.pinHigh } }

def execPowerOn (s : State) : Outcome := .next s.powerOn

/-! ### The STOP pin (R195) -/

/-- The entry into STOPPED from RUNNING: spacers that have come to their begin are begun (R98), releases are settled (R109,
R110); suspension withdraws the reservations (R124). -/
def State.onStopAsserted (s : State) : State :=
  let s1 := { s with stopPin := true }
  if s1.mode = .running then { s1.beginSpacers with mode := .stopped }.settleReleases.refresh else s1

def execStopAsserted (s : State) : Outcome := .next s.onStopAsserted

/-- A record that gains UNVERIFIED while its closure waits has its window widened (R84). -/
def State.widen (s : State) (w : Waiting) : Waiting :=
  { w with widened := w.widened || s.train.any fun r => r.tag == w.tag && !r.flags.unverified }

/-- The records whose window the gain of UNVERIFIED widens (R14). -/
def State.widenedTags (s : State) : List Tag := (s.train.filter fun r => !r.flags.doubles).map (·.tag)

/-- The return from STOPPED to RUNNING: what travel reached while STOPPED is decided first (R110), then every record gains
UNVERIFIED (R65) and the outputs are taken afresh (R45). A widened window is set at this moment: the step still being acted
on does not reach a closing position that it puts at or behind travel (R8). -/
def State.onStopReleased (s : State) : State :=
  let s1 := { s with stopPin := false }
  if s1.mode = .stopped then
    let s2 := s1.settleMatching
    { s2 with mode := .running, train := s2.train.map Record.unverify, waiting := s2.waiting.map s2.widen
              freshWindows := s2.widenedTags ++ s2.freshWindows }.refresh
  else s1

def execStopReleased (s : State) : Outcome := .next s.onStopReleased

/-! ### SETTLE_TIMER_EXPIRY (R193) -/

def State.onSettleTimer (s : State) : State :=
  match s.mode, s.settling with
  | .joining, some x =>
    if x.expired then s else { s with settling := some { x with expired := true } }.endJoining.refresh
  | _, _ => s

def execSettleTimerExpiry (s : State) : Outcome := .next s.onSettleTimer

/-! ### JOIN (R192) -/

/-- Pitch and inversion in force; an input that was unused takes its reference state from the next sample (R1, R6). -/
def Travel.load (t : Travel) (pitch inversion : Int) : Travel :=
  { t with
    pitch := BitVec.ofInt 16 pitch, inverted := decide (inversion = 1)
    reference := if t.pitch = 0 then none else t.reference }

/-- An eye with its settings in force: an enabled one starts from its first sample, without an edge (R19, R25). -/
def Eye.load (x : Eye) (set : EyeSettings) : Eye :=
  let y : Eye :=
    { set := set, pinHigh := x.pinHigh, accepted := .clear, candidate := none, blockedDist := none, jammed := false }
  if set.enable then y.become y.raw else y

/-- A channel with its settings in force and its owner (R33). -/
def Channel.load (c : Channel) (input : TravelInput) (mode : PulseMode) (owner : Owner) : Channel :=
  { c with input := input, mode := mode, owner := owner }

/-- A gate with its settings in force; the initial lot is loaded where the enabled gate has no lot yet (R93). -/
def Gate.load (x : Gate) (set : GateSettings) : Gate :=
  { x with set := set, lot := if set.enable && x.lot.isNone then some set.initialLot else x.lot }

/-- Travel, eyes, channels, gates, watch list, window, classes and water marks from the store (R192). TRAIN is absent at JOIN
(R126). -/
def State.loadCommon (s : State) : State :=
  let st := s.store
  { s with
    travelA := s.travelA.load (st.val 2 0 1) (st.val 2 0 2), travelB := s.travelB.load (st.val 2 1 1) (st.val 2 1 2)
    lastStep := none, freshWindows := [], undoneReserves := []
    eyes := Vector.ofFn fun e => (s.eye e).load (st.eyeSettings e)
    channels := Vector.ofFn fun c =>
      (s.channel c).load (inputOf (st.val 12 c.val 1)) (modeOf (st.val 12 c.val 2)) (st.ownerOf c)
    gates := Vector.ofFn fun g => (s.gate g).load (st.gateSettings g)
    watch := st.watchList
    baseWidth := (st.val 4 0 1).toNat, propWidth := (st.val 4 0 2).toNat
    classes := Vector.ofFn st.classSettings
    highMark := (st.val 7 0 1).toNat, lowMark := (st.val 7 0 2).toNat, trainCause := false
    address := some (BitVec.ofInt 5 (st.val 1 0 1)), role := st.role }

/-- The IRONER section and F at the JOIN of an IRONER (R138, R16). -/
def State.loadIroner (s : State) : State :=
  let x := s.store.ironerSettings
  { s with
    ironer := some x, slip := if !s.slipLoaded || x.reload then x.slipInitial else s.slip, slipLoaded := true }

/-- The outlet unit's settings at the JOIN of an OUTLET; the stack states are kept (R149, R160). -/
def State.loadOutlet (s : State) : State :=
  { s with
    dests := Vector.ofFn fun d => { s.dest d with set := s.store.destSettings d }
    rejectDest := fin4 (s.store.val 11 0 1), doubtfulToClass := decide (s.store.val 11 0 2 = 1) }

/-- The role section of the role in force (R192). -/
def State.loadRole (s : State) : State :=
  match s.role with
  | some .ironer => s.loadIroner
  | some .outlet => s.loadOutlet
  | _ => s

def Role.code : Role → Byte
  | .feed => 1
  | .ironer => 2
  | .outlet => 3

/-- The code of the role in force, 0 for none (R198's layout, R178). -/
def State.roleCode (s : State) : Byte :=
  match s.role with
  | some r => r.code
  | none => 0

/-- A JOIN of a descriptor that passes (R192): settings loaded, JOIN queued, JOINING entered with the settle timer started,
then the holding condition taken. -/
def State.joinLine (s : State) : State :=
  let s1 := s.loadCommon.loadRole
  let s2 := { s1 with mode := .joining, settling := some { expired := false, heard := false } }
  (s2.push (.join s2.roleCode Config.joinFormat) 0).queueHold

/-- The three bytes of an item identifier. -/
def ItemId.bytes (i : ItemId) : List MaskedByte := [full i.sec, full i.index, full i.field]

def State.onJoin (s : State) : State :=
  if s.mode ≠ .config then s.respond .state
  else
    match s.store.validate with
    | some item => s.respond .badDescriptor (ItemId.bytes item)
    | none => s.joinLine.refresh.respond .ok

def execJoin (s : State) : Outcome := .next s.onJoin

/-! ### LEAVE (R194) -/

/-- An eye at LEAVE: reset, its settings kept (R32). -/
def Eye.leave (x : Eye) : Eye :=
  { x with accepted := .clear, candidate := none, blockedDist := none, jammed := false }

/-- A channel at LEAVE: both slots empty, the output inactive (R46). -/
def Channel.leave (c : Channel) : Channel := { c with active := none, next := none, output := false }

/-- A gate at LEAVE: its settings, current lot and last release are kept (R111), its patience is 0 and no WITHDRAW is pending
(R124). -/
def Gate.leave (x : Gate) : Gate := { Gate.reset with set := x.set, lot := x.lot, lastRelease := x.lastRelease }

/-- A destination at LEAVE (R160); the channels are emptied, and an owed trigger with them. -/
def Dest.leave (x : Dest) : Dest := { x with count := 0, stackLot := 255, owed := none }

/-- The transmit queue at LEAVE: only a frame under way stays, to finish its attempt (R187). -/
def leaveQueue (q : List TxFrame) : List TxFrame :=
  q.filterMap fun x => if x.underWay then some { x with orphan := true } else none

/-- A HOLD that LEAVE discards from the queue sets the announced state to on (R187). -/
def leaveAnnounced (q : List TxFrame) (announced : Bool) : Bool :=
  announced || q.any fun x => isHold x && !x.underWay

/-- Every block's LEAVE reset (R194), then HOLD off where the announced state is on. -/
def State.leaveLine (s : State) : State :=
  let s1 := s.lotLeave
  State.queueHold { s1 with
    mode := .config, settling := none, lastStep := none, freshWindows := [], undoneReserves := []
    eyes := s.eyes.map Eye.leave, channels := s.channels.map Channel.leave
    train := [], waiting := [], trainCause := false
    gates := s.gates.map Gate.leave, reservations := []
    holders := Vector.replicate 32 none, exitRejectNext := false
    dests := s.dests.map Dest.leave
    watch := s.watch.map fun w => { w with expected := none, credits := 0 }
    queue := leaveQueue s.queue, announced := leaveAnnounced s.queue s.announced }

def State.onLeave (s : State) : State :=
  if s.mode = .config then s.respond .state else s.leaveLine.refresh.respond .ok

def execLeave (s : State) : Outcome := .next s.onLeave

end Sys2Proof.Machine
end

