-- ==== Sys2Proof/Machine/Port.lean ====
section
/-! DEFINITION. The port's commands that write (R188, R189): the descriptor, the gates, marks, holds, the alert mask, cut and
unknown transactions. -/

namespace Sys2Proof.Machine

/-! ### TRANSACTION_CUT (R188) and UNKNOWN_COMMAND (R189) -/

/-- A cut before the last parameter byte changes nothing; a cut during the response discards the rest of it, and the
command's effect stands. -/
def State.onTransactionCut (s : State) : Cut → State
  | .command _ => s
  | .response n => { s with response := s.response.take n }

def execTransactionCut (cut : Cut) (s : State) : Outcome := .next (s.onTransactionCut cut)

/-- A byte that names no command is answered BAD_PARAM; a byte that names one is no unknown command. -/
def State.onUnknownCommand (s : State) (code : Byte) : State :=
  match commandParams code with
  | none => s.respond .badParam
  | some _ => s

def execUnknownCommand (code : Byte) (s : State) : Outcome := .next (s.onUnknownCommand code)

/-! ### The descriptor (R190) -/

def State.onDescriptorWrite (s : State) (item : ItemId) (value : BitVec 32) : State :=
  if s.mode ≠ .config then s.respond .state
  else
    match ItemId.slot item with
    | none => s.respond .badParam
    | some k => { s with store := s.store.set k value }.respond .ok

def execDescriptorWrite (item : ItemId) (value : BitVec 32) (s : State) : Outcome := .next (s.onDescriptorWrite item value)

def State.onDescriptorRead (s : State) (item : ItemId) : State :=
  match ItemId.slot item with
  | none => s.respond .badParam
  | some k => s.respond .ok (bytesOf 4 (s.store[k]).toNat)

def execDescriptorRead (item : ItemId) (s : State) : Outcome := .next (s.onDescriptorRead item)

/-! ### Gate commands (R93, R94) -/

/-- A gate command: answered STATE outside JOINING, RUNNING and STOPPED, BAD_PARAM for a gate that is not enabled in force,
and otherwise taken by the gate. -/
def State.gateCommand (s : State) (g : Byte) (take : GateIx → State) : State :=
  if !s.serving then s.respond .state
  else
    match s.namedGate g with
    | none => s.respond .badParam
    | some i => take i

/-- LOAD (R100); the patience count starts at 0 (R115). -/
def State.loadGate (s : State) (cls : Byte) (g : GateIx) : State :=
  if 14 < cls.toNat then s.respond .badParam
  else if (s.gate g).state = .empty then
    (s.setGate g { s.gate g with state := .ready, cls := some (cls.setWidth 4), patienceCount := 0 }).refresh.respond .ok
  else s.respond .occupied

def execLoad (g cls : Byte) (s : State) : Outcome := .next (s.gateCommand g (s.loadGate cls))

/-- UNLOAD (R101): the reservation is withdrawn, and a lot change left pending is applied. -/
def State.unloadGate (s : State) (g : GateIx) : State :=
  if (s.gate g).state = .ready then
    ((((s.setGate g { s.gate g with state := .empty, cls := none }).withdraw g).applyPendingLot g).refresh).respond .ok
  else s.respond .state

def execUnload (g : Byte) (s : State) : Outcome := .next (s.gateCommand g s.unloadGate)

/-- HOLD SET (R102): hold, or hold-pending during a release. -/
def State.setHoldFlag (s : State) (g : GateIx) : State :=
  let x := s.gate g
  (s.setGate g (if x.state = .releasing then { x with holdPending := true } else { x with hold := true })).refresh.respond
    .ok

def execHoldSet (g : Byte) (s : State) : Outcome := .next (s.gateCommand g s.setHoldFlag)

/-- OK, or LOCKED where the gate stays suspended by its lock (R102, R103). -/
def State.clearedResult (s : State) (g : GateIx) : Result := if (s.gate g).lock then .locked else .ok

/-- HOLD CLEAR (R102). -/
def State.clearHoldFlag (s : State) (g : GateIx) : State :=
  (s.setGate g { s.gate g with hold := false, holdPending := false }).refresh.respond (s.clearedResult g)

def execHoldClear (g : Byte) (s : State) : Outcome := .next (s.gateCommand g s.clearHoldFlag)

/-- BLOCK SET (R103). -/
def State.setBlockFlag (s : State) (g : GateIx) : State :=
  (s.setGate g { s.gate g with block := true }).refresh.respond .ok

def execBlockSet (g : Byte) (s : State) : Outcome := .next (s.gateCommand g s.setBlockFlag)

/-- BLOCK CLEAR (R103). -/
def State.clearBlockFlag (s : State) (g : GateIx) : State :=
  (s.setGate g { s.gate g with block := false }).refresh.respond (s.clearedResult g)

def execBlockClear (g : Byte) (s : State) : Outcome := .next (s.gateCommand g s.clearBlockFlag)

/-- LOT CHANGE: the first row that applies (R108). -/
def State.changeLot (s : State) (lot : Lot) (g : GateIx) : State :=
  let x := s.gate g
  if lot = Config.unknownLot then s.respond .badParam
  else if x.lot = some lot then s.respond .ok
  else
    match x.state with
    | .empty => if x.lock then s.respond .locked else (s.applyLotChange g lot).refresh.respond .ok
    | .ready => s.respond .occupied
    | .releasing => (s.setGate g { x with lotPending := some lot }).respond .ok

def execLotChange (g lot : Byte) (s : State) : Outcome := .next (s.gateCommand g (s.changeLot lot))

/-- GAP REQUEST (R104). -/
def State.requestGap (s : State) (g : GateIx) : State :=
  (s.setGate g { s.gate g with gapRequest := true }).respond .ok

def execGapRequest (g : Byte) (s : State) : Outcome := .next (s.gateCommand g s.requestGap)

/-- REJECT NEXT of a gate (R104). -/
def State.rejectNextAt (s : State) (g : GateIx) : State :=
  (s.setGate g { s.gate g with rejectNext := true }).respond .ok

/-- REJECT NEXT naming 4, the IRONER exit (R147). -/
def State.rejectNextExit (s : State) : State :=
  if !s.serving then s.respond .state
  else if s.role = some .ironer then { s with exitRejectNext := true }.respond .ok
  else s.respond .badParam

def execRejectNext (g : Byte) (s : State) : Outcome :=
  .next (if g = 4 then s.rejectNextExit else s.gateCommand g s.rejectNextAt)

/-! ### REJECT_TAG (R197) -/

/-- REJECT on the record, if the train holds one; the MARK is queued all the same. -/
def State.onRejectTag (s : State) (tag : Tag) : State :=
  if !s.serving then s.respond .state
  else
    ((s.markReject tag).offerOrDrop (.mark tag rejectMark) tag).refresh.respond
      (if (s.findRecord tag).isSome then .ok else .empty)

def execRejectTag (tag : Tag) (s : State) : Outcome := .next (s.onRejectTag tag)

/-! ### Line hold, wrap, alert mask, fault list -/

/-- LINE HOLD SET (R128). -/
def State.onLineHoldSet (s : State) : State := { s with lineHold := true }.refresh.respond .ok

def execLineHoldSet (s : State) : Outcome := .next s.onLineHoldSet

/-- LINE HOLD CLEAR (R128). -/
def State.onLineHoldClear (s : State) : State := { s with lineHold := false }.refresh.respond .ok

def execLineHoldClear (s : State) : Outcome := .next s.onLineHoldClear

/-- WRAP ACK (R91). -/
def State.onWrapAck (s : State) : State := { s with wrapAlarm := false }.refresh.respond .ok

def execWrapAck (s : State) : Outcome := .next s.onWrapAck

/-- SET ALERT MASK (R198). -/
def State.onSetAlertMask (s : State) (mask : Byte) : State := { s with alertMask := mask }.refresh.respond .ok

def execSetAlertMask (mask : Byte) (s : State) : Outcome := .next (s.onSetAlertMask mask)

/-- CLEAR FAULTS (R200). -/
def State.onClearFaults (s : State) : State := { s with faults := [], overflow := 0 }.refresh.respond .ok

def execClearFaults (s : State) : Outcome := .next s.onClearFaults

end Sys2Proof.Machine
end

