-- ==== Sys2Proof/Machine/Reads.lean ====
section
/-! DEFINITION. The port's commands that read (R66, R171, R172, R198, R200, R4) and the response layouts of chapter 12. Bits
that no layout names, and fields that are absent with no value stated, are free (assumption log 6). -/

namespace Sys2Proof.Machine

def byte (n : Nat) : MaskedByte := full (BitVec.ofNat 8 n)

def flagByte (mask : Byte) (bits : List (Bool × Nat)) : MaskedByte :=
  part mask (bits.foldl (fun acc b => if b.1 then acc ||| (1 <<< b.2) else acc) 0)

/-- A value in n bytes, or n bytes reading 0. -/
def orZero {w : Nat} (n : Nat) (v : Option (BitVec w)) : List MaskedByte :=
  match v with
  | some x => bytesOf n x.toNat
  | none => bytesOf n 0

/-- A value in n bytes, or n bytes of which the spec states nothing. -/
def orUnstated {w : Nat} (n : Nat) (v : Option (BitVec w)) : List MaskedByte :=
  match v with
  | some x => bytesOf n x.toNat
  | none => List.replicate n unstated

/-! ### Record layout -/

def Stage.code : Stage → BitVec 2
  | .pending => 0
  | .entering => 1
  | .inside => 2
  | .leaving => 3

/-- The 26 bytes of a record at an index. -/
def recordBytes (index : Nat) (r : Record) : List MaskedByte :=
  let gate : BitVec 2 := match r.gate with
    | some g => gateBits g
    | none => 0
  [byte index] ++ bytesOf 2 r.tag.word.toNat ++
    [full (r.cls ++ r.stage.code ++ oneBit (r.basis == .b) ++ oneBit r.gate.isSome),
      part 0xF3 (r.lanes ++ (0 : BitVec 2) ++ gate), full r.lot] ++
    bytesOf 2 r.nominal ++ bytesOf 3 (r.measured.getD 0) ++ bytesOf 3 r.p.toNat ++ bytesOf 2 r.h ++ orZero 3 r.lead ++
    orZero 3 r.entryB ++ [byte ((r.dest.map (·.val)).getD 0)] ++
    [part 0x03 (r.flags.bits.extractLsb' 8 2 |>.setWidth 8), full (r.flags.bits.extractLsb' 0 8)] ++
    [flagByte 0x0F [(r.measured.isSome, 0), (r.lead.isSome, 1), (r.entryB.isSome, 2), (r.dest.isSome, 3)]]

/-- READ TRAIN (R66). -/
def State.onReadTrain (s : State) (index : Byte) : State :=
  if 47 < index.toNat then s.respond .badParam
  else
    match s.train[index.toNat]? with
    | some r => s.respond .ok (byte s.train.length :: recordBytes index.toNat r)
    | none => s.respond .empty [byte s.train.length]

def execReadTrain (index : Byte) (s : State) : Outcome := .next (s.onReadTrain index)

/-- READ RECORD (R66): the record with its present index. -/
def State.onReadRecord (s : State) (tag : Tag) : State :=
  match s.findRecord tag with
  | some r => s.respond .ok (recordBytes (s.train.findIdx fun x => x.tag == tag) r)
  | none => s.respond .empty

def execReadRecord (tag : Tag) (s : State) : Outcome := .next (s.onReadRecord tag)

/-! ### Fault layout -/

/-- The unit byte: type in bits 7 to 5, index in bits 2 to 0. -/
def unitByte : FaultUnit → Byte
  | .eye e => BitVec.ofNat 8 (1 * 32 + e.val)
  | .gate g => BitVec.ofNat 8 (2 * 32 + g.val)
  | .channel c => BitVec.ofNat 8 (3 * 32 + c.val)
  | .destination d => BitVec.ofNat 8 (4 * 32 + d.val)
  | .travel i => BitVec.ofNat 8 (5 * 32 + (if i = .b then 1 else 0))

/-- The ten bytes of a fault record. -/
def faultBytes (f : FaultRecord) : List MaskedByte :=
  let unit : MaskedByte := match f.unit with
    | some u => part 0xE7 (unitByte u)
    | none => unstated
  [full f.kind.code,
    flagByte 0x8F [(f.tag.isSome, 0), (f.lot.isSome, 1), (f.unit.isSome, 2), (f.count.isSome, 3), (f.input == .b, 7)]] ++
    bytesOf 3 f.position.toNat ++ orUnstated 2 (f.tag.map Tag.word) ++ orUnstated 1 f.lot ++ [unit] ++
    orUnstated 1 (f.count.map (BitVec.ofNat 8))

/-- READ FAULT (R200): the oldest record, the records remaining, the overflow count. -/
def State.onReadFault (s : State) : State :=
  match s.faults with
  | f :: rest =>
    { s with faults := rest }.refresh.respond .ok (faultBytes f ++ [byte rest.length, byte s.overflow])
  | [] => s.respond .empty [byte 0, byte s.overflow]

def execReadFault (s : State) : Outcome := .next s.onReadFault

/-! ### Lot layouts -/

def LotState.code : LotState → Nat
  | .opened => 0
  | .closing => 1
  | .closed => 2

/-- The six bytes of a source. -/
def sourceBytes (x : Source) : List MaskedByte :=
  let mark : Nat := match x.endMark with
    | .absent => 0
    | .serial _ => 1
    | .noneReleased => 2
  let last : Option Serial := match x.endMark with
    | .serial n => some n
    | _ => none
  [byte x.origin.toNat,
    part 0xB3 (BitVec.ofNat 8 ((if x.highest.isSome then 128 else 0) + 16 * mark + x.gate.val))] ++
    orUnstated 2 last ++ orUnstated 2 x.highest

/-- The bytes of a lot entry in a slot, with its place in the closure list or 0xFF, and its sources in the order in which they
were added (a choice of the model, assumption log 42). -/
def lotBytes (k : Fin 16) (place : Option Nat) (e : LotEntry) : List MaskedByte :=
  [full e.lot, byte e.state.code, byte e.inFlight, byte e.sources.length,
    flagByte 0x03 [(e.incomplete, 0), (e.noticeUnread, 1)]] ++
    bytesOf 2 e.departed ++ bytesOf 2 e.rejects ++ [byte (place.getD 255), byte k.val] ++ e.sources.flatMap sourceBytes

/-- READ LOT (R172). -/
def State.onReadLot (s : State) (slot : Byte) : State :=
  if h : slot.toNat < 16 then
    let k : Fin 16 := ⟨slot.toNat, h⟩
    match s.lotSlot k with
    | some e => s.respond .ok (lotBytes k (s.closureList.findIdx? (· == k)) e)
    | none => s.respond .empty
  else s.respond .badParam

def execReadLot (slot : Byte) (s : State) : Outcome := .next (s.onReadLot slot)

/-- The six bytes of a closure notice. -/
def noticeBytes (e : LotEntry) : List MaskedByte :=
  [full e.lot] ++ bytesOf 2 e.departed ++ bytesOf 2 e.rejects ++ [byte e.incomplete.toNat]

/-- READ LOT NOTICE (R171): the first unread notice of the closure list, whose flag is cleared. -/
def State.onReadLotNotice (s : State) : State :=
  match s.firstNotice with
  | none => s.respond .empty
  | some k =>
    match s.lotSlot k with
    | none => s.respond .empty
    | some e => (s.setLotSlot k (some { e with noticeUnread := false })).refresh.respond .ok (noticeBytes e)

def execReadLotNotice (s : State) : Outcome := .next s.onReadLotNotice

/-! ### Travel layout -/

/-- READ TRAVEL (R4): positions, directions, slip factor. -/
def State.onReadTravel (s : State) : State :=
  s.respond .ok (bytesOf 3 s.travelA.position.toNat ++ bytesOf 3 s.travelB.position.toNat ++
    [flagByte 0x03 [(s.travelA.reverse, 0), (s.travelB.reverse, 1)]] ++ bytesOf 2 s.slip)

def execReadTravel (s : State) : Outcome := .next s.onReadTravel

/-! ### Status layout -/

def TrackerState.code : TrackerState → Nat
  | .config => 0
  | .joining => 1
  | .running => 2
  | .stopped => 3
  | .conflict => 4

/-- Byte 3: role in force and address in force. -/
def State.identityByte (s : State) : MaskedByte :=
  let role : BitVec 2 := (s.roleCode).setWidth 2
  match s.address with
  | some a => part 0xDF (role ++ (0 : BitVec 1) ++ a)
  | none => part 0xC0 (role ++ (0 : BitVec 6))

/-- Bytes 11 to 14: bit n for address n. -/
def State.holderBits (s : State) : Nat :=
  addrs.foldl (fun acc a => if (s.reasonHeld a).isSome then acc + 2 ^ a.toNat else acc) 0

/-- Bytes 15 to 46: the reason held for each address, a byte with the bits of a HOLD's reason byte, whose bits 7 to 5 are zero
(R178). -/
def State.reasonBytes (s : State) : List MaskedByte :=
  addrs.map fun a =>
    match s.reasonHeld a with
    | some r => full (r.setWidth 8)
    | none => unstated

def GateState.code : GateState → BitVec 2
  | .empty => 0
  | .ready => 1
  | .releasing => 2

/-- Bits 7 and 6 of a gate's flag byte: its reservation phase. The layout lists none, QUEUED and STANDING without numbers:
that they are 0, 1 and 2 in that order is the model's reading (assumption log 48). -/
def State.phaseCode (s : State) (g : GateIx) : BitVec 2 :=
  match s.ownReservation g with
  | none => 0
  | some r => match r.phase with
    | .queued => 1
    | .standing => 2

/-- The four bytes of a gate. -/
def State.gateBytes (s : State) (g : GateIx) : List MaskedByte :=
  let x := s.gate g
  if x.set.enable then
    let first : MaskedByte := match x.cls with
      | some k => part 0xCF (x.state.code ++ (0 : BitVec 2) ++ k)
      | none => part 0xC0 (x.state.code ++ (0 : BitVec 6))
    [first] ++ orUnstated 1 x.lot ++
      [full (s.phaseCode g ++ oneBit (s.patienceReached g) ++ oneBit x.rejectNext ++ oneBit x.gapRequest ++ oneBit x.lock ++
        oneBit x.block ++ oneBit x.hold), full 0]
  else [full 0, full 0, full 0, full 0]

/-- The two bytes of watch entry w. -/
def State.watchBytes (s : State) (w : Fin 8) : List MaskedByte :=
  match s.watch.find? fun x => x.place == w with
  | some x =>
    let expected : BitVec 4 := match x.expected with
      | some e => e.setWidth 4
      | none => 0xF
    [byte x.address.toNat, part 0xF7 (expected ++ BitVec.ofNat 4 x.credits)]
  | none => [byte 255, unstated]

def ClosureReason.code : ClosureReason → Nat
  | .lotSwitch => 1
  | .full => 2
  | .lotEnd => 3

/-- The five bytes of a destination. -/
def State.destBytes (s : State) (d : DestIx) : List MaskedByte :=
  let x := s.dest d
  [byte x.count, full x.stackLot] ++
    match x.last with
    | some c => [full c.lot, byte c.count, byte c.reason.code]
    | none => [unstated, unstated, byte 0]

/-- Bytes 99 to 101: the last JOIN heard. -/
def State.lastJoinBytes (s : State) : List MaskedByte :=
  match s.lastJoin with
  | some j => [byte j.address.toNat, full j.role, full j.format]
  | none => [byte 255, unstated, unstated]

/-- The 103 bytes of the status (R198). -/
def State.statusBytes (s : State) : List MaskedByte :=
  [byte s.mode.code, full s.conditions, full s.alertMask, s.identityByte,
    part 0x8F (BitVec.ofNat 8 ((if 0 < s.overflow then 128 else 0) + s.faults.length)), byte s.overflow,
    part 0x9F (oneBit s.announced ++ (0 : BitVec 2) ++ s.causes), byte s.queue.length, byte s.feedCount,
    byte s.train.length, byte s.reservations.length] ++
    bytesOf 4 s.holderBits ++ s.reasonBytes ++ gateIxs.flatMap s.gateBytes ++
    ([0, 1, 2, 3, 4, 5, 6, 7] : List (Fin 8)).flatMap s.watchBytes ++ destIxs.flatMap s.destBytes ++ s.lastJoinBytes ++
    [flagByte 0x03 [(s.exitRejectNext, 0), (s.wrapAlarm, 1)]]

/-- READ STATUS (R198). -/
def State.onReadStatus (s : State) : State := s.respond .ok s.statusBytes

def execReadStatus (s : State) : Outcome := .next s.onReadStatus

end Sys2Proof.Machine
end

