-- ==== Sys2Proof/Machine/Dispatch.lean ====
section
/-! DEFINITION. What each command does: one arm per row of the table, each one call of the row's meaning. -/

namespace Sys2Proof.Machine

def exec (i : Instr) (s : State) : Host.Outcome State Fault Refusal :=
  match i with
  | .powerOn => Sys2Proof.Machine.execPowerOn s
  | .travelStep input ch1 ch2 => Sys2Proof.Machine.execTravelStep input ch1 ch2 s
  | .illegalTransition input => Sys2Proof.Machine.execIllegalTransition input s
  | .eyeRawChange eye high => Sys2Proof.Machine.execEyeRawChange eye high s
  | .edgeAccepted eye => Sys2Proof.Machine.execEdgeAccepted eye s
  | .jam eye => Sys2Proof.Machine.execJam eye s
  | .pulseRetired channel => Sys2Proof.Machine.execPulseRetired channel s
  | .windowClosure tag => Sys2Proof.Machine.execWindowClosure tag s
  | .deadReckoning tag => Sys2Proof.Machine.execDeadReckoning tag s
  | .cleared tag => Sys2Proof.Machine.execCleared tag s
  | .departed tag => Sys2Proof.Machine.execDeparted tag s
  | .release sender f => Sys2Proof.Machine.execRelease sender f s
  | .handoff sender f => Sys2Proof.Machine.execHandoff sender f s
  | .lost sender tag cause => Sys2Proof.Machine.execLost sender tag cause s
  | .mark sender tag mark => Sys2Proof.Machine.execMark sender tag mark s
  | .hold sender on reason => Sys2Proof.Machine.execHold sender on reason s
  | .reserve sender f => Sys2Proof.Machine.execReserve sender f s
  | .withdraw sender gate => Sys2Proof.Machine.execWithdraw sender gate s
  | .lotmark sender f => Sys2Proof.Machine.execLotmark sender f s
  | .joinFrame sender role format => Sys2Proof.Machine.execJoinFrame sender role format s
  | .busIdle => Sys2Proof.Machine.execBusIdle s
  | .txAttemptStart => Sys2Proof.Machine.execTxAttemptStart s
  | .arbitrationLost => Sys2Proof.Machine.execArbitrationLost s
  | .busError => Sys2Proof.Machine.execBusError s
  | .txComplete => Sys2Proof.Machine.execTxComplete s
  | .lotmarkQueued gate => Sys2Proof.Machine.execLotmarkQueued gate s
  | .withdrawQueued gate => Sys2Proof.Machine.execWithdrawQueued gate s
  | .holdQueued => Sys2Proof.Machine.execHoldQueued s
  | .gateCommit gate => Sys2Proof.Machine.execGateCommit gate s
  | .spacerCommit gate => Sys2Proof.Machine.execSpacerCommit gate s
  | .spacerBegun gate => Sys2Proof.Machine.execSpacerBegun gate s
  | .releaseEnd gate => Sys2Proof.Machine.execReleaseEnd gate s
  | .patienceReached gate => Sys2Proof.Machine.execPatienceReached gate s
  | .reservationSent gate => Sys2Proof.Machine.execReservationSent gate s
  | .reservationVoid gate => Sys2Proof.Machine.execReservationVoid gate s
  | .reservationWithdrawn gate => Sys2Proof.Machine.execReservationWithdrawn gate s
  | .reservationExpiry reserver gate => Sys2Proof.Machine.execReservationExpiry reserver gate s
  | .stopAsserted => Sys2Proof.Machine.execStopAsserted s
  | .stopReleased => Sys2Proof.Machine.execStopReleased s
  | .settleTimerExpiry => Sys2Proof.Machine.execSettleTimerExpiry s
  | .transactionCut cut => Sys2Proof.Machine.execTransactionCut cut s
  | .unknownCommand code => Sys2Proof.Machine.execUnknownCommand code s
  | .descriptorWrite item value => Sys2Proof.Machine.execDescriptorWrite item value s
  | .descriptorRead item => Sys2Proof.Machine.execDescriptorRead item s
  | .join => Sys2Proof.Machine.execJoin s
  | .leave => Sys2Proof.Machine.execLeave s
  | .load gate cls => Sys2Proof.Machine.execLoad gate cls s
  | .unload gate => Sys2Proof.Machine.execUnload gate s
  | .holdSet gate => Sys2Proof.Machine.execHoldSet gate s
  | .holdClear gate => Sys2Proof.Machine.execHoldClear gate s
  | .blockSet gate => Sys2Proof.Machine.execBlockSet gate s
  | .blockClear gate => Sys2Proof.Machine.execBlockClear gate s
  | .lotChange gate lot => Sys2Proof.Machine.execLotChange gate lot s
  | .gapRequest gate => Sys2Proof.Machine.execGapRequest gate s
  | .rejectNext gate => Sys2Proof.Machine.execRejectNext gate s
  | .rejectTag tag => Sys2Proof.Machine.execRejectTag tag s
  | .lineHoldSet => Sys2Proof.Machine.execLineHoldSet s
  | .lineHoldClear => Sys2Proof.Machine.execLineHoldClear s
  | .wrapAck => Sys2Proof.Machine.execWrapAck s
  | .readStatus => Sys2Proof.Machine.execReadStatus s
  | .setAlertMask mask => Sys2Proof.Machine.execSetAlertMask mask s
  | .readTrain index => Sys2Proof.Machine.execReadTrain index s
  | .readRecord tag => Sys2Proof.Machine.execReadRecord tag s
  | .readFault => Sys2Proof.Machine.execReadFault s
  | .clearFaults => Sys2Proof.Machine.execClearFaults s
  | .readLot slot => Sys2Proof.Machine.execReadLot slot s
  | .readLotNotice => Sys2Proof.Machine.execReadLotNotice s
  | .readTravel => Sys2Proof.Machine.execReadTravel s
  | .discardedFrame bits => Sys2Proof.Machine.execDiscardedFrame bits s

end Sys2Proof.Machine
end

