-- ==== Sys2Proof/Machine/Step.lean ====
section
/-! DEFINITION. One step of the tracker: the command at the front of its queue. -/

namespace Sys2Proof.Machine

/-- The first command of the queue is taken and run with the rest of the queue; on an empty queue the part idles (assumption
log 1). -/
def step (s : State) : Host.Outcome State Fault Refusal :=
  match s.pending with
  | [] => .next s
  | c :: rest => exec c { s with pending := rest }

/-- The command that a word spells, put at the front of the queue; the state unchanged where the word spells none. -/
def State.withFetchWord (s : State) (nbits w : Nat) : State :=
  match decodeTableWord nbits w with
  | some c => { s with pending := c :: s.pending }
  | none => s

end Sys2Proof.Machine
end

