-- ==== Sys2Proof/Safety.lean ====
section
/-! DEFINITION. What holds of a sound state of the tracker, as the rules of the spec promise it: each is kept by every
command and holds after power-on; with what a decided window closure leaves, and what JOIN validation asks of the
descriptor. -/

namespace Sys2Proof.Machine

/-- The pins and the reservations follow the state: every output is active exactly while RUNNING with the position inside
its ACTIVE pulse, which is then started (R35), or inside NEXT where the step being acted on has ended ACTIVE (R43); ALERT
follows the unmasked conditions (R198); a suspended gate holds no reservation (R95). -/
abbrev State.PinsFollow (s : State) : Prop :=
  (∀ c : ChannelIx, s.channel c = s.shown (s.channel c)) ∧
    s.alertPin = ((s.conditions &&& s.alertMask) != 0) ∧
    ∀ g : GateIx, s.suspended g = true → s.ownReservation g = none

/-- The train: at most 48 records (R52), no two with one tag (R53, R49), every half-width within its limits (R14), empty in
CONFIG (R67, R194); the TRAIN cause stands from the high water mark on and not at the low water mark or below (R126). -/
abbrev State.TrainSound (s : State) : Prop :=
  s.train.length ≤ Config.trainCapacity ∧ (s.train.map (·.tag)).Nodup ∧
    (∀ r ∈ s.train, Config.halfWidthMin ≤ r.h ∧ r.h ≤ Config.halfWidthMax) ∧ (s.mode = .config → s.train = []) ∧
    0 < s.highMark ∧ (s.highMark ≤ s.train.length → s.trainCause = true) ∧
    (s.train.length < s.highMark → s.train.length ≤ s.lowMark → s.trainCause = false)

/-- The stages of the train: from the head LEAVING, INSIDE, ENTERING, PENDING (R51); and every record has its own place by
admission, given before now. -/
abbrev State.StagesInOrder (s : State) : Prop :=
  (s.train.Pairwise fun x y => x.stage.rank ≤ y.stage.rank) ∧ (s.train.map (·.order)).Nodup ∧
    ∀ r ∈ s.train, r.order < s.admissions

/-- The whole order of R51: each record stands before all that come after it. -/
abbrev State.TrainInOrder (s : State) : Prop := s.train.Pairwise fun x y => x.before y = true

/-- An eye's function and input are those of the role (R20). -/
def State.eyeFits (s : State) (x : EyeSettings) : Bool :=
  match s.role, x.function, x.input with
  | _, .levelHold, _ => true
  | some .feed, .feedLength, .a => true
  | some .ironer, .entry, .a => true
  | some .ironer, .exit, .b => true
  | some .outlet, .outletEntry, .a => true
  | _, _, _ => false

/-- The basis of a record of a stage (R47): input B at the IRONER from the entry on, input A elsewhere. -/
def State.basisOf (s : State) (g : Stage) : TravelInput := if s.role = some .ironer ∧ g ≠ .pending then .b else .a

/-- Positions close enough for R7 to order them: every record stands on its basis within 2^20 mm of the current position, as
do the snapshots of candidates; the distances in force are within the ranges of R191. R7 says that greater distances are
"far beyond the life of any item". -/
abbrev State.Near (s : State) : Prop :=
  (∀ r ∈ s.train, r.basis = s.basisOf r.stage ∧ (diff r.p (s.pos r.basis)).natAbs ≤ 1048576) ∧
    (∀ e : EyeIx, ∀ c ∈ (s.eye e).candidate.toList,
      (diff c.snapA (s.pos .a)).natAbs ≤ 1048576 ∧ (diff c.snapB (s.pos .b)).natAbs ≤ 1048576) ∧
    (∀ e : EyeIx, (s.eye e).set.enable = true →
      s.eyeFits (s.eye e).set = true ∧ (s.eye e).set.offset.natAbs ≤ 4000) ∧
    (∀ w ∈ s.watch, w.offset.natAbs ≤ 32000) ∧ (∀ g : GateIx, s.dropWait g ≤ 4000) ∧
    (∀ x ∈ s.ironer.toList, x.pathLength ≤ 20000) ∧ s.slip ≤ Config.slipMax

/-- The pulse a slot holds. -/
def Channel.slot (c : Channel) : Slot → Option Pulse
  | .active => c.active
  | .next => c.next

/-- A channel: a NEXT pulse stands only behind an ACTIVE one (R34), and a pulse keeps at most four references (R40). -/
abbrev Channel.Sound (c : Channel) : Prop :=
  (c.active = none → c.next = none) ∧ (∀ q ∈ c.active.toList ++ c.next.toList, q.refs.length ≤ Config.refCapacity)

abbrev State.ChannelsSound (s : State) : Prop := ∀ c : ChannelIx, (s.channel c).Sound

/-- A gate: a release is kept exactly while RELEASING (R97 to R99), a class is known exactly of a READY gate or a releasing
item, so of no spacer (R94, R98), and the lock stands exactly while a LOTMARK is WAITING or QUEUED (R105, R107). -/
abbrev Gate.Sound (x : Gate) : Prop :=
  (x.release.isSome ↔ x.state = .releasing) ∧ (x.state = .empty → x.cls = none) ∧ (x.state = .ready → x.cls ≠ none) ∧
    (∀ r ∈ x.release.toList, r.spacer = x.cls.isNone) ∧ (x.lock = true ↔ x.mark ≠ .none)

abbrev State.GatesSound (s : State) : Prop := ∀ g : GateIx, (s.gate g).Sound

/-- The lot table: an entry is CLOSED exactly while its slot stands in the closure list, once (R170); a closed entry has no
source and nothing in flight (R169); no entry is of lot 255 and no two are of one lot (R161). -/
abbrev State.LotsSound (s : State) : Prop :=
  s.closureList.Nodup ∧
    (∀ k : Fin 16, k ∈ s.closureList ↔ ((s.lotSlot k).any fun e => e.state == .closed) = true) ∧
    (∀ k : Fin 16, ∀ e ∈ (s.lotSlot k).toList, e.lot ≠ Config.unknownLot ∧ e.state = e.judged) ∧
    ∀ j k : Fin 16, j ≠ k → s.lotSlot j = none ∨ (s.lotSlot j).map (·.lot) ≠ (s.lotSlot k).map (·.lot)

/-- How many records of the train count as in flight for a lot: those of the lot that are not LOT_UNTRACKED (R161, R165). -/
def State.tracked (s : State) (lot : Lot) : Nat := s.train.countP fun r => r.lot == lot && !r.flags.lotUntracked

/-- Every entry's in-flight count is the number of its records in the train (R163, R166). -/
abbrev State.InFlightSound (s : State) : Prop :=
  (∀ k : Fin 16, ∀ e ∈ (s.lotSlot k).toList, e.inFlight = s.tracked e.lot) ∧
    ∀ r ∈ s.train, r.lot ≠ Config.unknownLot → r.flags.lotUntracked = false → (s.lotSlotOf r.lot).isSome

/-- An eye's candidate that has persisted long enough, at the eye of a checkpoint whose edges are delivered to the matcher
(R23, R24, R26). -/
abbrev State.EdgeDue (s : State) (e : EyeIx) (c : Candidate) (k : Checkpoint) : Prop :=
  s.eyeRuns e = true ∧ s.delivers e = true ∧ (s.eye e).set.function = k.function ∧ (s.eye e).candidate = some c ∧
    (s.eye e).set.filter ≤ c.dist

/-- A HOLD left in the queue from before a LEAVE. -/
def TxFrame.oldHold (q : TxFrame) : Bool := q.orphan && isHold q

/-- The transmit queue: at most 16 frames (R182), only the head under way (R179); what a LEAVE left is under way (R187). In
CONFIG the gates and the reservations are at rest (R111, R124), so that at most a frame under way and two HOLD off stand in
the queue: a JOIN, which is queued whatever its length, finds room. -/
abbrev State.QueueSound (s : State) : Prop :=
  s.queue.length ≤ Config.queueCapacity ∧ (∀ q ∈ s.queue.tail, q.underWay = false) ∧
    (∀ q ∈ s.queue, q.orphan = true → q.underWay = true) ∧
    (s.mode = .config →
      s.queue.length + s.announced.toNat + s.queue.countP TxFrame.oldHold ≤ 3 ∧ s.reservations = [] ∧
        ∀ g : GateIx, (s.gate g).state = .empty ∧ (s.gate g).mark = .none ∧ (s.gate g).withdrawPending = false)

/-- The bounds that the spec sets on counts and lists: the fault list and its overflow (R199), the reservation list (R114),
feed-class frames (R182), the slip factor (R16), stray credits (R133), sources and counts of a lot entry (R161). -/
abbrev State.BoundsHold (s : State) : Prop :=
  s.faults.length ≤ Config.faultCapacity ∧ s.overflow ≤ Config.overflowLimit ∧
    s.reservations.length ≤ Config.reservationCapacity ∧ s.feedCount ≤ Config.feedCapacity ∧
    (Config.slipMin ≤ s.slip ∧ s.slip ≤ Config.slipMax) ∧ (∀ w ∈ s.watch, w.credits ≤ Config.creditLimit) ∧
    ∀ k : Fin 16, ∀ e ∈ (s.lotSlot k).toList, e.sources.length ≤ Config.sourceCapacity ∧
      e.departed ≤ Config.lotCountLimit ∧ e.rejects ≤ Config.lotCountLimit

/-! ### What a decided closure leaves (R84 to R87) -/

/-- R62, R87, R90: a miss of record r at checkpoint k takes state s to t. The record is gone with the first cause that
applies; its LOST is queued, or dropped at a full queue with TX_OVERRUN; its fault is recorded where the list has room; a
WRAP sets the wrap alarm. -/
abbrev State.Missed (s : State) (r : Record) (k : Checkpoint) (e : EyeIx) (t : State) : Prop :=
  let cause : FaultKind × Byte :=
    if k = .exit then (.wrap, 3)
    else if r.flags.unverified then (.cleared, 2)
    else if r.flags.own ∧ k = .feed ∧ r.gate = some (s.eye e).set.gate then (.releaseFail, 4)
    else (.missed, 1)
  t.train = s.train.filter (fun x => x.tag != r.tag) ∧
    (if s.queueRoom then TxFrame.new (.lost r.tag cause.2) 0 ∈ t.queue
      else 8 ≤ t.faults.length ∨ ∃ f ∈ t.faults, f.kind = .txOverrun ∧ f.tag = some r.tag) ∧
    (8 ≤ t.faults.length ∨ ∃ f ∈ t.faults, f.kind = cause.1 ∧ f.tag = some r.tag ∧ f.lot = some r.lot ∧
      f.unit = some (.eye e) ∧ f.position = s.pos r.basis ∧ f.input = r.basis) ∧
    t.wrapAlarm = (s.wrapAlarm || k == .exit) ∧
    t = { s with
      train := t.train, trainCause := t.trainCause, waiting := t.waiting, freshWindows := t.freshWindows
      lots := t.lots, closureList := t.closureList, dests := t.dests, channels := t.channels, queue := t.queue
      faults := t.faults, overflow := t.overflow, wrapAlarm := t.wrapAlarm, gates := t.gates
      reservations := t.reservations, alertPin := t.alertPin }

/-- R58, R60, R61, R85, R86, R141, R143 to R145, R151, R152: record r passes a blocked eye at checkpoint k with its window
closing at `closing`, which takes state s to t: as at its expected crossing, and as DOUBLE with another record that awaits
its trailing edge there. At an OUTLET in reverse travel it is left unrouted (assumption log 43). -/
abbrev State.PassedOn (s : State) (r : Record) (k : Checkpoint) (e : EyeIx) (closing : Pos) (t : State) : Prop :=
  let pre := s.train.find? fun y => y.awaitsTrail k && y.lane == r.lane && y.tag != r.tag
  let expected := Pos.plus r.p (s.eye e).set.offset
  let moved : Record :=
    { r with
      lead := some expected
      flags := { r.flags with double := r.flags.double || pre.isSome, reject := r.flags.reject || pre.isSome } }
  let others := (s.train.map fun y =>
    if (pre.any fun x => x.tag == y.tag) = true then
      { y with flags := { y.flags with double := true, reject := true } }
    else y).filter fun y => y.tag != r.tag
  let doubled := fun (u : State) => if pre.isSome then u.recordFault
      { kind := .double, position := closing, input := r.basis, tag := some r.tag, lot := some r.lot
        unit := some (.eye e) }
    else u
  (k = .feed → t = State.alertAfresh
      { doubled s with train := insertRecord { moved with stage := .entering } others }) ∧
    (k = .entry →
      (
        let b := Pos.plus (s.pos .b) (-(r.h : Int))
        let rebased : Record :=
          { moved with
            stage := .entering, basis := .b, p := Pos.plus b s.pred, lead := some b, entryB := some b
            h := halfWidth s.baseWidth s.propWidth s.pred (r.flags.unverified || r.flags.lateAnnounce) }
        t = State.alertAfresh
          { doubled s with train := insertRecord rebased others, freshWindows := r.tag :: s.freshWindows })) ∧
    (k = .exit →
      (
        let leaving : Record :=
          { moved with
            stage := .leaving, flags := { moved.flags with reject := moved.flags.reject || s.exitRejectNext } }
        let gone := fun (y : Record) => !y.flags.reject && s.queue.all fun q =>
          match q.frame with
          | .handoff f => f.tag != y.tag
          | _ => true
        let marked : State := match pre.filter gone with
          | none => s
          | some y =>
            if s.queue.length < 16 then { s with queue := s.queue ++ [TxFrame.new (.mark y.tag 1) 0] }
            else s.recordFault { kind := .txOverrun, position := s.pos .a, input := .a, tag := some y.tag }
        let u := doubled marked
        let announced : State :=
          if u.queue.length < 16 then
            { u with
              queue := u.queue ++ [TxFrame.new (.handoff
                { tag := r.tag, cls := r.cls, gate := r.gate, lot := r.lot, lanes := r.lanes
                  flags := { reject := leaving.flags.reject, double := moved.flags.double
                             stray := r.flags.stray, recovered := r.flags.recovered
                             unverified := r.flags.unverified, length := r.flags.length }
                  length := BitVec.ofNat 12 (min 4095 (r.measured.getD r.nominal)), offset := 0, seq := 0 })
                expected] }
          else
            { u.recordFault
                { kind := .txOverrun, position := s.pos .b, input := .b, tag := some r.tag, lot := some r.lot } with
              passageSeq := s.passageSeq + 1 }
        t = State.alertAfresh
          { announced with train := insertRecord leaving others, exitRejectNext := false })) ∧
    (k = .outlet → s.travelA.reverse = false →
      (
        let doubtful := moved.flags.double || r.flags.stray || r.flags.unverified || r.flags.length
        let d : DestIx :=
          if moved.flags.reject = true ∨ r.lot = 255 ∨ (doubtful = true ∧ s.doubtfulToClass = false) then
            s.rejectDest
          else (s.classOf r.cls).dest
        let set := (s.dest d).set
        let answer : Option (ChannelIx × Channel × Answer) := set.divert.map fun i =>
          (i, (s.channel i).request (s.pos (s.channel i).input) (Pos.plus expected (set.xd - set.mb : Int))
            (Pos.plus expected (set.xd + max 1 r.nominal + set.ma)) (some r.tag))
        let taken : DestIx × Option FaultKind := match answer with
          | some (_, _, .late _) => (d, some .lateDivert)
          | some (_, _, .tooLate) => (0, some .lateDivert)
          | some (_, _, .busy) => (0, some .divertBusy)
          | _ => (d, none)
        let routed : Record := { moved with stage := .entering, dest := some taken.1 }
        let u := match taken.2 with
          | some kind => (doubled s).recordFault
            { kind := kind, position := s.pos .a, input := .a, tag := some r.tag, lot := some r.lot
              unit := some (.destination d) }
          | none => doubled s
        if ((s.departureAt routed).all fun y => !atOrPast (s.pos .a) y) = true then
          (∀ j, t.channel j = match answer with
            | some (i, y, _) => if j = i then s.shown y else s.channel j
            | none => s.channel j) ∧
          t = { u with
            channels := t.channels, alertPin := t.alertPin, train := insertRecord routed others }
        else t.train = others)) ∧
    (k = .outlet → s.travelA.reverse = true → t = State.alertAfresh
      { doubled s with train := insertRecord { moved with stage := .entering } others })

/-! ### What JOIN validation asks of the descriptor (R191) -/

/-- Two channel fields that name one channel (R33). -/
abbrev sameChannel (x y : Int) : Prop := x = y ∧ 0 ≤ x ∧ x ≤ 7

/-- The eye items (R20): field f of eye e. -/
abbrev Store.EyeItem (st : Store) (e f : Nat) : Prop :=
  let v := st.val 3 e
  let on := v 1 = 1
  (f = 1 → v 1 = 0 ∨ v 1 = 1) ∧ (f = 2 → (v 2 = 0 ∨ v 2 = 1) ∧ (on → st.val 2 (v 2).toNat 1 ≠ 0)) ∧
    (f = 3 → 0 ≤ v 3 ∧ v 3 ≤ 3) ∧
    (f = 4 → (0 ≤ v 4 ∧ v 4 ≤ 4) ∧
      (on → (v 4 = 0 → st.val 1 0 2 = 1) ∧ (v 4 = 1 ∨ v 4 = 2 → st.val 1 0 2 = 2) ∧ (v 4 = 3 → st.val 1 0 2 = 3) ∧
        (v 4 = 2 → v 2 = 1) ∧ (v 4 = 0 ∨ v 4 = 1 ∨ v 4 = 3 → v 2 = 0) ∧
        (v 4 ≠ 4 → ∀ k < e, st.val 3 k 1 = 1 → ¬(st.val 3 k 4 = v 4 ∧ st.val 3 k 3 = v 3)))) ∧
    (f = 5 → 0 ≤ v 5 ∧ v 5 ≤ 3) ∧ (f = 6 → -4000 ≤ v 6 ∧ v 6 ≤ 4000) ∧ (f = 7 → 0 ≤ v 7 ∧ v 7 ≤ 31) ∧ (f = 8 → v 8 = 0 ∨ v 8 = 1) ∧
    (f = 9 → 100 ≤ v 9 ∧ v 9 ≤ 8000)

/-- The gate items (R93, R115, R33, and R20's "gate fits"): field f of gate g. -/
abbrev Store.GateItem (st : Store) (g f : Nat) : Prop :=
  let v := st.val 8 g
  let on := v 1 = 1
  let feed := st.val 1 0 2 = 1
  let named := fun (e : Nat) => st.val 3 e 1 = 1 ∧ st.val 3 e 4 = 0 ∧ st.val 3 e 5 = g
  (f = 1 → (v 1 = 0 ∨ v 1 = 1) ∧ (on → feed) ∧ (g = 3 → feed → ∃ k < 4, st.val 8 k 1 = 1) ∧ (∀ e < 8, named e → on)) ∧
    (f = 2 → on → (1 ≤ v 2 ∧ v 2 ≤ 15) ∧
      ∀ e < 8, named e → (BitVec.ofInt 4 (v 2)).getLsbD (st.val 3 e 3).toNat = true) ∧
    (f = 3 → (on → 0 ≤ v 3 ∧ v 3 ≤ 7) ∧ (feed → ∀ k < g, ¬sameChannel (v 3) (st.val 8 k 3))) ∧
    (f = 4 → on → 0 ≤ v 4 ∧ v 4 ≤ 3999) ∧ (f = 5 → on → 1 ≤ v 5 ∧ v 5 ≤ 4000 ∧ v 4 + v 5 ≤ 4000) ∧
    (f = 6 → on → 0 ≤ v 6 ∧ v 6 ≤ 65535) ∧ (f = 7 → on → 0 ≤ v 7 ∧ v 7 ≤ 4000 ∧ (v 6 ≠ 0 → v 4 + v 5 < v 7)) ∧
    (f = 8 → on → 1 ≤ v 8 ∧ v 8 ≤ 4095) ∧ (f = 9 → on → v 9 = 0 ∨ v 9 = 1) ∧ (f = 10 → on → 0 ≤ v 10 ∧ v 10 ≤ 254)

/-- The destination items at an OUTLET (R149, R33): field f of destination d. -/
abbrev Store.DestItem (st : Store) (d f : Nat) : Prop :=
  let v := st.val 10 d
  (f = 1 → (0 ≤ v 1 ∧ v 1 ≤ 8) ∧ (d = 0 → v 1 = 8) ∧ (d ≠ 0 → (∃ c < 16, st.val 6 c 4 = d) → v 1 ≤ 7) ∧
      ∀ k < d, ¬sameChannel (v 1) (st.val 10 k 1) ∧ ¬sameChannel (v 1) (st.val 10 k 6)) ∧
    (f = 2 → 0 ≤ v 2 ∧ v 2 ≤ 8000) ∧ (f = 3 ∨ f = 4 → 0 ≤ v f ∧ v f ≤ 1000) ∧ (f = 5 → 0 ≤ v 5 ∧ v 5 ≤ 255) ∧
    (f = 6 → (0 ≤ v 6 ∧ v 6 ≤ 8) ∧ (0 < v 5 → v 6 ≤ 7) ∧ ¬sameChannel (v 6) (v 1) ∧
      ∀ k < d, ¬sameChannel (v 6) (st.val 10 k 1) ∧ ¬sameChannel (v 6) (st.val 10 k 6)) ∧
    (f = 7 → 0 ≤ v 7 ∧ v 7 ≤ 4000) ∧ (f = 8 → 1 ≤ v 8 ∧ v 8 ≤ 4000)

/-- The channel items (R33): field f of channel c. A channel that the role section names is on input A, which has a pitch, and
is DISTINCT where a gate or a stack owns it. -/
abbrev Store.ChannelItem (st : Store) (c f : Nat) : Prop :=
  let v := st.val 12 c
  let gated := st.val 1 0 2 = 1 ∧ ∃ g < 4, st.val 8 g 3 = c
  let diverted := st.val 1 0 2 = 3 ∧ ∃ d < 4, st.val 10 d 1 = c
  let stacked := st.val 1 0 2 = 3 ∧ ∃ d < 4, st.val 10 d 6 = c
  (f = 1 → (v 1 = 0 ∨ v 1 = 1) ∧ (gated ∨ diverted ∨ stacked → v 1 = 0 ∧ st.val 2 0 1 ≠ 0)) ∧
    (f = 2 → (v 2 = 0 ∨ v 2 = 1) ∧ (gated ∨ stacked → v 2 = 1))

/-- R191: the conditions that name field f of entry i of a section; a condition between several items is counted at the last
of them, "gate fits" (R20) so at the gate's enable and at its lanes (assumption log 7). -/
abbrev Store.ItemOk (st : Store) (sec i f : Nat) : Prop :=
  let v := st.val sec i
  (sec = 1 → (f = 1 → 0 ≤ v 1 ∧ v 1 ≤ 31) ∧ (f = 2 → 1 ≤ v 2 ∧ v 2 ≤ 3)) ∧
    (sec = 2 → (f = 1 → 0 ≤ v 1 ∧ v 1 ≤ 65535) ∧ (f = 2 → v 2 = 0 ∨ v 2 = 1)) ∧ (sec = 3 → st.EyeItem i f) ∧
    (sec = 4 → 0 ≤ v f ∧ v f ≤ 255) ∧
    (sec = 5 → (f = 1 → v 1 = 0 ∨ v 1 = 1) ∧
      (v 1 = 1 → (f = 2 → (0 ≤ v 2 ∧ v 2 ≤ 31) ∧ v 2 ≠ st.val 1 0 1 ∧
          ∀ k < i, ¬(st.val 5 k 1 = 1 ∧ st.val 5 k 2 = v 2)) ∧
        (f = 3 → -32000 ≤ v 3 ∧ v 3 ≤ 32000))) ∧
    (sec = 6 → (f = 1 → 1 ≤ v 1 ∧ v 1 ≤ 4095) ∧ (f = 2 ∨ f = 3 → 0 ≤ v f ∧ v f ≤ 4095) ∧
      (f = 4 → 0 ≤ v 4 ∧ v 4 ≤ 3)) ∧
    (sec = 7 → (f = 1 → 2 ≤ v 1 ∧ v 1 ≤ 48) ∧ (f = 2 → 0 ≤ v 2 ∧ v 2 < v 1)) ∧ (sec = 8 → st.GateItem i f) ∧
    (sec = 9 → st.val 1 0 2 = 2 → (f = 1 → 500 ≤ v 1 ∧ v 1 ≤ 20000) ∧ (f = 2 → 15360 ≤ v 2 ∧ v 2 ≤ 17408) ∧
      (f = 3 ∨ f = 4 → v f = 0 ∨ v f = 1)) ∧
    (sec = 10 → st.val 1 0 2 = 3 → st.DestItem i f) ∧
    (sec = 11 → st.val 1 0 2 = 3 →
      (f = 1 → (1 ≤ v 1 ∧ v 1 ≤ 3) ∧ 0 ≤ st.val 10 (v 1).toNat 1 ∧ st.val 10 (v 1).toNat 1 ≤ 7) ∧
        (f = 2 → v 2 = 0 ∨ v 2 = 1)) ∧
    (sec = 12 → st.ChannelItem i f)

end Sys2Proof.Machine
end

