-- ==== Sys2Proof/WellFormed.lean ====
section
/-! DEFINITION. Which commands are well formed: the operands that a row of the table can carry. Operands are typed by
their exact widths, so only the rows whose operand must fail or pass a check of the spec have a condition here. -/

namespace Sys2Proof

/-- A command is well formed when its operands are ones its row can carry.
* UNKNOWN_COMMAND carries a byte that names no command (R189).
* DISCARDED_FRAME carries bits that fail a check of R184.
* TRANSACTION_CUT before the last parameter byte carries fewer bytes than a command has (R188). -/
def Instr.wellFormed : Instr → Bool
  | .unknownCommand code => (commandParams code).isNone
  | .discardedFrame bits => (Frame.receive bits).isNone
  | .transactionCut (.command []) => true
  | .transactionCut (.command (code :: params)) =>
    match commandParams code with
    | none => false
    | some n => decide (params.length < n)
  | _ => true

end Sys2Proof
end

