-- ==== Sys2Proof/Certificates/Slice0/Obligations.lean ====
section
/-! DEFINITION. The statements for the provers. Each says what a command or the whole tracker does by the numbered rules of
the spec, together with what stays as it was. A frame is written `t = { s with f := t.f, … }`: every field not listed is
unchanged. -/

open Sys2Proof Sys2Proof.Machine

/-! ### The whole machine -/

/-- A step runs the command at the front of the queue; on an empty queue the tracker idles (the model's own scheduling,
assumption log 1). -/
def Obligations.StepRunsFrontCommand : Prop :=
  ∀ (s : State) (c : Instr) (rest : List Instr),
    (s.pending = c :: rest → step s = exec c { s with pending := rest }) ∧ (s.pending = [] → step s = .next s)

/-- Every command is answered with a next state, in every state, and none of them touches the commands that wait. The
spec gives each command its effect where its condition holds. That an event outside its condition is answered with a
next state is the model's reading (assumption log 2), as are the queue of commands (log 1) and that POWER_ON keeps it
(log 16). -/
def Obligations.EveryCommandCompletes : Prop :=
  ∀ (s : State) (c : Instr), ∃ t, exec c s = .next t ∧ t.pending = s.pending

/-- R1, R3, R6, R19, R33, R93, R130, R138, R149, R190, R192: power-on apart, a JOIN alone loads settings, a DESCRIPTOR
WRITE alone changes the store, and a sample of an input's channels alone moves its count or sets its direction. -/
def Obligations.SettingsLoadAtJoinAlone : Prop :=
  ∀ (s : State) (c : Instr) (t : State),
    exec c s = .next t →
    c ≠ .powerOn →
    (c ≠ .join →
      t.role = s.role ∧ t.address = s.address ∧ t.classes = s.classes ∧ t.baseWidth = s.baseWidth ∧
        t.propWidth = s.propWidth ∧ t.highMark = s.highMark ∧ t.lowMark = s.lowMark ∧ t.ironer = s.ironer ∧
        t.rejectDest = s.rejectDest ∧ t.doubtfulToClass = s.doubtfulToClass ∧
        (∀ i, (t.travel i).pitch = (s.travel i).pitch ∧ (t.travel i).inverted = (s.travel i).inverted) ∧
        (∀ e, (t.eye e).set = (s.eye e).set) ∧ (∀ g, (t.gate g).set = (s.gate g).set) ∧
        (∀ d, (t.dest d).set = (s.dest d).set) ∧
        (∀ k, (t.channel k).input = (s.channel k).input ∧ (t.channel k).mode = (s.channel k).mode ∧
          (t.channel k).owner = (s.channel k).owner) ∧
        t.watch.map (fun w => (w.address, w.offset)) = s.watch.map fun w => (w.address, w.offset)) ∧
      ((∀ i v, c ≠ .descriptorWrite i v) → t.store = s.store) ∧
      ∀ i, (∀ ch1 ch2, c ≠ .travelStep i ch1 ch2) →
        (t.travel i).count = (s.travel i).count ∧ (t.travel i).reverse = (s.travel i).reverse

/-- The transitions of the tracker state (chapter 12): by JOIN, the end of JOINING, the STOP pin, an address clash,
LEAVE and power-on, and by nothing else. -/
def Obligations.TrackerStateTransitions : Prop :=
  ∀ (s : State) (c : Instr) (t : State),
    exec c s = .next t →
    t.mode = s.mode ∨ (c = .powerOn ∧ t.mode = .config) ∨ (c = .leave ∧ t.mode = .config) ∨
      (c = .join ∧ s.mode = .config ∧ t.mode = .joining) ∨
      ((c = .settleTimerExpiry ∨ c = .txComplete) ∧ s.mode = .joining ∧
        t.mode = if s.stopPin then .stopped else .running) ∨
      (c = .stopAsserted ∧ s.mode = .running ∧ t.mode = .stopped) ∨
      (c = .stopReleased ∧ s.mode = .stopped ∧ t.mode = .running) ∨
      (s.serving = true ∧ t.mode = .conflict ∧
        ∃ a f, s.address = some a ∧
          (c = Frame.toInstr a f ∨ ∃ bits, c = .discardedFrame bits ∧ Frame.receive bits = some (a, f)))

/-! ### Invariants -/

/-- R35, R43, R95, R198: outputs, ALERT and reservations follow the state after every step. From the step that ends
ACTIVE until its retirement is taken the output follows NEXT (R43; assumption log 5). -/
def Obligations.PinsFollowEveryStep : Prop :=
  ∀ (s t : State),
    s.PinsFollow →
    step s = .next t →
    t.PinsFollow

/-- R14, R49, R51, R52, R53, R67, R126, R194: the train stays within 48 records, with no tag twice and every half-width
within its limits, is empty in CONFIG, and the TRAIN cause follows the water marks; its records stand by stage, LEAVING,
INSIDE, ENTERING, PENDING from the head. -/
def Obligations.TrainSoundEveryStep : Prop :=
  ∀ (s t : State),
    s.TrainSound →
    step s = .next t →
    t.TrainSound ∧ (s.StagesInOrder → t.StagesInOrder)

/-- R7, R51: within a stage the records stand by p, and at equal p by admission, after every step: each record stands
before all that come after it. It holds where the positions are near enough for signed differences to order them:
`State.Near`. -/
def Obligations.TrainOrderEveryStep : Prop :=
  ∀ (s t : State),
    s.TrainSound →
    s.StagesInOrder →
    s.TrainInOrder →
    s.Near →
    step s = .next t →
    t.TrainInOrder

/-- R34, R40, R94, R97 to R99, R105, R107: every channel keeps NEXT only behind ACTIVE and at most four references to a
pulse, and gate state, release, loaded class, lock and mark agree, after every step. -/
def Obligations.ChannelsAndGatesSoundEveryStep : Prop :=
  ∀ (s t : State),
    s.ChannelsSound →
    s.GatesSound →
    step s = .next t →
    t.ChannelsSound ∧ t.GatesSound

/-- R161, R162, R169, R170: the lot table and the closure list agree after every step; with a sound train every entry's
in-flight count equals the number of train records of its lot that are not LOT_UNTRACKED, and is at most 48. -/
def Obligations.LotsSoundEveryStep : Prop :=
  ∀ (s t : State),
    s.LotsSound →
    step s = .next t →
    t.LotsSound ∧
      (s.TrainSound → s.InFlightSound →
        t.InFlightSound ∧ ∀ k : Fin 16, ∀ e ∈ (t.lotSlot k).toList, e.inFlight ≤ 48)

/-- R16, R114, R133, R161, R179, R182, R187, R199: the bounds of lists and counts hold after every step; the transmit
queue holds at most 16 frames, of which at most the head is under way, and in CONFIG so few that the JOIN finds room. -/
def Obligations.BoundsHoldEveryStep : Prop :=
  ∀ (s t : State),
    s.BoundsHold →
    s.QueueSound →
    step s = .next t →
    t.BoundsHold ∧ t.QueueSound

/-! ### Encodings -/

/-- R176 to R178, R184, R188, R189: a frame of n payload bytes is sent as 37 + 8n bits: a dominant start bit, kind,
sender address, length, payload, the CRC of what stands between the start bit and it, and seven recessive bits. A frame
read from the bits it is sent as is the frame sent, with its sender; a port command read from the bytes the controller
sends for it is that command. -/
def Obligations.FramesAndPortCommandsReadBack : Prop :=
  (∀ (sender : Addr) (f : Frame),
      (
        let n := f.payload.length
        let bits := f.bits sender
        bits.length = 37 + 8 * n ∧ bits.head? = some false ∧ wordMsb 4 ((bits.drop 1).take 4) = f.kind ∧
          wordMsb 5 ((bits.drop 5).take 5) = sender ∧ wordMsb 4 ((bits.drop 10).take 4) = BitVec.ofNat 4 n ∧
          (∀ i, (hi : i < n) → wordMsb 8 ((bits.drop (14 + 8 * i)).take 8) = f.payload[i]) ∧
          wordMsb 16 ((bits.drop (14 + 8 * n)).take 16) = crc ((bits.drop 1).take (13 + 8 * n)) ∧
          bits.drop (30 + 8 * n) = List.replicate 7 true ∧ Frame.receive bits = some (sender, f))) ∧
    ∀ (c : Instr) (bytes : List Byte), portBytes c = some bytes → portDecode bytes = some c

/-! ### Travel (chapter 01) -/

/-- R2, R3, R4: where one channel has changed, the count of 1/4096 mm moves by the pitch modulo 2^36, forward or back by
the sequence of the channels and the inversion; the other input stands. What was still due is settled first (assumption
log 3). -/
def Obligations.CountedStepMovesTheCount : Prop :=
  ∀ (s : State) (i : TravelInput) (ch1 ch2 : Bool) (ref : Bool × Bool),
    (s.travel i).pitch ≠ 0 →
    (s.travel i).reference = some ref →
    ((ch1 != ref.1) != (ch2 != ref.2)) = true →
    ∃ t, exec (.travelStep i ch1 ch2) s = .next t ∧
      (
        let forward := decide ((ch1, ch2) = leadNext ref) != (s.travel i).inverted
        (t.travel i).count.toNat =
            ((s.travel i).count.toNat + if forward then (s.travel i).pitch.toNat else 2 ^ 36 - (s.travel i).pitch.toNat) %
              2 ^ 36 ∧
          (t.travel i).reverse = !forward ∧ (t.travel i).reference = some (ch1, ch2)) ∧
      (∀ j, j ≠ i → t.travel j = s.travel j) ∧ t.mode = s.mode ∧ t.holders = s.holders ∧ t.store = s.store ∧
      t.busIdle = s.busIdle ∧ t.response = s.response

/-- R3, R8, R9, R23, R27, R28, R35, R44, R95, R115: a step taken with nothing due, no closure waiting and nothing owed
by the outlet only counts distance. Forward travel adds its whole millimetres to the eyes of its input and, on input A,
to the patience of the READY gates that are not suspended, up to their settings; reverse travel adds nothing. That the
first forward step of input A after reverse travel counts toward patience (assumption log 40) and that the count is
capped at the setting by the step itself (log 34) are the model's own choices, not rules. The outputs are taken at the
new position, backward as forward. Reverse travel of input A withdraws every own reservation. -/
def Obligations.QuietStepCountsDistance : Prop :=
  ∀ (s : State) (i : TravelInput) (ch1 ch2 : Bool) (ref : Bool × Bool),
    s.PinsFollow →
    s.settle = s →
    s.waiting = [] →
    (∀ d, (s.dest d).owed = none) →
    (s.role = some .outlet → ∀ r ∈ s.train, r.unrouted = false) →
    (s.travel i).pitch ≠ 0 →
    (s.travel i).reference = some ref →
    ((ch1 != ref.1) != (ch2 != ref.2)) = true →
    (
      let forward := decide ((ch1, ch2) = leadNext ref) != (s.travel i).inverted
      let counted := (s.travel i).counted (!forward)
      let inc := (diff counted.position (s.pos i)).toNat
      let u : State :=
        { s.setTravel i { counted with reference := some (ch1, ch2) } with
          lastStep := some { input := i, before := s.pos i, forward := forward }, freshWindows := []
          undoneReserves := []
          eyes := Vector.ofFn fun e =>
            if forward = true ∧ s.eyeRuns e = true ∧ (s.eye e).set.input = i then
              (s.eye e).atForwardStep (s.travel i).reverse inc
            else s.eye e }
      let v : State :=
        { u with
          gates := Vector.ofFn fun g =>
            let x := s.gate g
            if forward = true ∧ i = .a ∧ x.state = .ready ∧ u.suspended g = false ∧
                x.patienceCount < x.set.patience then
              { x with patienceCount := min x.set.patience (x.patienceCount + inc) }
            else x
          channels := Vector.ofFn fun c => u.shown (s.channel c) }
      ∃ t, exec (.travelStep i ch1 ch2) s = .next t ∧
        t = { v with
          gates := t.gates, reservations := t.reservations, queue := t.queue
          alertPin := (t.conditions &&& s.alertMask) != 0 } ∧
        (∀ g, t.gate g = { v.gate g with withdrawPending := (t.gate g).withdrawPending }) ∧
        (i = .a ∧ forward = true ∨ i = .b ∧ (forward = false ∨ (s.travel i).reverse = false) →
          t.gates = v.gates ∧ t.reservations = s.reservations ∧ t.queue = s.queue) ∧
        (i = .a → forward = false →
          t.reservations = s.reservations.filter (fun x => !x.own) ∧
            ∀ g, ((s.ownReservation g).any fun x => x.phase == .standing) = true →
              (t.gate g).withdrawPending = true ∨ (t.queue.any fun q => q.frame == .withdraw g) = true))

/-- R1, R2, R5: an unused input is not decoded; the first sample after a JOIN has given it a pitch is the reference
state and counts nothing; a sample without a change does nothing. An illegal transition counts nothing: position,
fraction and direction stand, the sample becomes the reference state, and one ENCODER_SKIP fault is recorded. -/
def Obligations.SamplesThatCountNothing : Prop :=
  ∀ (s : State) (i : TravelInput) (ch1 ch2 : Bool) (ref : Bool × Bool),
    s.PinsFollow →
    ((s.travel i).pitch = 0 → exec (.travelStep i ch1 ch2) s = .next s ∧ exec (.illegalTransition i) s = .next s) ∧
      ((s.travel i).pitch ≠ 0 → (s.travel i).reference = none →
        exec (.travelStep i ch1 ch2) s = .next (s.setTravel i { s.travel i with reference := some (ch1, ch2) })) ∧
      ((s.travel i).reference = some (ch1, ch2) → exec (.travelStep i ch1 ch2) s = .next s) ∧
      ((s.travel i).pitch ≠ 0 → (s.travel i).reference = some ref →
        (
          let t := State.alertAfresh
            ((s.setTravel i { s.travel i with reference := some (!ref.1, !ref.2) }).recordFault
              { kind := .encoderSkip, position := s.pos i, input := i, unit := some (.travel i) })
          exec (.illegalTransition i) s = .next t ∧ exec (.travelStep i (!ref.1) (!ref.2)) s = .next t))

/-- R7: positions of one input are ordered by their signed difference modulo 16,777,216. -/
def Obligations.SignedDifferenceOrdersPositions : Prop :=
  ∀ (a b x lo hi : Pos) (d : Int),
    (-8388608 ≤ diff a b ∧ diff a b ≤ 8388607 ∧ ((a.toNat : Int) - b.toNat - diff a b) % 16777216 = 0) ∧
      (atOrPast a b = true ↔ 0 ≤ diff a b) ∧ (diff a b = 0 ↔ a = b) ∧
      ((Pos.plus a d).toNat : Int) = ((a.toNat : Int) + d) % 16777216 ∧
      (inSpan x lo hi = true ↔ 0 ≤ diff x lo ∧ 0 < diff hi x) ∧
      (inRange x lo hi = true ↔ 0 ≤ diff x lo ∧ 0 ≤ diff hi x)

/-- R10, R11, R13, R14, R16 to R18: where the distance fits the field, the crossing a receiver decodes lies as far from
its own position as the edge lay from the sender's, plus the watch offset. Half-widths stay within 1 to 2,047 and are
doubled once. The predicted travel pred is floor((Lp × F + 8,192) / 16,384), for the path length in force and F as it
stands. A slip lesson moves F one eighth of the way toward the measured ratio, rounding down, and keeps it within its
range. -/
def Obligations.OffsetWindowAndSlipArithmetic : Prop :=
  ∀ (s : State) (x : IronerSettings) (tx edge rx : Pos) (wb wp pathLength slip : Nat) (d : Int) (doubled : Bool)
    (exitB entryB : Pos),
    (-4096 ≤ diff tx edge → diff tx edge ≤ 4094 →
        decodedCrossing rx d (edgeOffset tx edge) = Pos.plus rx (d - diff tx edge) ∧
          saturated (edgeOffset tx edge) = false) ∧
      halfWidth wb wp d doubled = max 1 (min 2047 ((wb + d.toNat * wp / 1024) * if doubled then 2 else 1)) ∧
      (s.ironer = some x → s.pred = (x.pathLength * s.slip + 8192) / 16384 ∧
        (500 ≤ x.pathLength → x.pathLength ≤ 20000 → 15360 ≤ s.slip → s.slip ≤ 17408 →
          469 ≤ s.pred ∧ s.pred ≤ 21250)) ∧
      (pathLength ≠ 0 → 15360 ≤ slip → slip ≤ 17408 →
        15360 ≤ learnedSlip pathLength slip exitB entryB ∧ learnedSlip pathLength slip exitB entryB ≤ 17408 ∧
          (diff exitB entryB ≤ 0 → learnedSlip pathLength slip exitB entryB = slip) ∧
          (0 < diff exitB entryB →
            let r : Int := max 15360 (min 17408 ((diff exitB entryB * 16384 + pathLength / 2) / pathLength))
            8 * ((learnedSlip pathLength slip exitB entryB : Int) - slip) ≤ r - slip ∧
              r - slip < 8 * ((learnedSlip pathLength slip exitB entryB : Int) - slip) + 8))

/-! ### Eyes (chapter 02) -/

/-- R21, R22, R23, R25, R84: a sample of a running eye's pin starts a candidate, leaves it or discards it, by the
polarity and the accepted level; the pin of an eye that does not run is not sampled. Nothing else changes, except that
with a filter of 0 a candidate is accepted as it begins, and that a candidate's end decides the closures waiting on
it. -/
def Obligations.EyeSampleIsFiltered : Prop :=
  ∀ (s : State) (e : EyeIx) (high : Bool),
    s.PinsFollow →
    (s.eye e).acceptDue = false →
    (
      let y : Eye := { s.eye e with pinHigh := high }
      let begun : State := s.setEye e
        { y with candidate := some { level := y.raw, snapA := s.pos .a, snapB := s.pos .b, dist := 0 } }
      (s.eyeRuns e = false ∨ y.candidate.isSome = (y.raw != y.accepted) →
          exec (.eyeRawChange e high) s = .next (s.setEye e y)) ∧
        (s.eyeRuns e = true → y.raw = y.accepted → y.candidate.isSome = true →
          exec (.eyeRawChange e high) s =
              .next (State.refresh ((s.setEye e { y with candidate := none }).candidateEnded e)) ∧
            ((∀ w ∈ s.waiting, w.eye ≠ e) ∨ s.live = false →
              exec (.eyeRawChange e high) s = .next (s.setEye e { y with candidate := none }))) ∧
        (s.eyeRuns e = true → y.raw ≠ y.accepted → y.candidate = none → y.set.filter ≠ 0 →
          exec (.eyeRawChange e high) s = .next begun) ∧
        (s.eyeRuns e = true → y.raw ≠ y.accepted → y.candidate = none → y.set.filter = 0 →
          exec (.eyeRawChange e high) s = exec (.edgeAccepted e) begun))

/-- R23, R24, R26, R28 to R31: an accepted candidate sets the level; BLOCKED starts a checkpoint eye's count, CLEAR
clears the count and lifts a jam. Where the edge is not delivered (LEVEL_HOLD, JOINING, CONFLICT, reverse travel), no
record, lot or fault changes. What a LEVEL cause suspends follows: gates, reservations and queue stand at every other
eye. -/
def Obligations.UndeliveredEdgeSetsTheLevel : Prop :=
  ∀ (s : State) (e : EyeIx) (c : Candidate),
    s.PinsFollow →
    (∀ w ∈ s.waiting, w.eye ≠ e) ∨ s.live = false →
    s.eyeRuns e = true →
    (s.eye e).candidate = some c →
    (s.eye e).set.filter ≤ c.dist →
    (s.eye e).set.function = .levelHold ∨ s.live = false ∨ (s.travel (s.eye e).set.input).reverse = true →
    ∃ t, exec (.edgeAccepted e) s = .next t ∧
      t.eye e = { s.eye e with
        accepted := c.level, candidate := none
        blockedDist := if c.level = .blocked ∧ (s.eye e).set.function ≠ .levelHold then some 0 else none
        jammed := (s.eye e).jammed && c.level == .blocked } ∧
      ((s.eye e).set.function ≠ .levelHold ∨ c.level = .clear →
        t.gates = s.gates ∧ t.reservations = s.reservations ∧ t.queue = s.queue) ∧
      t = { s with
        eyes := s.eyes.set e (t.eye e), gates := t.gates, reservations := t.reservations, queue := t.queue
        alertPin := t.alertPin }

/-- R23, R51, R58, R59, R60, R70, R71, R72, R76, R84, R139: at a first checkpoint a delivered leading edge moves the
record nearest the head whose window contains its capture to ENTERING, in its place by R51, and ends the wait of its
closure: at a FEED length eye with lead capture and corrected p, cleared at once where that puts its clearance position
behind; at the IRONER entry rebased onto input B, one predicted travel past the companion capture. At every checkpoint
an edge that no window takes, within the footprint of a record that awaits its trailing edge on the lane (a repeat) or
of a wider record of another reference lane (a shadow), only sets the level. -/
def Obligations.LeadingEdgeIsMatchedOrAbsorbed : Prop :=
  ∀ (s : State) (e : EyeIx) (c : Candidate) (r : Record) (k : Checkpoint),
    s.PinsFollow →
    s.TrainSound →
    s.EdgeDue e c k →
    c.level = .blocked →
    (
      let x := c.edge e
      let lane := (s.eye e).set.lane
      let capture := c.snap (s.eye e).set.input
      let window := fun (y : Record) => y.awaitsLead k && y.lane == lane && s.inWindow y k x
      let t : State := { s with eyes := s.eyes.set e ((s.eye e).become .blocked) }
      let others := s.train.filter fun y => y.tag != r.tag
      let unwaited := s.waiting.filter fun w => w.tag != r.tag
      (s.train.find? window = some r → (∀ w ∈ s.waiting, w.eye = e → w.tag = r.tag) → k = .feed → s.role = some .feed →
          (
            let moved : Record :=
              { r with stage := .entering, lead := some capture, p := Pos.plus capture (-(s.offsetAt .feed r.lane)) }
            if s.clearanceAt moved ≠ s.clearanceAt r ∧ atOrPast (s.pos .a) (s.clearanceAt moved) = true then
              ∃ u, exec (.edgeAccepted e) s = .next u ∧ u.train = others
            else exec (.edgeAccepted e) s = .next { t with train := insertRecord moved others, waiting := unwaited })) ∧
        (s.train.find? window = some r → (∀ w ∈ s.waiting, w.eye = e → w.tag = r.tag) → k = .entry →
          s.role = some .ironer →
          (
            let moved : Record :=
              { r with
                stage := .entering, basis := .b, p := Pos.plus c.snapB s.pred, lead := some c.snapB
                entryB := some c.snapB
                h := halfWidth s.baseWidth s.propWidth s.pred (r.flags.unverified || r.flags.lateAnnounce) }
            exec (.edgeAccepted e) s = .next { t with
              train := insertRecord moved others, waiting := unwaited, freshWindows := r.tag :: s.freshWindows })) ∧
        (s.train.any window = false → (∀ w ∈ s.waiting, w.eye ≠ e) →
          ((s.train.any fun y => y.awaitsTrail k && y.lane == lane && s.inFootprint y k x) = true ∨
            (s.train.any fun y => y.present k && hasLane y.lanes lane && y.lane != lane && s.inFootprint y k x) = true) →
          exec (.edgeAccepted e) s = .next t))

/-- R23, R58 to R60, R77 to R80: at a first checkpoint a delivered trailing edge moves the record nearest the head that
awaits it to INSIDE with its measured length, at the IRONER entry taken on input B from entry_B; a length of zero or
less is not set; one outside the class tolerance flags LENGTH and records the fault, but for STRAY and RECOVERED
records. Of a DOUBLE record every other DOUBLE record that awaits the edge there moves with it, unmeasured. At a FEED
length eye a record whose measured length moves its clearance position behind is cleared at once, and a record whose
clearance position travel has reached takes no edge and no verdict. -/
def Obligations.TrailingEdgeMeasuresAtFirstCheckpoint : Prop :=
  ∀ (s : State) (e : EyeIx) (c : Candidate) (r : Record) (k : Checkpoint),
    s.PinsFollow →
    s.TrainSound →
    s.EdgeDue e c k →
    c.level = .clear →
    (∀ w ∈ s.waiting, w.eye ≠ e) →
    (k = .feed ∧ s.role = some .feed) ∨
      (k = .entry ∧ s.role = some .ironer ∧ (s.eyeAt .exit (s.eye e).set.lane).isSome = true) →
    (
      let takes := fun (x : Record) => x.stage == .entering && x.lane == (s.eye e).set.lane &&
        !(k == .feed && atOrPast (s.pos .a) (s.clearanceAt x))
      s.train.find? takes = some r →
      (
        let capture := c.snap (s.eye e).set.input
        let length : Option Int :=
          if k = .entry then r.entryB.map (fun b => diff c.snapB b) else r.lead.map (fun a => diff capture a)
        let m : Option Nat := (length.filter fun n => decide (0 < n)).map Int.toNat
        let wrong := !r.flags.stray && !r.flags.recovered &&
          m.any fun n => decide ((s.classOf r.cls).tolerance < ((n : Int) - max 1 r.nominal).natAbs)
        let moved : Record :=
          { r with
            stage := .inside, measured := if m.isSome then m else r.measured
            flags := { r.flags with length := r.flags.length || wrong } }
        let pairs := if r.flags.double then s.train.filter fun y =>
            y.tag != r.tag && y.flags.double && takes y
          else []
        let others := s.train.filter fun x => x.tag != r.tag
        let pairsMoved := pairs.foldl fun l y =>
          insertRecord { y with stage := .inside } (l.filter fun x => x.tag != y.tag)
        if k = .feed ∧ s.clearanceAt moved ≠ s.clearanceAt r ∧ atOrPast (s.pos .a) (s.clearanceAt moved) = true then
          ∃ t, exec (.edgeAccepted e) s = .next t ∧ t.train = pairsMoved others
        else ∃ t, exec (.edgeAccepted e) s = .next t ∧
          t = { (if wrong then s.recordFault
              { kind := .length, position := capture, input := (s.eye e).set.input, tag := some r.tag, lot := some r.lot
                unit := some (.eye e) } else s) with
            eyes := s.eyes.set e ((s.eye e).become .clear), alertPin := t.alertPin
            train := pairsMoved (insertRecord moved others) }))

/-- R59 to R61, R77 to R80, R146, R154, R155: at every checkpoint a delivered trailing edge that no record takes only
sets the level: the edge of a side lane, of a record that has gone, or at a FEED length eye of a record whose clearance
position travel has reached. At an IRONER exit eye a delivered trailing edge gives the record nearest the head that
awaits it its length verdict, and it leaves the train as DEPARTED with the other DOUBLE records that await the edge; no
frame is queued or changed: that a LENGTH verdict taken here changes no waiting HANDOFF is the model's choice between
two sentences of R146 (assumption log 41). At an OUTLET entry eye it moves the record to LEAVING with its measured
length, and a length above nominal extends its divert to e + Xd + m + Ma, with a LATE_DIVERT fault where the pulse is
gone; where the measured length moves the record's departure position behind, it departs at once. -/
def Obligations.TrailingEdgePassesExitAndOutlet : Prop :=
  ∀ (s : State) (e : EyeIx) (c : Candidate) (r : Record) (k : Checkpoint),
    s.PinsFollow →
    s.TrainSound →
    s.EdgeDue e c k →
    c.level = .clear →
    (∀ w ∈ s.waiting, w.eye ≠ e) →
    (
      let takes := fun (x : Record) => x.awaitsTrail k && x.lane == (s.eye e).set.lane &&
        !(k == .feed && atOrPast (s.pos .a) (s.clearanceAt x))
      (s.train.find? takes = none →
          exec (.edgeAccepted e) s = .next (State.alertAfresh (s.setEye e ((s.eye e).become .clear)))) ∧
        (s.train.find? takes = some r →
          (
          let capture := c.snap (s.eye e).set.input
          let m : Option Nat := ((r.lead.map fun a => diff capture a).filter fun n => decide (0 < n)).map Int.toNat
          let wrong := !r.flags.stray && !r.flags.recovered &&
            m.any fun n => decide ((s.classOf r.cls).tolerance < ((n : Int) - max 1 r.nominal).natAbs)
          let verdict : FaultRecord :=
            { kind := .length, position := capture, input := (s.eye e).set.input, tag := some r.tag, lot := some r.lot
              unit := some (.eye e) }
          let pairs := if r.flags.double then s.train.filter fun y =>
              y.tag != r.tag && y.flags.double && takes y
            else []
          (k = .exit → s.role = some .ironer →
              ∃ t, exec (.edgeAccepted e) s = .next t ∧
                t.train = s.train.filter (fun y => y.tag != r.tag && pairs.all fun x => x.tag != y.tag) ∧
                (wrong = true → 8 ≤ t.faults.length ∨ verdict ∈ t.faults) ∧
                t = { s with
                  eyes := s.eyes.set e ((s.eye e).become .clear), train := t.train, trainCause := t.trainCause
                  waiting := t.waiting, freshWindows := t.freshWindows, lots := t.lots, closureList := t.closureList
                  dests := t.dests, channels := t.channels, faults := t.faults, overflow := t.overflow
                  alertPin := t.alertPin }) ∧
            (k = .outlet → s.role = some .outlet → (s.eye e).set.input = .a →
              (
                let moved : Record :=
                  { r with
                    stage := .leaving, measured := if m.isSome then m else r.measured
                    flags := { r.flags with length := r.flags.length || wrong } }
                let answer : Option (DestIx × ChannelIx × Channel × Answer) := do
                  let d ← r.dest
                  let at_ ← r.lead
                  let n ← m
                  let ch ← (s.dest d).set.divert
                  if max 1 r.nominal < n then
                    some (d, ch, (s.channel ch).extend r.tag (Pos.plus at_ ((s.dest d).set.xd + n + (s.dest d).set.ma)))
                  else none
                let judged := if wrong then s.recordFault verdict else s
                let u := match answer with
                  | some (d, _, _, .gone) => judged.recordFault
                    { kind := .lateDivert, position := s.pos .a, input := .a, tag := some r.tag, lot := some r.lot
                      unit := some (.destination d) }
                  | _ => judged
                let pairsMoved := pairs.foldl fun l y =>
                  insertRecord { y with stage := .leaving } (l.filter fun x => x.tag != y.tag)
                let others := s.train.filter fun x => x.tag != r.tag
                if s.departureAt moved ≠ s.departureAt r ∧
                    ((s.departureAt moved).any fun y => atOrPast (s.pos .a) y) = true then
                  ∃ t, exec (.edgeAccepted e) s = .next t ∧ t.train = pairsMoved others
                else ∃ t, exec (.edgeAccepted e) s = .next t ∧
                  (∀ j, t.channel j = match answer with
                    | some (_, ch, x, _) => if j = ch then s.shown x else s.channel j
                    | none => s.channel j) ∧
                  t = { u with
                    eyes := s.eyes.set e ((s.eye e).become .clear), channels := t.channels, alertPin := t.alertPin
                    train := pairsMoved (insertRecord moved others) })))))

/-- R49, R51, R52, R57, R73 to R75, R151, R152: a delivered leading edge that no record takes makes a stray record in
its place by R51: RECOVERED with one credit of the nearest upstream entry that holds any, otherwise STRAY with a STRAY
fault. At a FEED length eye it stands on input A at its capture, at the IRONER entry it is created rebased onto input B,
at an OUTLET entry eye it is routed at its creation, to the reject destination, with its divert requested (the STRAY
fault before a fault of the routing: the model's choice, assumption log 39). With a full train the edge makes no record
and records TRAIN_FULL. At an IRONER exit eye it makes none and records STRAY. -/
def Obligations.StrayEdgeMakesARecord : Prop :=
  ∀ (s : State) (e : EyeIx) (c : Candidate) (k : Checkpoint),
    s.PinsFollow →
    s.EdgeDue e c k →
    c.level = .blocked →
    (∀ w ∈ s.waiting, w.eye ≠ e) →
    (
      let lane := (s.eye e).set.lane
      let x := c.edge e
      (s.train.all fun y =>
        !(y.awaitsLead k && y.lane == lane && s.inWindow y k x) &&
          !(y.awaitsTrail k && y.lane == lane && s.inFootprint y k x) &&
          !(y.present k && hasLane y.lanes lane && y.lane != lane && s.inFootprint y k x)) = true →
      (
        let capture := c.snap (s.eye e).set.input
        let t0 : State := { s with eyes := s.eyes.set e ((s.eye e).become .blocked) }
        let credit := creditIndex s.watch
        let tag := s.allocate.1
        let made : Record :=
          { tag := tag, cls := 15, lot := 255, gate := none, lanes := (1 : Lanes) <<< lane.val, nominal := 0
            measured := none, stage := .entering, basis := .a, p := Pos.plus capture (-(s.eye e).set.offset)
            h := max 1 (min 2047 s.baseWidth), lead := some capture, entryB := none, dest := none
            flags := { recovered := credit.isSome, stray := credit.isNone }, order := s.admissions }
        let n := s.train.length + 1
        let judged := if credit.isSome then s else s.recordFault
          { kind := .stray, position := capture, input := (s.eye e).set.input, tag := some tag, lot := some 255
            unit := some (.eye e) }
        let added := fun (u t : State) (r : Record) =>
          ({ u with
            eyes := t0.eyes, train := insertRecord r s.train, admissions := s.admissions + 1
            serial := tag.serial + 1, freshWindows := tag :: s.freshWindows
            trainCause := if s.highMark ≤ n then true else if n ≤ s.lowMark then false else s.trainCause
            watch := match credit with
              | some i => takeCredit s.watch i
              | none => s.watch
            gates := t.gates, reservations := t.reservations, queue := t.queue, alertPin := t.alertPin } : State)
        (k = .feed → s.role = some .feed → s.trainFull = false → atOrPast (s.pos .a) (s.clearanceAt made) = false →
            s.findRecord tag = none →
            ∃ t, exec (.edgeAccepted e) s = .next t ∧ t = added judged t made) ∧
          (k = .entry → s.role = some .ironer → s.trainFull = false → s.findRecord tag = none →
            (
              let rebased : Record :=
                { made with
                  basis := .b, p := Pos.plus c.snapB s.pred, h := halfWidth s.baseWidth s.propWidth s.pred false
                  lead := some c.snapB, entryB := some c.snapB }
              ∃ t, exec (.edgeAccepted e) s = .next t ∧ t = added judged t rebased)) ∧
          (k = .outlet → s.role = some .outlet → (s.eye e).set.input = .a → s.trainFull = false →
            s.findRecord tag = none →
            (
              let d := s.rejectDest
              let set := (s.dest d).set
              let answer : Option (ChannelIx × Channel × Answer) := set.divert.map fun i =>
                (i, (s.channel i).request (s.pos (s.channel i).input) (Pos.plus capture (set.xd - set.mb : Int))
                  (Pos.plus capture (set.xd + 1 + set.ma)) (some tag))
              let taken : DestIx × Option FaultKind := match answer with
                | some (_, _, .late _) => (d, some .lateDivert)
                | some (_, _, .tooLate) => (0, some .lateDivert)
                | some (_, _, .busy) => (0, some .divertBusy)
                | _ => (d, none)
              let routed : Record := { made with dest := some taken.1 }
              let u := match taken.2 with
                | some kind => judged.recordFault
                  { kind := kind, position := s.pos .a, input := .a, tag := some tag, lot := some 255
                    unit := some (.destination d) }
                | none => judged
              ((s.departureAt routed).all fun y => !atOrPast (s.pos .a) y) = true →
              ∃ t, exec (.edgeAccepted e) s = .next t ∧
                (∀ j, t.channel j = match answer with
                  | some (i, y, _) => if j = i then s.shown y else s.channel j
                  | none => s.channel j) ∧
                t = { added u t routed with channels := t.channels })) ∧
          (k ≠ .exit → s.trainFull = true → exec (.edgeAccepted e) s = .next (State.alertAfresh
            (t0.recordFault { kind := .trainFull, position := s.pos .a, input := .a, unit := some (.eye e) }))) ∧
          (k = .exit → exec (.edgeAccepted e) s = .next (State.alertAfresh (t0.recordFault
            { kind := .stray, position := capture, input := (s.eye e).set.input, unit := some (.eye e) })))))

/-- R18, R23, R51, R60, R70, R84, R141 to R143, R145, R147: at an IRONER exit eye a delivered leading edge moves the
record nearest the head whose window contains it to LEAVING; the exit reject-next is consumed; a HANDOFF of the record
as it then stands is queued, or dropped at a full queue with its sequence spent and a TX_OVERRUN fault; and a clean
record teaches slip where learning is set. -/
def Obligations.ExitEdgeHandsItemOn : Prop :=
  ∀ (s : State) (e : EyeIx) (c : Candidate) (r : Record) (x : IronerSettings) (b : Pos),
    s.PinsFollow →
    s.TrainSound →
    s.EdgeDue e c .exit →
    s.role = some .ironer →
    c.level = .blocked →
    (s.train.find? fun y =>
      y.awaitsLead .exit && y.lane == (s.eye e).set.lane && s.inWindow y .exit (c.edge e)) = some r →
    (∀ w ∈ s.waiting, w.eye = e → w.tag = r.tag) →
    s.ironer = some x →
    r.entryB = some b →
    (
      let capture := c.snap (s.eye e).set.input
      let moved : Record :=
        { r with
          stage := .leaving, lead := some capture, p := Pos.plus capture (-(s.offsetAt .exit r.lane))
          flags := { r.flags with reject := r.flags.reject || s.exitRejectNext } }
      let clean := !r.flags.double && !r.flags.stray && !r.flags.unverified && !r.flags.lateAnnounce && !r.flags.length
      let announced : State :=
        if s.queue.length < 16 then
          { s with
            queue := s.queue ++ [TxFrame.new (.handoff
              { tag := r.tag, cls := r.cls, gate := r.gate, lot := r.lot, lanes := r.lanes
                flags := { reject := moved.flags.reject, double := r.flags.double, stray := r.flags.stray
                           recovered := r.flags.recovered, unverified := r.flags.unverified, length := r.flags.length }
                length := BitVec.ofNat 12 (min 4095 (r.measured.getD r.nominal)), offset := 0, seq := 0 }) capture] }
        else
          { s.recordFault
              { kind := .txOverrun, position := s.pos .b, input := .b, tag := some r.tag, lot := some r.lot } with
            passageSeq := s.passageSeq + 1 }
      exec (.edgeAccepted e) s = .next (State.alertAfresh
        { announced with
          eyes := s.eyes.set e ((s.eye e).become .blocked), exitRejectNext := false
          train := insertRecord moved (s.train.filter fun y => y.tag != r.tag)
          waiting := s.waiting.filter fun w => w.tag != r.tag
          slip := if x.learning && clean then learnedSlip x.pathLength s.slip capture b else s.slip }))

/-- R23, R51, R61, R70, R84, R151, R152: at an OUTLET entry eye a delivered leading edge moves the record nearest the
head whose window contains it to ENTERING and routes it: to the reject destination, or by class. Where the destination
names a divert channel its span is requested: LATE keeps the destination with a LATE_DIVERT fault, TOO_LATE and BUSY
send the record to destination 0 with a LATE_DIVERT or DIVERT_BUSY fault. -/
def Obligations.OutletEdgeRoutesItem : Prop :=
  ∀ (s : State) (e : EyeIx) (c : Candidate) (r : Record),
    s.PinsFollow →
    s.TrainSound →
    s.EdgeDue e c .outlet →
    s.role = some .outlet →
    (s.eye e).set.input = .a →
    c.level = .blocked →
    (s.train.find? fun y =>
      y.awaitsLead .outlet && y.lane == (s.eye e).set.lane && s.inWindow y .outlet (c.edge e)) = some r →
    (∀ w ∈ s.waiting, w.eye = e → w.tag = r.tag) →
    (
      let capture := c.snapA
      let doubtful := r.flags.double || r.flags.stray || r.flags.unverified || r.flags.length
      let d : DestIx :=
        if r.flags.reject = true ∨ r.lot = 255 ∨ (doubtful = true ∧ s.doubtfulToClass = false) then s.rejectDest
        else (s.classOf r.cls).dest
      let set := (s.dest d).set
      let answer : Option (ChannelIx × Channel × Answer) := set.divert.map fun k =>
        (k, (s.channel k).request (s.pos (s.channel k).input) (Pos.plus capture (set.xd - set.mb : Int))
          (Pos.plus capture (set.xd + max 1 r.nominal + set.ma)) (some r.tag))
      let taken : DestIx × Option FaultKind := match answer with
        | some (_, _, .late _) => (d, some .lateDivert)
        | some (_, _, .tooLate) => (0, some .lateDivert)
        | some (_, _, .busy) => (0, some .divertBusy)
        | _ => (d, none)
      let moved : Record :=
        { r with
          stage := .entering, lead := some capture, p := Pos.plus capture (-(s.offsetAt .outlet r.lane))
          dest := some taken.1 }
      let u := match taken.2 with
        | some kind => s.recordFault
          { kind := kind, position := s.pos .a, input := .a, tag := some r.tag, lot := some r.lot
            unit := some (.destination d) }
        | none => s
      ((s.departureAt moved).all fun y => !atOrPast (s.pos .a) y) = true →
      ∃ t, exec (.edgeAccepted e) s = .next t ∧
        (∀ k, t.channel k = match answer with
          | some (i, x, _) => if k = i then s.shown x else s.channel k
          | none => s.channel k) ∧
        t = { u with
          eyes := s.eyes.set e ((s.eye e).become .blocked), channels := t.channels, alertPin := t.alertPin
          train := insertRecord moved (s.train.filter fun y => y.tag != r.tag)
          waiting := s.waiting.filter fun w => w.tag != r.tag })

/-- R28: a checkpoint eye whose blocked distance has passed its jam length becomes jammed, with one JAM fault. -/
def Obligations.JamIsRecordedOnce : Prop :=
  ∀ (s : State) (e : EyeIx) (n : Nat),
    s.eyeRuns e = true →
    (s.eye e).jammed = false →
    (s.eye e).blockedDist = some n →
    (s.eye e).set.jamLength < n →
    ∃ t, exec (.jam e) s = .next t ∧ t.eye e = { s.eye e with jammed := true } ∧ t.jamCause = true ∧
      (∀ k, k ≠ e → t.eye k = s.eye k) ∧
      (
        let f : FaultRecord :=
          { kind := .jam, position := s.pos (s.eye e).set.input, input := (s.eye e).set.input, unit := some (.eye e) }
        t.faults = (s.recordFault f).faults ∧ t.overflow = (s.recordFault f).overflow) ∧
      t = { s with
        eyes := t.eyes, faults := t.faults, overflow := t.overflow, channels := t.channels, gates := t.gates
        reservations := t.reservations, queue := t.queue, alertPin := t.alertPin } ∧
      exec (.jam e) t = .next t

/-! ### Pulse channels (chapter 03) -/

/-- R35, R43: at its end the ACTIVE pulse is retired, NEXT takes its place, and the output is taken against it; where
the step has passed NEXT's end as well, both slots are empty and the output inactive. Nothing else changes. -/
def Obligations.PulseRetiresAtItsEnd : Prop :=
  ∀ (s : State) (c : ChannelIx) (a : Pulse),
    s.PinsFollow →
    s.joined = true →
    (s.channel c).active = some a →
    s.reached (s.channel c).input a.stop = true →
    exec (.pulseRetired c) s = .next (s.setChannel c (
      if ((s.channel c).next.any fun n => s.reached (s.channel c).input n.stop) = true then
        { s.channel c with active := none, next := none, output := false }
      else Channel.afresh { s.channel c with active := (s.channel c).next, next := none } (s.pos (s.channel c).input)
        (s.mode == .running) false))

/-- R36 to R42: an empty request is PLACED and a passed one TOO_LATE, both without effect; a late one keeps its end. A
taken one answers the slot whose pulse now holds the span, with its start and end as they stand and the tag last; BUSY
changes nothing. On an empty channel the span is ACTIVE; one that lies before ACTIVE takes its place where NEXT is
empty. One that touches ACTIVE is merged in MERGE mode, joining NEXT where it then touches it, and in DISTINCT mode
moved to ACTIVE end + 1 with its width kept; one after ACTIVE goes to NEXT, in MERGE mode also merging into it. A tag in
no pulse is GONE and changes nothing; an extension never shortens, joins NEXT in MERGE mode and is LIMITED before NEXT
in DISTINCT mode; an abort removes the pulse whole, promotes NEXT, and answers whether it had started. -/
def Obligations.ChannelOperationsAnswer : Prop :=
  ∀ (c : Channel) (now from_ to_ : Pos) (tag : Tag) (y : Pos) (a n : Pulse),
    c.Sound →
    (diff to_ from_ ≤ 0 → c.request now from_ to_ (some tag) = (c, .placed none)) ∧
      (0 < diff to_ from_ → 0 ≤ diff now to_ → c.request now from_ to_ (some tag) = (c, .tooLate)) ∧
      (0 < diff to_ from_ → diff now to_ < 0 →
        (
          let late := decide (0 < diff now from_)
          let start := if late then now else from_
          let asked := c.request now from_ to_ (some tag)
          let span : Pulse := { start := start, stop := to_, refs := [tag], started := false }
          let touches := fun (q : Pulse) => diff start q.stop ≤ 0 ∧ diff q.start to_ ≤ 0
          let with_ := fun (q : Pulse) (more : List Tag) =>
            ({ q with
                start := if diff q.start start ≤ 0 then q.start else start
                stop := if 0 ≤ diff q.stop to_ then q.stop else to_
                refs := (q.refs ++ more).drop ((q.refs ++ more).length - 4) } : Pulse)
          let answered := fun (merged : Bool) (slot : Slot) (q : Pulse) =>
            if late then Answer.late (some (slot, q.start, q.stop))
            else if merged then Answer.merged (some (slot, q.start, q.stop))
            else Answer.placed (some (slot, q.start, q.stop))
          let held := fun (slot : Slot) (first last : Pos) =>
            ((asked.1.slot slot).any fun q => q.start == first && q.stop == last && q.refs.getLast? == some tag) = true
          (match asked.2 with
            | .busy => asked.1 = c ∧ c.next ≠ none
            | .placed (some (slot, first, last)) => late = false ∧ held slot first last
            | .merged (some (slot, first, last)) => late = false ∧ held slot first last
            | .late (some (slot, first, last)) => late = true ∧ held slot first last
            | _ => False) ∧
            (c.active = none → asked = ({ c with active := some span }, answered false .active span)) ∧
            (c.active = some a → ¬touches a → 0 < diff a.start to_ →
              asked = if c.next.isNone then
                  ({ c with active := some span, next := some a }, answered false .active span)
                else (c, .busy)) ∧
            (c.active = some a → touches a → c.mode = .distinct →
              asked = (
                let moved : Pulse :=
                  { start := a.stop + 1, stop := a.stop + 1 + (to_ - start), refs := [tag], started := false }
                if c.next.isNone then ({ c with next := some moved }, answered false .next moved) else (c, .busy))) ∧
            (c.active = some a → touches a → c.mode = .merge →
              (
                let wide := with_ a [tag]
                let meets := fun (q : Pulse) => diff wide.start q.stop ≤ 0 ∧ diff q.start wide.stop ≤ 0
                ((∀ q ∈ c.next, ¬meets q) →
                    asked = ({ c with active := some wide }, answered true .active wide)) ∧
                  (c.next = some n → meets n →
                    asked = (
                      let refs := a.refs ++ n.refs ++ [tag]
                      let joined : Pulse :=
                        { start := wide.start, stop := if 0 ≤ diff wide.stop n.stop then wide.stop else n.stop
                          refs := refs.drop (refs.length - 4), started := a.started || n.started }
                      ({ c with active := some joined, next := none }, answered true .active joined))))) ∧
            (c.active = some a → ¬touches a → diff a.start to_ ≤ 0 →
              (c.next = none → asked = ({ c with next := some span }, answered false .next span)) ∧
                (c.next = some n → asked = if c.mode = .merge ∧ touches n then
                    ({ c with next := some (with_ n [tag]) }, answered true .next (with_ n [tag]))
                  else (c, .busy))))) ∧
      (c.active = some a → tag ∉ a.refs → (∀ q, c.next = some q → tag ∉ q.refs) →
        c.extend tag y = (c, .gone) ∧ c.abort tag = (c, .gone)) ∧
      (c.active = some a → tag ∈ a.refs →
        c.abort tag = ({ c with active := c.next, next := none }, .aborted a.started) ∧
          (diff y a.stop ≤ 0 → c.extend tag y = (c, .unchanged)) ∧
          (0 < diff y a.stop → c.next = none →
            c.extend tag y = ({ c with active := some { a with stop := y } }, .extended)) ∧
          (0 < diff y a.stop → c.next = some n → c.mode = .distinct → c.extend tag y =
            if 0 ≤ diff y n.start then ({ c with active := some { a with stop := n.start - 1 } }, .limited)
            else ({ c with active := some { a with stop := y } }, .extended)) ∧
          (0 < diff y a.stop → c.next = some n → c.mode = .merge → c.extend tag y =
            if diff a.start n.stop ≤ 0 ∧ diff n.start y ≤ 0 then
              ({ c with
                active := some { start := a.start, stop := if 0 ≤ diff y n.stop then y else n.stop
                                 refs := (a.refs ++ n.refs).drop ((a.refs ++ n.refs).length - 4)
                                 started := a.started || n.started }
                next := none }, .extended)
            else ({ c with active := some { a with stop := y } }, .extended))) ∧
      (c.active = some a → c.next = some n → tag ∉ a.refs → tag ∈ n.refs →
        c.abort tag = ({ c with next := none }, .aborted n.started) ∧
          c.extend tag y =
            if diff y n.stop ≤ 0 then (c, .unchanged) else ({ c with next := some { n with stop := y } }, .extended))

/-! ### The train and the matcher (chapters 04, 05, 09) -/

/-- R62, R83, R84, R87, R90: a window closing on a clear eye without a candidate begun in time is a miss. The record
leaves the train with the first cause that applies, a LOST, dropped with TX_OVERRUN at a full queue, and its fault where
the list has room; a WRAP sets the wrap alarm: `State.Missed` says it. -/
def Obligations.ClosureOnClearEyeIsMiss : Prop :=
  ∀ (s : State) (tag : Tag) (r : Record) (k : Checkpoint) (e : EyeIx) (closing : Pos),
    s.dueRecord .closure tag = some r →
    s.windowOf r = some (k, e, closing) →
    (s.eye e).accepted = .clear →
    (s.eye e).holdsBefore r.basis closing = false →
    ∃ t, exec (.windowClosure tag) s = .next t ∧ s.Missed r k e t

/-- R58, R60, R61, R84 to R86, R141, R143 to R145, R151, R152: at every checkpoint a closure at an eye that holds a
candidate begun in time waits on it. On a blocked eye the record passes as at its expected crossing; where another
record awaits its trailing edge there both become DOUBLE and REJECT, with one DOUBLE fault, and where none does there is
no fault. At a FEED length eye its p is unchanged. At the IRONER entry entry_B is the position of input B less its H. At
the IRONER exit the exit reject-next is consumed and its HANDOFF queued, or dropped at a full queue with its sequence
spent, and no slip is taught; before that, a preceding record that gains REJECT with its HANDOFF gone has a MARK queued,
or dropped with TX_OVERRUN (before the DOUBLE fault: the model's choice, assumption log 39). At an OUTLET entry eye it
is routed and its divert requested; in reverse travel it waits unrouted (assumption log 43). Nothing else changes:
`State.PassedOn` says it. -/
def Obligations.ClosureOnBlockedEyePasses : Prop :=
  ∀ (s : State) (tag : Tag) (r : Record) (k : Checkpoint) (e : EyeIx) (closing : Pos),
    s.PinsFollow →
    s.TrainSound →
    s.dueRecord .closure tag = some r →
    s.windowOf r = some (k, e, closing) →
    ((s.eye e).holdsBefore r.basis closing = true →
        exec (.windowClosure tag) s =
          .next { s with waiting := s.waiting ++ [{ eye := e, tag := tag, widened := false }] }) ∧
      ((s.eye e).holdsBefore r.basis closing = false → (s.eye e).accepted = .blocked →
        ∃ t, exec (.windowClosure tag) s = .next t ∧ s.PassedOn r k e closing t)

/-- R62, R84 to R87: when the candidate of an eye ends, discarded by a sample or accepted with or without an edge, each
closure waiting on it is decided, after the edge, on the level the eye then has. R84 gives no order between them: that
they are decided, and their LOST frames queued, in the order in which they began to wait is the model's choice
(assumption log 38). So what becomes of the last one is said from the state u that the same command would leave without
it: a record that the edge has matched, or that has gone, or that gained UNVERIFIED while it waited and has its closing
position ahead, is left as it is; every other is missed on a clear eye and passes, alone or as DOUBLE, on a blocked one.
At a FEED length eye the whole outcome is written out for an end without an edge. -/
def Obligations.WaitingClosuresAreDecided : Prop :=
  ∀ (s : State) (e : EyeIx) (high : Bool) (c : Candidate) (cmd : Instr) (y : Eye) (w : Waiting) (r : Record)
    (closing : Pos) (before : List Waiting) (u : State),
    s.PinsFollow →
    s.TrainSound →
    s.live = true →
    s.eyeRuns e = true →
    (s.eye e).candidate = some c →
    (
      let discarded := cmd = .eyeRawChange e high ∧ c.dist < (s.eye e).set.filter ∧
        y = { s.eye e with pinHigh := high, candidate := none } ∧ y.raw = y.accepted
      let accepted := cmd = .edgeAccepted e ∧ (s.eye e).set.filter ≤ c.dist ∧ y = (s.eye e).become c.level
      let waits := s.waiting.filter fun x => x.eye == e
      let decided := fun (x : Record) => waits.any fun v => v.tag == x.tag
      let cause := fun (x : Record) =>
        if x.flags.unverified then (2 : Byte)
        else if x.flags.own ∧ x.gate = some (s.eye e).set.gate then 4
        else 1
      let ended : State :=
        { s with eyes := s.eyes.set e y, waiting := s.waiting.filter fun x => waits.all fun v => v.tag != x.tag }
      (discarded ∨ accepted → waits = before ++ [w] → (s.waiting.filter fun v => v.tag == w.tag) = [w] →
          ((s.findRecord w.tag).any fun x => (s.windowOf x).any fun z => z.2.1 == e) = true →
          exec cmd { s with waiting := s.waiting.filter fun v => v.tag != w.tag } = .next u →
          (
            let kept := (u.findRecord w.tag).filter fun x => (u.windowOf x).any fun z => z.2.1 == e
            (kept = none → exec cmd s = .next u) ∧
              (∀ x ∈ kept, ∀ z ∈ u.windowOf x,
                if w.widened = true ∧ atOrPast (u.pos x.basis) z.2.2 = false then exec cmd s = .next u
                else ∃ t, exec cmd s = .next t ∧ (y.accepted = .clear → u.Missed x z.1 e t) ∧
                  (y.accepted = .blocked → u.PassedOn x z.1 e z.2.2 t)))) ∧
        (discarded ∨ accepted ∧ (s.travel (s.eye e).set.input).reverse = true → s.role = some .feed →
          (s.eye e).set.function = .feedLength →
          (y.accepted = .clear → (waits.map (·.tag)).Nodup → s.queue.length + waits.length ≤ 16 →
              (∀ v ∈ waits, ((s.findRecord v.tag).any fun x =>
                (s.windowOf x).any fun z => z.2.1 == e && !(v.widened && !atOrPast (s.pos x.basis) z.2.2)) = true) →
              ∃ t, exec cmd s = .next t ∧ t.train = s.train.filter (fun x => !decided x) ∧
                t.queue = s.queue ++ waits.filterMap (fun v => (s.findRecord v.tag).map fun x =>
                  TxFrame.new (.lost x.tag (cause x)) 0) ∧
                t = { ended with
                  train := t.train, trainCause := t.trainCause, freshWindows := t.freshWindows, lots := t.lots
                  closureList := t.closureList, dests := t.dests, channels := t.channels, queue := t.queue
                  faults := t.faults, overflow := t.overflow, alertPin := t.alertPin }) ∧
            (waits = [w] → s.findRecord w.tag = some r → s.windowOf r = some (.feed, e, closing) →
              (w.widened = true → atOrPast (s.pos r.basis) closing = false → exec cmd s = .next ended.alertAfresh) ∧
                (w.widened = false ∨ atOrPast (s.pos r.basis) closing = true → y.accepted = .blocked →
                  (s.train.all fun x => !(x.stage == .entering && x.lane == r.lane)) = true →
                  exec cmd s = .next (State.alertAfresh { ended with
                    train := insertRecord
                      { r with stage := .entering, lead := some (Pos.plus r.p (s.eye e).set.offset) }
                      (s.train.filter fun x => x.tag != r.tag) })))))

/-- R17, R51, R58, R60, R61, R82, R141, R151: where a lane has no eye at the checkpoint, the record advances when travel
reaches its p: at a FEED tracker from PENDING to INSIDE with lead capture p; at the IRONER entry to INSIDE on input B
with p one predicted travel ahead; at the IRONER exit to LEAVING with its HANDOFF queued and no slip lesson; at an
OUTLET to ENTERING and routed, shown for a destination without a divert channel. Nothing else changes. -/
def Obligations.DeadReckoningAdvances : Prop :=
  ∀ (s : State) (tag : Tag) (r : Record),
    s.PinsFollow →
    s.TrainSound →
    s.dueRecord .reckoning tag = some r →
    (
      let others := s.train.filter fun x => x.tag != tag
      (s.role = some .feed → r.stage = .pending →
          exec (.deadReckoning tag) s =
            .next { s with train := insertRecord { r with stage := .inside, lead := some r.p } others }) ∧
        (s.role = some .ironer → r.stage = .pending → (s.eyeAt .exit r.lane).isSome = true →
          (
            let b := s.pos .b
            let moved : Record :=
              { r with
                stage := .inside, basis := .b, p := Pos.plus b s.pred, lead := some b, entryB := some b
                h := halfWidth s.baseWidth s.propWidth s.pred (r.flags.unverified || r.flags.lateAnnounce) }
            exec (.deadReckoning tag) s =
              .next { s with train := insertRecord moved others, freshWindows := tag :: s.freshWindows })) ∧
        (s.role = some .ironer → r.stage = .inside → s.queue.length < 16 →
          (
            let flags : Flags := { r.flags with reject := r.flags.reject || s.exitRejectNext }
            exec (.deadReckoning tag) s = .next { s with
              train := insertRecord { r with stage := .leaving, lead := some r.p, flags := flags } others
              exitRejectNext := false
              queue := s.queue ++ [TxFrame.new (.handoff
                { tag := r.tag, cls := r.cls, gate := r.gate, lot := r.lot, lanes := r.lanes
                  flags := { reject := flags.reject, double := r.flags.double, stray := r.flags.stray
                             recovered := r.flags.recovered, unverified := r.flags.unverified
                             length := r.flags.length }
                  length := BitVec.ofNat 12 (min 4095 (r.measured.getD r.nominal)), offset := 0, seq := 0 }) r.p] })) ∧
        (s.role = some .outlet → r.stage = .pending →
          (
            let doubtful := r.flags.double || r.flags.stray || r.flags.unverified || r.flags.length
            let d : DestIx :=
              if r.flags.reject = true ∨ r.lot = 255 ∨ (doubtful = true ∧ s.doubtfulToClass = false) then s.rejectDest
              else (s.classOf r.cls).dest
            let moved : Record := { r with stage := .entering, lead := some r.p }
            s.travelA.reverse = false → (s.dest d).set.divert = none →
              ((s.departureAt { moved with dest := some d }).all fun y => !atOrPast (s.pos .a) y) = true →
              exec (.deadReckoning tag) s =
                .next { s with train := insertRecord { moved with dest := some d } others })))

/-- R59, R155 to R158, R166, R168 to R170: travel past its clearance position removes a FEED record as CLEARED: no frame
is sent, no gate, eye or counter changes. At its departure position a routed record of any lot is counted into its
destination's stack and leaves as DEPARTED, without a frame: a stack of another lot is closed first for LOT_SWITCH, a
stack that reaches its size is closed for FULL, and then every stack of a lot that the removal closes is closed for
LOT_END. A closure keeps lot, count and reason as the last one, and requests [T + Sw, T + Sw + Sa) of the stack channel,
with a STACK_BUSY fault where that is BUSY. Either removal takes the record out of its lot's in-flight count and adds it
to the departed and reject counts; its serial becomes the highest of its source, or strikes the source by its end mark;
it strikes the same source of every other lot whose last serial it is past; the entries left with no source are closed
in slot order once nothing is in flight. -/
def Obligations.RecordsLeaveAtTheirPositions : Prop :=
  ∀ (s : State) (tag : Tag) (r : Record) (d : DestIx),
    s.PinsFollow →
    s.TrainSound →
    r.lot = 255 ∨ s.LotsSound →
    (
      let after := fun (e : LotEntry) =>
        (
          let mine := e.lot = r.lot ∧ r.flags.lotUntracked = false
          let counted : LotEntry :=
            if mine then
              { e with
                inFlight := e.inFlight - 1, departed := min 65535 (e.departed + 1)
                rejects := if r.flags.reject then min 65535 (e.rejects + 1) else e.rejects }
            else e
          let sources := e.sources.filterMap fun x =>
            if r.gate = some x.gate ∧ r.tag.origin = x.origin then
              if e.lot = r.lot then
                (
                  let highest := match x.highest with
                    | some n => if serialPast r.tag.serial n then r.tag.serial else n
                    | none => r.tag.serial
                  let struck := match x.endMark with
                    | .serial last => serialAtOrPast highest last
                    | .noneReleased => true
                    | .absent => false
                  if struck then none else some { x with highest := some highest })
              else match x.endMark with
                | .serial last => if serialPast r.tag.serial last then none else some x
                | _ => some x
            else some x
          let state : LotState := if sources ≠ [] then .opened else if 0 < counted.inFlight then .closing else .closed
          ({ counted with
            sources := sources, state := state
            noticeUnread := e.noticeUnread || (state == .closed && e.state != .closed) } : LotEntry))
      let lotOf := fun (k : Fin 16) => if r.lot = 255 then s.lotSlot k else (s.lotSlot k).map after
      let ended := (List.finRange 16).filter fun k =>
        ((s.lotSlot k).any fun e => e.state != .closed) && (lotOf k).any fun e => e.state == .closed
      let listed := fun (t : State) =>
        (∀ k, t.lotSlot k = lotOf k) ∧ t.closureList = s.closureList ++ ended ∧
          t.train = s.train.filter fun x => x.tag != tag
      (s.dueRecord .clearance tag = some r →
          ∃ t, exec (.cleared tag) s = .next t ∧ listed t ∧
            t = { s with
              train := t.train, trainCause := t.trainCause, waiting := t.waiting, freshWindows := t.freshWindows
              lots := t.lots, closureList := t.closureList, dests := t.dests, channels := t.channels, faults := t.faults
              overflow := t.overflow, alertPin := t.alertPin } ∧
            (r.lot = 255 ∨ (∀ k, (s.dest k).count = 0) →
              t.dests = s.dests ∧ t.channels = s.channels ∧ t.faults = s.faults ∧ t.overflow = s.overflow)) ∧
        (s.dueRecord .departure tag = some r → s.travelA.reverse = false → r.dest = some d →
          (
            let now := s.pos .a
            let close := fun (reason : ClosureReason) (u : State) (k : DestIx) =>
              (
                let y := u.dest k
                let w : State := { u with dests := u.dests.set k { y with
                  count := 0, last := some { lot := y.stackLot, count := y.count, reason := reason } } }
                match y.set.stackChannel with
                | none => w
                | some c =>
                  let asked := (u.channel c).request (s.pos (u.channel c).input) (Pos.plus now y.set.stackWait)
                    (Pos.plus now (y.set.stackWait + y.set.stackActive)) none
                  let v : State := { w with channels := u.channels.set c asked.1 }
                  if asked.2 = .busy then v.recordFault
                    { kind := .stackBusy, position := now, input := .a, lot := some y.stackLot
                      unit := some (.destination k), count := some y.count }
                  else v)
            let size := (s.dest d).set.stackSize
            let switched :=
              if 0 < size ∧ 0 < (s.dest d).count ∧ (s.dest d).stackLot ≠ r.lot then close .lotSwitch s d else s
            let counted : State := { switched with dests := switched.dests.set d { switched.dest d with
              count := (switched.dest d).count + 1, stackLot := r.lot } }
            let stacked :=
              if size = 0 then s
              else if size ≤ (counted.dest d).count then close .full counted d
              else counted
            let z := ended.foldl (fun u k =>
              (List.finRange 4).foldl (fun u j =>
                if 0 < (u.dest j).set.stackSize ∧ (s.lotSlot k).map (·.lot) = some (u.dest j).stackLot ∧
                    0 < (u.dest j).count then
                  close .lotEnd u j
                else u) u) stacked
            ∃ t, exec (.departed tag) s = .next t ∧ listed t ∧ (∀ k, t.dest k = z.dest k) ∧
              (∀ k, t.channel k = s.shown (z.channel k)) ∧
              t = { s with
                train := t.train, trainCause := t.trainCause, waiting := t.waiting, freshWindows := t.freshWindows
                lots := t.lots, closureList := t.closureList, dests := t.dests, channels := t.channels
                faults := z.faults, overflow := z.overflow, alertPin := t.alertPin })))

/-! ### Frames received (chapters 04, 07, 08, 10, 11) -/

/-- R11 to R14, R51, R53, R54, R62, R82, R87, R88, R121, R133, R135 to R137, R163 to R165: a RELEASE in sequence from an
upstream sender, with lanes, with a tag the train does not hold and room in the train, becomes a PENDING record at a
FEED tracker, or at an IRONER unless it is a spacer, in its place by R51. Its p is T_rx + D − offset, and at a FEED
tracker it breaks the reservations its belt span overlaps. A saturated offset gives LATE_ANNOUNCE, a doubled window and
its fault. On a lane without an eye a crossing already behind takes it to INSIDE at once. One whose closing position is
not ahead is missed at once, on a clear eye whatever the eye shows: LOST with its fault, and the train as before. The
lot unit counts it in flight under its lot: an entry that is open gains its source, or loses the end mark it is past, or
becomes INCOMPLETE; a CLOSED one is reopened with LOT_REOPENED; a new one takes an empty slot (the lowest: the model's
choice, assumption log 10), else the first closed entry with its notice read, else the first closed one with
NOTICE_LOST, else none with LOT_TABLE_FULL and LOT_UNTRACKED. That the lot unit's fault comes before LATE_ANNOUNCE is
the model's choice (log 39). -/
def Obligations.ReleaseIsAdmitted : Prop :=
  ∀ (s : State) (sender : Addr) (f : ReleaseFrame) (w : WatchEntry),
    s.live = true →
    s.role = some .feed ∨ (s.role = some .ironer ∧ f.spacer = false) →
    s.attempting = false →
    s.address ≠ some sender →
    s.watchOf sender = some w →
    w.expected = some f.seq →
    0 < w.offset →
    f.lanes ≠ 0 →
    s.findRecord f.tag = none →
    s.trainFull = false →
    (
      let now := s.pos .a
      let late := decide (f.offset.toInt = 4095)
      let p := Pos.plus now (w.offset - f.offset.toInt)
      let made : Record :=
        { tag := f.tag, cls := f.cls, lot := if f.spacer then 255 else f.lot, gate := some f.gate, lanes := f.lanes
          nominal := f.length.toNat, measured := none, stage := .pending, basis := .a, p := p
          h := halfWidth s.baseWidth s.propWidth
            (diff (Pos.plus p (s.offsetAt s.firstCheckpoint (refLane f.lanes))) now) late
          lead := none, entryB := none, dest := none
          flags := { reject := f.reject, spacer := f.spacer, lateAnnounce := late }, order := s.admissions }
      let fault := fun (kind : FaultKind) (lot : Lot) =>
        ({ kind := kind, position := now, input := .a, tag := some f.tag, lot := some lot } : FaultRecord)
      let unchanged := fun (t : State) => { s with
        train := t.train, trainCause := t.trainCause, admissions := s.admissions + 1, freshWindows := t.freshWindows
        waiting := t.waiting, lots := t.lots, closureList := t.closureList, dests := t.dests, channels := t.channels
        faults := t.faults, overflow := t.overflow, watch := t.watch, busIdle := false, gates := t.gates
        reservations := t.reservations, queue := t.queue, alertPin := t.alertPin }
      ((s.windowOf made).all (fun x => !atOrPast now x.2.2) = true →
          (
            let passed := (s.reckoningAt made).any fun x => atOrPast now x
            let b := s.pos .b
            let taken : Record :=
              if passed = false then made
              else if s.role = some .feed then { made with stage := .inside, lead := some p }
              else
                { made with
                  stage := .inside, basis := .b, p := Pos.plus b s.pred, lead := some b, entryB := some b
                  h := halfWidth s.baseWidth s.propWidth s.pred late }
            (s.role = some .feed → atOrPast now (s.clearanceAt made) = false) →
            (s.role = some .ironer → passed = true → (s.eyeAt .exit (refLane f.lanes)).isSome = true) →
            ∃ t, exec (.release sender f) s = .next t ∧
              (∃ u : Bool, t.train = insertRecord { taken with flags := { taken.flags with lotUntracked := u } } s.train) ∧
              (s.role = some .feed → ∀ x ∈ t.reservations,
                (lanesMeet x.lanes f.lanes && overlaps x.start x.stop p made.spanEnd) = false) ∧
              (s.LotsSound →
                (
                  let mine : Source := { origin := f.tag.origin, gate := f.gate, endMark := .absent, highest := none }
                  let isMine := fun (x : Source) => x.origin == f.tag.origin && x.gate == f.gate
                  let closedAt := fun (k : Fin 16) => (s.lotSlot k).any fun e => e.state == .closed
                  let held := (List.finRange 16).find? fun k => (s.lotSlot k).any fun e => e.lot == made.lot
                  let empty := (List.finRange 16).find? fun k => (s.lotSlot k).isNone
                  let read := s.closureList.find? fun k => (s.lotSlot k).any fun e => !e.noticeUnread
                  let slot : Option (Fin 16) :=
                    held.or (empty.or (read.or s.closureList.head?))
                  let entry : LotEntry := match held.bind s.lotSlot with
                    | some e =>
                      if e.state = .closed then { e with state := .opened, inFlight := 1, sources := [mine] }
                      else if e.sources.any isMine then
                        { e with
                          state := .opened, inFlight := e.inFlight + 1
                          sources := e.sources.map fun x => match x.endMark with
                            | .serial last =>
                              if isMine x && serialPast f.tag.serial last then { x with endMark := .absent } else x
                            | _ => x }
                      else if e.sources.length < 16 then
                        { e with state := .opened, inFlight := e.inFlight + 1, sources := e.sources ++ [mine] }
                      else { e with inFlight := e.inFlight + 1, incomplete := true }
                    | none =>
                      { lot := made.lot, state := .opened, inFlight := 1, sources := [mine], incomplete := false
                        departed := 0, rejects := 0, noticeUnread := false }
                  let lotFault : Option FaultRecord :=
                    if held.any closedAt then some (fault .lotReopened made.lot)
                    else match slot with
                      | none => some (fault .lotTableFull made.lot)
                      | some k =>
                        if held = none ∧ empty = none ∧ read = none then
                          (s.lotSlot k).map fun e => fault .noticeLost e.lot
                        else none
                  let known := made.lot ≠ 255
                  let counted := match lotFault with
                    | some x => if known then s.recordFault x else s
                    | none => s
                  let judged := if late then counted.recordFault (fault .lateAnnounce made.lot) else counted
                  (∀ k, t.lotSlot k = if known ∧ slot = some k then some entry else s.lotSlot k) ∧
                    t.closureList = (if known then s.closureList.filter (fun k => slot != some k) else s.closureList) ∧
                    t.faults = judged.faults ∧ t.overflow = judged.overflow ∧ t.dests = s.dests ∧
                    (s.PinsFollow → t.channels = s.channels) ∧
                    t.train = insertRecord
                      { taken with flags := { taken.flags with lotUntracked := decide known && slot.isNone } } s.train)) ∧
              t = { unchanged t with
                waiting := s.waiting
                freshWindows :=
                  if passed && s.role == some .ironer then f.tag :: s.freshWindows else s.freshWindows })) ∧
        (∀ k e closing, s.windowOf made = some (k, e, closing) → atOrPast now closing = true →
          ∃ t, exec (.release sender f) s = .next t ∧ t.train = s.train ∧
            (s.queue.length < 16 → TxFrame.new (.lost f.tag 1) 0 ∈ t.queue) ∧
            (TxFrame.new (.lost f.tag 1) 0 ∈ t.queue ∨ 8 ≤ t.faults.length ∨
              { kind := .txOverrun, position := now, input := .a, tag := some f.tag : FaultRecord } ∈ t.faults) ∧
            (8 ≤ t.faults.length ∨
              (
                let missed : FaultRecord := { fault .missed made.lot with unit := some (.eye e) }
                missed ∈ t.faults)) ∧
            (late = true → 8 ≤ t.faults.length ∨ fault .lateAnnounce made.lot ∈ t.faults) ∧ t = unchanged t))

/-- R11, R12, R14, R51, R55, R62, R82, R87, R88, R133, R135, R159: a HANDOFF in sequence from an upstream sender becomes
a PENDING record at an OUTLET tracker, in its place by R51, with the six flags it carries. A saturated offset gives
LATE_ANNOUNCE, a doubled window and its fault. On a lane without an eye a crossing already behind takes it to ENTERING
at once, and while input A moves in reverse it is left unrouted (until forward travel: assumption log 43). One whose
closing position is not ahead is missed at once, on a clear eye whatever the eye shows: a LOST and its fault, as CLEARED
where it carries UNVERIFIED and as MISSED otherwise, and the train as before. -/
def Obligations.HandoffIsAdmitted : Prop :=
  ∀ (s : State) (sender : Addr) (f : HandoffFrame) (w : WatchEntry),
    s.live = true →
    s.role = some .outlet →
    s.attempting = false →
    s.address ≠ some sender →
    s.watchOf sender = some w →
    w.expected = some f.seq →
    0 < w.offset →
    f.lanes ≠ 0 →
    s.findRecord f.tag = none →
    s.trainFull = false →
    (
      let now := s.pos .a
      let late := decide (f.offset.toInt = 4095)
      let p := Pos.plus now (w.offset - f.offset.toInt)
      let made : Record :=
        { tag := f.tag, cls := f.cls, lot := f.lot, gate := f.gate, lanes := f.lanes, nominal := f.length.toNat
          measured := none, stage := .pending, basis := .a, p := p
          h := halfWidth s.baseWidth s.propWidth
            (diff (Pos.plus p (s.offsetAt .outlet (refLane f.lanes))) now) (f.flags.unverified || late)
          lead := none, entryB := none, dest := none
          flags := { reject := f.flags.reject, double := f.flags.double, stray := f.flags.stray
                     recovered := f.flags.recovered, unverified := f.flags.unverified, length := f.flags.length
                     lateAnnounce := late }
          order := s.admissions }
      let fault := fun (kind : FaultKind) =>
        ({ kind := kind, position := now, input := .a, tag := some f.tag, lot := some f.lot } : FaultRecord)
      let unchanged := fun (t : State) => { s with
        train := t.train, trainCause := t.trainCause, admissions := s.admissions + 1, freshWindows := t.freshWindows
        waiting := t.waiting, lots := t.lots, closureList := t.closureList, dests := t.dests, channels := t.channels
        faults := t.faults, overflow := t.overflow, watch := t.watch, busIdle := false, gates := t.gates
        reservations := t.reservations, queue := t.queue, alertPin := t.alertPin }
      ((s.windowOf made).all (fun x => !atOrPast now x.2.2) = true →
          (
            let passed := (s.reckoningAt made).any fun x => atOrPast now x
            let taken : Record := if passed then { made with stage := .entering, lead := some p } else made
            passed = false ∨ s.travelA.reverse = true →
            ∃ t, exec (.handoff sender f) s = .next t ∧
              (∃ u : Bool, t.train = insertRecord { taken with flags := { made.flags with lotUntracked := u } } s.train) ∧
              (late = true → 8 ≤ t.faults.length ∨ fault .lateAnnounce ∈ t.faults) ∧
              t = { unchanged t with waiting := s.waiting, freshWindows := s.freshWindows })) ∧
        (∀ k e closing, s.windowOf made = some (k, e, closing) → atOrPast now closing = true →
          (
            let cause : FaultKind × Byte := if f.flags.unverified then (.cleared, 2) else (.missed, 1)
            ∃ t, exec (.handoff sender f) s = .next t ∧ t.train = s.train ∧
              (s.queue.length < 16 → TxFrame.new (.lost f.tag cause.2) 0 ∈ t.queue) ∧
              (TxFrame.new (.lost f.tag cause.2) 0 ∈ t.queue ∨ 8 ≤ t.faults.length ∨
                { kind := .txOverrun, position := now, input := .a, tag := some f.tag : FaultRecord } ∈ t.faults) ∧
              (8 ≤ t.faults.length ∨
                (
                  let missed : FaultRecord := { fault cause.1 with unit := some (.eye e) }
                  missed ∈ t.faults)) ∧
              (late = true → 8 ≤ t.faults.length ∨ fault .lateAnnounce ∈ t.faults) ∧ t = unchanged t)))

/-- R53, R133, R135: in JOINING, RUNNING and STOPPED the sequence of a RELEASE or HANDOFF from a watched sender is
checked before admission and whatever its outcome. A gap gives credits, capped at 7, and a MISSING_ANNOUNCE fault. Where
the role takes no such frame, or the frame carries no lanes, a tag in the train, comes at a full train or from
downstream, no record is made: a duplicate tag and a full train record their faults, the others none. -/
def Obligations.AnnouncementsAreChecked : Prop :=
  ∀ (s : State) (sender : Addr) (f : ReleaseFrame) (h : HandoffFrame) (w : WatchEntry),
    s.PinsFollow →
    s.attempting = false →
    s.serving = true →
    s.address ≠ some sender →
    s.watchOf sender = some w →
    (
      let checked := fun (seq : Seq) (tag : Tag) =>
        (
          let missing := match w.expected with
            | some e => (seq - e).toNat
            | none => 0
          let u : State :=
            { s with
              busIdle := false
              watch := s.watch.map fun x =>
                if x.address = sender then
                  { x with expected := some (seq + 1)
                           credits := min 7 (x.credits + match x.expected with
                             | some e => (seq - e).toNat
                             | none => 0) }
                else x }
          if missing = 0 then u else u.recordFault
            { kind := .missingAnnounce, position := s.pos .a, input := .a, tag := some tag, count := some missing })
      let refused := fun (seq : Seq) (tag : Tag) (lot : Lot) (k : FaultKind) =>
        State.alertAfresh ((checked seq tag).recordFault
          { kind := k, position := s.pos .a, input := .a, tag := some tag, lot := some lot })
      ((∃ t, exec (.release sender f) s = .next t ∧ t.watch = (checked f.seq f.tag).watch) ∧
          ∃ t, exec (.handoff sender h) s = .next t ∧ t.watch = (checked h.seq h.tag).watch) ∧
        (s.mode = .joining ∨ s.role = none ∨ s.role = some .outlet ∨ (s.role = some .ironer ∧ f.spacer = true) ∨
            f.lanes = 0 ∨ (w.offset ≤ 0 ∧ s.findRecord f.tag = none ∧ s.trainFull = false) →
          exec (.release sender f) s = .next (checked f.seq f.tag).alertAfresh) ∧
        (s.mode = .joining ∨ s.role ≠ some .outlet ∨ h.lanes = 0 ∨
            (w.offset ≤ 0 ∧ s.findRecord h.tag = none ∧ s.trainFull = false) →
          exec (.handoff sender h) s = .next (checked h.seq h.tag).alertAfresh) ∧
        (s.live = true → s.role = some .feed ∨ (s.role = some .ironer ∧ f.spacer = false) → f.lanes ≠ 0 →
          ((s.findRecord f.tag).isSome = true →
              exec (.release sender f) s = .next (refused f.seq f.tag f.lot .duplicateTag)) ∧
            (s.findRecord f.tag = none → s.trainFull = true →
              exec (.release sender f) s = .next (refused f.seq f.tag f.lot .trainFull))) ∧
        (s.live = true → s.role = some .outlet → h.lanes ≠ 0 →
          ((s.findRecord h.tag).isSome = true →
              exec (.handoff sender h) s = .next (refused h.seq h.tag h.lot .duplicateTag)) ∧
            (s.findRecord h.tag = none → s.trainFull = true →
              exec (.handoff sender h) s = .next (refused h.seq h.tag h.lot .trainFull))))

/-- R62 to R64, R122, R125, R132, R185: a LOST removes a PENDING record of its tag as LOST_REMOTE, without a LOST of its
own; a record of a later stage ignores it, and a tag the train does not hold has no effect. A MARK with the reject mark
sets REJECT on the record of its tag and any other mark does nothing. In JOINING, RUNNING, STOPPED and CONFLICT a HOLD
adds its sender to the holder set, replaces its reason or removes it, and a JOIN from another address is kept as the
last JOIN heard and clears that sender's reservations, holder entry, expected sequence and credits; a holding tracker
outside CONFLICT announces its hold again. -/
def Obligations.LostMarkHoldAndJoinFromPeers : Prop :=
  ∀ (s : State) (sender : Addr) (tag : Tag) (mark cause role format : Byte) (on : Bool) (reason : BitVec 5),
    s.PinsFollow →
    s.attempting = false →
    s.address ≠ some sender →
    (s.TrainSound → s.live = true →
        (((s.findRecord tag).all fun r => r.stage != .pending) = true →
            exec (.lost sender tag cause) s = .next { s with busIdle := false }) ∧
          (((s.findRecord tag).any fun r => r.stage == .pending) = true →
            ∃ t, exec (.lost sender tag cause) s = .next t ∧ t.train = s.train.filter (fun x => x.tag != tag) ∧
              t = { s with
                train := t.train, trainCause := t.trainCause, waiting := t.waiting, freshWindows := t.freshWindows
                lots := t.lots, closureList := t.closureList, dests := t.dests, channels := t.channels
                faults := t.faults, overflow := t.overflow, busIdle := false, alertPin := t.alertPin }) ∧
          exec (.mark sender tag mark) s = .next { s with
            busIdle := false
            train := s.train.map fun r =>
              if mark = 1 ∧ r.tag = tag then { r with flags := { r.flags with reject := true } } else r }) ∧
      (s.mode ≠ .config →
          ∃ t, exec (.hold sender on reason) s = .next t ∧
            t.reasonHeld sender = (if on then some reason else none) ∧
            (∀ a, a ≠ sender → t.reasonHeld a = s.reasonHeld a) ∧ (on = true → ∀ g, t.suspended g = true) ∧
            (on = false → t.reservations = s.reservations ∧ t.queue = s.queue ∧ t.gates = s.gates) ∧
            t = { s with
              busIdle := false, holders := t.holders, gates := t.gates, reservations := t.reservations
              queue := t.queue, alertPin := t.alertPin }) ∧
      (s.mode ≠ .config →
        exec (.joinFrame sender role format) s = .next (State.alertAfresh
          { s.setHolder sender none with
            busIdle := false, lastJoin := some { address := sender, role := role, format := format }
            reservations := s.reservations.filter fun r => r.reserver != sender
            watch := s.watch.map fun w => if w.address = sender then { w with expected := none, credits := 0 } else w
            announced := s.announced && !(s.holding && s.mode != .conflict) }))

/-- R120, R122: a peer's RESERVE heard at a FEED tracker is stored as T_rx + lead − D with its length, in place of an
older entry of the same gate, where it is not yet passed, overlaps nothing but own QUEUED entries and finds room;
overlapped own QUEUED entries are void. A RESERVE without lanes is stored as well: assumption log 24. A WITHDRAW removes
the entry it names. -/
def Obligations.PeerReservationsAreKept : Prop :=
  ∀ (s : State) (sender : Addr) (f : ReserveFrame) (w : WatchEntry),
    s.PinsFollow →
    s.attempting = false →
    s.live = true →
    s.role = some .feed →
    s.address ≠ some sender →
    s.watchOf sender = some w →
    (
      let start := Pos.plus (s.pos .a) (f.lead.toNat + w.offset)
      let stop := Pos.plus start f.length.toNat
      let rest := s.reservations.filter fun r => r.own || r.reserver != sender || r.gate != f.gate
      let entry : Reservation :=
        { reserver := sender, gate := f.gate, lanes := f.lanes, start := start, stop := stop, own := false
          phase := .standing }
      let hits := fun (r : Reservation) => lanesMeet r.lanes f.lanes && overlaps start stop r.start r.stop
      exec (.withdraw sender f.gate) s = .next { s with busIdle := false, reservations := rest } ∧
        (0 ≤ diff (s.pos .a) stop →
          exec (.reserve sender f) s = .next { s with busIdle := false, reservations := rest }) ∧
        (diff (s.pos .a) stop < 0 → (rest.all fun r => !hits r) = true →
          s.segmentHitsRecord f.lanes start stop = false → rest.length < 8 →
          exec (.reserve sender f) s = .next { s with busIdle := false, reservations := rest ++ [entry] }) ∧
        (diff (s.pos .a) stop < 0 → (rest.all fun r => (r.own && r.phase == .queued) || !hits r) = true →
          s.segmentHitsRecord f.lanes start stop = false → rest.length < 8 →
          ∃ t, exec (.reserve sender f) s = .next t ∧ entry ∈ t.reservations ∧
            (∀ r ∈ t.reservations, r = entry ∨ (r ∈ rest ∧ hits r = false)) ∧
            t = { s with
              busIdle := false, reservations := t.reservations, queue := t.queue, gates := t.gates
              channels := t.channels, alertPin := t.alertPin }))

/-- R167 to R170: a LOTMARK sets the end mark of the source it names in the old lot's entry; a source whose highest
serial is at or past the last serial, or whose mark is "none released", is struck; an entry left with no source and
nothing in flight closes with its notice unread. -/
def Obligations.LotmarkEndsSource : Prop :=
  ∀ (s : State) (sender : Addr) (f : LotMarkFrame) (k : Fin 16) (e : LotEntry),
    s.LotsSound →
    s.attempting = false →
    s.serving = true →
    s.address ≠ some sender →
    s.lotSlotOf f.old = some k →
    s.lotSlot k = some e →
    (
      let ended := fun (x : Source) => match f.last with
        | none => true
        | some t => match x.highest with
          | some hi => serialAtOrPast hi t.serial
          | none => false
      let sources := e.sources.filterMap fun x =>
        if x.origin = sender ∧ x.gate = f.gate then
          if ended x then none else some { x with endMark := match f.last with
            | none => .noneReleased
            | some t => .serial t.serial }
        else some x
      let state : LotState := if sources ≠ [] then .opened else if 0 < e.inFlight then .closing else .closed
      ∃ t, exec (.lotmark sender f) s = .next t ∧
        t.lotSlot k = some { e with
          sources := sources, state := state
          noticeUnread := e.noticeUnread || (state == .closed && e.state != .closed) } ∧
        (∀ j, j ≠ k → t.lotSlot j = s.lotSlot j) ∧
        (state = .closed → e.state ≠ .closed → t.closureList = s.closureList ++ [k]) ∧ t.train = s.train ∧
        t.gates.map (·.lot) = s.gates.map (·.lot) ∧ t.busIdle = false)

/-- R184, R186, R196: bits with a CRC error, a dominant bit in the end field, a reserved kind or a length that differs
from the kind's are discarded: no owner sees them and no fault is recorded. In CONFIG every frame is discarded. A frame
under the tracker's own address that it did not send takes it from JOINING, RUNNING or STOPPED to CONFLICT with one
ADDRESS_CONFLICT fault and reaches no owner. -/
def Obligations.FramesThatReachNoOwner : Prop :=
  ∀ (s : State) (bits : List Bool) (sender : Addr) (f : Frame),
    s.attempting = false →
    (
      let n := (wordMsb 4 ((bits.drop 10).take 4)).toNat
      wordMsb 16 ((bits.drop (14 + 8 * n)).take 16) ≠ crc ((bits.drop 1).take (13 + 8 * n)) ∨
        false ∈ bits.drop (30 + 8 * n) ∨ payloadLength (wordMsb 4 ((bits.drop 1).take 4)) ≠ some n →
      exec (.discardedFrame bits) s = .next { s with busIdle := false }) ∧
      (s.mode = .config → exec (f.toInstr sender) s = .next { s with busIdle := false }) ∧
      (s.serving = true → s.address = some sender →
        ∃ t, exec (f.toInstr sender) s = .next t ∧ t.mode = .conflict ∧
          (∀ c, (t.channel c).output = false ∧ (t.channel c).active = (s.channel c).active) ∧
          (
            let u := s.recordFault { kind := .addressConflict, position := s.pos .a, input := .a }
            t.faults = u.faults ∧ t.overflow = u.overflow) ∧
          t = { s with
            mode := .conflict, settling := none, busIdle := false, faults := t.faults, overflow := t.overflow
            channels := t.channels, gates := t.gates, reservations := t.reservations, queue := t.queue
            alertPin := t.alertPin })

/-! ### The transmitter (chapter 11) -/

/-- R10, R117, R131, R144, R175, R176, R179, R181: the receiver's idle lets the head frame start, once the RESERVE of
every entry that travel has made void has left the queue; a RELEASE is sent with the edge offset of this attempt,
clamped to its field, and a sequence stamped at the first attempt alone. Its bits stand on the wire under the address in
force (written 0 in a state that has none, which no run with a frame in the queue reaches). A RESERVE whose gate holds
no own entry announces none: its lead and length are free values (assumption log 47). With the bus busy, an empty queue
or in CONFLICT nothing starts. -/
def Obligations.AttemptStartsAtIdle : Prop :=
  ∀ (s : State) (q : TxFrame) (rest : List TxFrame),
    s.attempting = false →
    (
      let u := s.voidReached
      exec .busIdle s = .next { s with busIdle := true } ∧
        (s.busIdle = false ∨ s.mode = .conflict → exec .txAttemptStart s = .next s) ∧
        ((∀ g, s.voidDue g = false) → u = s) ∧
        (∀ g, s.voidDue g = true →
          u.ownReservation g = none ∧ (u.queue.all fun x => !isReserveOf g x) = true) ∧
        (s.busIdle = true → s.mode ≠ .conflict → u.queue = [] → exec .txAttemptStart s = .next u) ∧
        (s.busIdle = true → s.mode ≠ .conflict → u.queue = q :: rest →
          (
            let sent : Frame := match q.frame with
              | .release f => .release { f with
                  offset := BitVec.ofInt 13 (max (-4096) (min 4095 (diff (s.pos .a) q.edge)))
                  seq := if q.stamped then f.seq else s.passageSeq }
              | .handoff f => .handoff { f with
                  offset := BitVec.ofInt 13 (max (-4096) (min 4095 (diff (s.pos .b) q.edge)))
                  seq := if q.stamped then f.seq else s.passageSeq
                  flags := ((s.findRecord f.tag).map fun r => r.flags.handoff).getD f.flags }
              | .reserve f => ((u.ownReservation f.gate).map fun r => Frame.reserve { f with
                  lead := BitVec.ofInt 16 (diff r.start (s.pos .a))
                  length := BitVec.ofInt 16 (diff r.stop r.start) }).getD (.reserve { f with
                    lead := freeWord s.freeDraws, length := freeWord (s.freeDraws + 2) })
              | f => f
            let numbered := match q.frame with
              | .release _ => true
              | .handoff _ => true
              | _ => false
            let draws := match q.frame with
              | .reserve f => if (u.ownReservation f.gate).isNone then 4 else 0
              | _ => 0
            let sender : Addr := s.address.getD 0
            let t : State :=
              { u with
                busIdle := false, freeDraws := s.freeDraws + draws
                queue := { q with frame := sent, sender := sender, underWay := true, stamped := numbered } :: rest
                passageSeq := if numbered && !q.stamped then s.passageSeq + 1 else s.passageSeq }
            exec .txAttemptStart s = .next t ∧ t.onWire = some (sent.bits sender))))

/-- R106, R123, R127, R179 to R181, R183, R187, R193: an attempt that loses arbitration leaves the frame at the head and
counts nothing; a bus error counts one failed attempt, and the sixteenth abandons the frame with its TX_ABANDONED fault
and hands it back to its owner: a LOTMARK waits again and is queued again, a RESERVE loses its QUEUED entry and restarts
patience, a HOLD with no later one in the queue turns the announced state round, a JOIN in JOINING is queued again with
the hold to be announced anew; the others end there. A void RESERVE leaves the queue at either, and so does a frame left
from before a LEAVE, without retry or fault; a HOLD among these sets the announced state to on. -/
def Obligations.FailedAttemptsAreCounted : Prop :=
  ∀ (s : State) (q : TxFrame) (rest : List TxFrame),
    s.PinsFollow →
    s.queue = q :: rest →
    q.underWay = true →
    (
      let dropped : State := { s with busIdle := false, queue := rest, announced := s.announced || isHold q }
      q.orphan = true → exec .arbitrationLost s = .next dropped ∧ exec .busError s = .next dropped) ∧
    (q.orphan = false → q.void = true →
        exec .arbitrationLost s = .next { s with busIdle := false, queue := rest } ∧
          exec .busError s = .next { s with busIdle := false, queue := rest }) ∧
      (q.orphan = false → q.void = false →
        exec .arbitrationLost s = .next
            { s with busIdle := false, queue := { q with underWay := false } :: rest } ∧
          (q.failed + 1 < 16 → exec .busError s = .next
            { s with busIdle := false, queue := { q with underWay := false, failed := q.failed + 1 } :: rest }) ∧
          (16 ≤ q.failed + 1 →
            (
              let u : State :=
                { (s.recordFault
                  { kind := .txAbandoned, position := s.pos .a, input := .a, tag := carriedTag q.frame
                    lot := carriedLot q.frame, unit := (frameGate q.frame).map .gate, count := some 16 }) with
                  busIdle := false, queue := rest }
              match q.frame with
              | .lotmark m => match (s.gate m.gate).mark with
                | .queued x =>
                  ∃ t, exec .busError s = .next t ∧ t.faults = u.faults ∧ t.overflow = u.overflow ∧
                    (t.gate m.gate).lock = (s.gate m.gate).lock ∧
                    ((t.gate m.gate).mark = .waiting x ∨
                      ((t.gate m.gate).mark = .queued x ∧
                        (t.queue.any fun y => y.frame == s.markFrame m.gate x) = true)) ∧
                    (rest.length < 16 → (rest.countP fun y => feedClass y.frame) < 12 →
                      (∀ k : GateIx, k < m.gate → ((s.gate k).mark matches .waiting _) = false) →
                      (t.gate m.gate).mark = .queued x) ∧
                    t = { u with
                      gates := t.gates, queue := t.queue, reservations := t.reservations, alertPin := t.alertPin }
                | _ => exec .busError s = .next u.alertAfresh
              | .reserve f =>
                if ((s.ownReservation f.gate).any fun x => x.phase == .queued) = true then
                  exec .busError s = .next (State.alertAfresh
                    { u with
                      reservations := s.reservations.filter fun x => !(x.own && x.gate == f.gate)
                      gates := s.gates.set f.gate { s.gate f.gate with patienceCount := 0 } })
                else exec .busError s = .next u.alertAfresh
              | .hold on _ => exec .busError s = .next (State.alertAfresh
                { u with announced := if rest.any isHold then s.announced else !on })
              | .join role format =>
                if s.mode = .joining then
                  exec .busError s = .next (State.alertAfresh
                    { u with queue := rest ++ [TxFrame.new (.join role format) 0], announced := false })
                else exec .busError s = .next u.alertAfresh
              | _ => exec .busError s = .next u.alertAfresh)))

/-- R63, R64, R107, R118, R119, R125, R167, R168, R184, R185, R187, R193: a completed frame leaves the queue and is
received back. A RELEASE, HANDOFF, HOLD or WITHDRAW changes nothing more; a LOST or MARK acts on the train as a peer's
does. A LOTMARK lifts the lock of its QUEUED gate and sets the end mark of the tracker's own source in the old lot's
entry. A RESERVE that still overlaps nothing makes its entry STANDING; where it overlaps, or the gate can no longer
commit into it, the entry is withdrawn and the gate's patience restarts; one that matches no QUEUED entry is withdrawn
as well. A JOIN ends JOINING where the settle timer has expired. In CONFIG, or from before a LEAVE, nothing is handed
on. -/
def Obligations.CompletedFrameIsHeard : Prop :=
  ∀ (s : State) (q : TxFrame) (rest : List TxFrame) (m : LotMarkFrame) (f : ReserveFrame) (x : Reservation)
    (role format : Byte) (tag : Tag) (cause mark : Byte) (a : Addr) (k : Fin 16) (e : LotEntry),
    s.PinsFollow →
    s.queue = q :: rest →
    q.underWay = true →
    (
      let sent : State := { s with queue := rest, busIdle := false }
      let silent := match q.frame with
        | .release _ => true
        | .handoff _ => true
        | .hold _ _ => true
        | .withdraw _ => true
        | _ => false
      (q.orphan = true ∨ s.mode = .config ∨ silent = true → exec .txComplete s = .next sent) ∧
        (q.orphan = false → s.mode ≠ .config →
          (q.frame = .lost tag cause →
              (s.live = false ∨ ((s.findRecord tag).all fun r => r.stage != .pending) = true →
                exec .txComplete s = .next sent) ∧
                (s.live = true → s.TrainSound → ((s.findRecord tag).any fun r => r.stage == .pending) = true →
                  ∃ t, exec .txComplete s = .next t ∧ t.train = s.train.filter (fun r => r.tag != tag) ∧
                    t = { sent with
                      train := t.train, trainCause := t.trainCause, waiting := t.waiting
                      freshWindows := t.freshWindows, lots := t.lots, closureList := t.closureList, dests := t.dests
                      channels := t.channels, faults := t.faults, overflow := t.overflow, alertPin := t.alertPin })) ∧
            (q.frame = .mark tag mark → exec .txComplete s = .next { sent with
              train := s.train.map fun r =>
                if s.live = true ∧ mark = 1 ∧ r.tag = tag then { r with flags := { r.flags with reject := true } }
                else r })) ∧
        (q.orphan = false → s.mode ≠ .config → q.frame = .lotmark m →
          ∃ t, exec .txComplete s = .next t ∧
            ((match (s.gate m.gate).mark with
                | .queued _ => true
                | _ => false) = true → (s.gate m.gate).lot = some m.new →
              (t.gate m.gate).lock = false ∧ (t.gate m.gate).mark = .none) ∧
            (s.serving = true → s.LotsSound → s.address = some a →
              (s.lotSlotOf m.old = none → t.lots = s.lots ∧ t.closureList = s.closureList ∧ t.dests = s.dests) ∧
                (s.lotSlotOf m.old = some k → s.lotSlot k = some e →
                  (
                    let ended := fun (y : Source) => match m.last with
                      | none => true
                      | some n => match y.highest with
                        | some hi => serialAtOrPast hi n.serial
                        | none => false
                    let sources := e.sources.filterMap fun y =>
                      if y.origin = a ∧ y.gate = m.gate then
                        if ended y then none else some { y with endMark := match m.last with
                          | none => .noneReleased
                          | some n => .serial n.serial }
                      else some y
                    let state : LotState :=
                      if sources ≠ [] then .opened else if 0 < e.inFlight then .closing else .closed
                    let closes := state == .closed && e.state != .closed
                    t.lotSlot k = some { e with
                        sources := sources, state := state, noticeUnread := e.noticeUnread || closes } ∧
                      (∀ j, j ≠ k → t.lotSlot j = s.lotSlot j) ∧
                      t.closureList = s.closureList ++ if closes then [k] else []))) ∧
            t = { sent with
              gates := t.gates, lots := t.lots, closureList := t.closureList, dests := t.dests
              channels := t.channels, faults := t.faults, overflow := t.overflow, alertPin := t.alertPin }) ∧
        (q.orphan = false → s.mode ≠ .config → q.frame = .reserve f →
          (
            let withdrawn := fun (t : State) =>
              (TxFrame.new (.withdraw f.gate) 0 ∈ t.queue ∨ (t.gate f.gate).withdrawPending = true) ∧
                (rest.length < 16 → (rest.countP fun y => feedClass y.frame) < 12 →
                  TxFrame.new (.withdraw f.gate) 0 ∈ t.queue) ∧
                (∀ j, (t.gate j).state = (s.gate j).state) ∧
                t = { sent with queue := t.queue, reservations := t.reservations, gates := t.gates }
            let overlapped := s.segmentHitsEntry x.lanes x.start x.stop (fun y => !y.isOwn f.gate) ||
              s.segmentHitsRecord x.lanes x.start x.stop
            let passed := atOrPast (s.pos .a) (s.alignment f.gate x)
            (s.role ≠ some .feed → exec .txComplete s = .next sent) ∧
              (s.role = some .feed → ((s.ownReservation f.gate).all fun y => y.phase != .queued) = true →
                ∃ t, exec .txComplete s = .next t ∧ withdrawn t) ∧
              (s.role = some .feed → s.ownReservation f.gate = some x → x.phase = .queued →
                (overlapped = true ∨ passed = true →
                    ∃ t, exec .txComplete s = .next t ∧ withdrawn t ∧ t.ownReservation f.gate = none ∧
                      (t.gate f.gate).patienceCount = 0) ∧
                  (overlapped = false → passed = false → exec .txComplete s = .next { sent with
                    reservations := s.reservations.map fun y =>
                      if y.isOwn f.gate then { y with phase := .standing } else y })))) ∧
        (q.orphan = false → s.mode ≠ .config → q.frame = .join role format →
          ∃ t, exec .txComplete s = .next t ∧
            (s.mode = .joining → s.settling.isSome = true →
              t.mode = if (s.settling.any fun y => y.expired) = false then .joining
                else if s.stopPin then .stopped else .running) ∧
            (s.mode ≠ .joining → t.mode = s.mode) ∧
            t = { sent with
              mode := t.mode, settling := t.settling, channels := t.channels, alertPin := t.alertPin }))

/-- R106, R119, R127, R182: a LOTMARK, a WITHDRAW or a HOLD that waits is queued when there is room: the mark becomes
QUEUED, the pending WITHDRAW is no longer pending, unless the frame fills the queue's feed class and so suspends the
gate with an own reservation to withdraw; the announced state is the holding condition. -/
def Obligations.WaitingFramesAreQueued : Prop :=
  ∀ (s : State) (g : GateIx) (m : LotMark),
    s.PinsFollow →
    s.GatesSound →
    (s.markDue g = true → (s.gate g).mark = .waiting m →
        ∃ t, exec (.lotmarkQueued g) s = .next t ∧ (t.gate g).mark = .queued m ∧ (t.gate g).lock = true ∧
          (t.queue.any fun q => q.frame == .lotmark { gate := g, old := m.old, new := m.new, last := m.last.map fun n =>
            { origin := s.ownAddress, serial := n } }) = true ∧
          t = { s with gates := t.gates, queue := t.queue, reservations := t.reservations }) ∧
      (s.withdrawDue g = true →
        ∃ t, exec (.withdrawQueued g) s = .next t ∧ (t.queue.any fun q => q.frame == .withdraw g) = true ∧
          (s.ownReservation g = none ∨ s.feedCount < 11 → (t.gate g).withdrawPending = false) ∧
          t = { s with gates := t.gates, queue := t.queue, reservations := t.reservations }) ∧
      (s.holdDue = true →
        exec .holdQueued s = .next { s with
          announced := s.holding, announcedReason := if s.holding then s.causes else 0
          queue := s.queue ++ [TxFrame.new (.hold s.holding (if s.holding then s.causes else 0)) 0] })

/-! ### Gates and belt space (chapters 06, 07) -/

/-- R49, R51, R56, R96, R97, R113: a gate whose commit conditions hold commits: a PENDING record with p = c + W + A,
OWN, and REJECT from reject-next, in its place by R51; its RELEASE queued; the clamp span [c + W, c + W + A) requested
with its tag; the gate RELEASING with its last release and without reject-next; no own reservation left. -/
def Obligations.GateCommitsItem : Prop :=
  ∀ (s : State) (g : GateIx) (cls : Cls),
    s.canCommit g = true →
    s.lowerGateFirst g = false →
    (s.gate g).cls = some cls →
    s.PinsFollow →
    s.LotsSound →
    s.findRecord s.allocate.1 = none →
    (
      let x := s.gate g
      let c := s.pos .a
      let stop := Pos.plus c (x.set.wait + x.set.active)
      let made : Record :=
        { tag := s.allocate.1, cls := cls, lot := x.lot.getD 255, gate := some g, lanes := x.set.lanes
          nominal := (s.classOf cls).nominal, measured := none, stage := .pending, basis := .a, p := stop
          h := halfWidth s.baseWidth s.propWidth
            (x.set.wait + x.set.active + s.offsetAt .feed (refLane x.set.lanes)) false
          lead := none, entryB := none, dest := none, flags := { own := true, reject := x.rejectNext }
          order := s.admissions }
      ∃ t, exec (.gateCommit g) s = .next t ∧
        (∃ u : Bool, t.train = insertRecord { made with flags := { made.flags with lotUntracked := u } } s.train) ∧
        t.serial = s.allocate.1.serial + 1 ∧
        TxFrame.new (.release { tag := s.allocate.1, cls := cls, gate := g, lot := x.lot.getD 255, lanes := x.set.lanes
                                reject := x.rejectNext, spacer := false
                                length := BitVec.ofNat 12 (s.classOf cls).nominal, offset := 0, seq := 0 }) stop ∈ t.queue ∧
        (t.gate g).state = .releasing ∧ (t.gate g).rejectNext = false ∧
        (t.gate g).lastRelease = some s.allocate.1.serial ∧
        (t.gate g).release = some
          { commit := c, stop := stop, tag := s.allocate.1, spacer := false, begun := false
            prevRejectNext := x.rejectNext, prevLast := x.lastRelease } ∧
        (∀ k, t.channel k =
          if x.set.channel = some k then
            s.shown ((s.channel k).request (s.pos (s.channel k).input) (Pos.plus c x.set.wait)
              (Pos.plus c (x.set.wait + x.set.active)) (some s.allocate.1)).1
          else s.channel k) ∧
        t.ownReservation g = none ∧ (∀ k, k ≠ g → (t.gate k).state = (s.gate k).state) ∧
        t = { s with
          train := t.train, trainCause := t.trainCause, admissions := t.admissions, serial := t.serial
          freshWindows := s.allocate.1 :: s.freshWindows, lots := t.lots, closureList := t.closureList
          channels := t.channels, queue := t.queue, faults := t.faults, overflow := t.overflow, gates := t.gates
          reservations := t.reservations, alertPin := t.alertPin })

/-- R51, R56, R98: a spacer commit makes a record of class 0 and lot 255 with SPACER and OWN and queues its RELEASE,
requests no span and leaves reject-next and the last release; its release is begun from c + W in RUNNING. -/
def Obligations.SpacerCommits : Prop :=
  ∀ (s : State) (g : GateIx),
    (s.canSpacer g = true → s.lowerGateFirst g = false → s.findRecord s.allocate.1 = none → s.PinsFollow →
        (
          let x := s.gate g
          let c := s.pos .a
          let stop := Pos.plus c (x.set.wait + x.set.active)
          let made : Record :=
            { tag := s.allocate.1, cls := 0, lot := 255, gate := some g, lanes := x.set.lanes
              nominal := x.set.spacerLength, measured := none, stage := .pending, basis := .a, p := stop
              h := halfWidth s.baseWidth s.propWidth
                (x.set.wait + x.set.active + s.offsetAt .feed (refLane x.set.lanes)) false
              lead := none, entryB := none, dest := none, flags := { own := true, spacer := true }
              order := s.admissions }
          ∃ t, exec (.spacerCommit g) s = .next t ∧ t.train = insertRecord made s.train ∧
            t.serial = s.allocate.1.serial + 1 ∧
            (t.queue.any fun q => q.edge == stop && q.frame == .release
              { tag := s.allocate.1, cls := 0, gate := g, lot := 255, lanes := x.set.lanes, reject := false
                spacer := true, length := BitVec.ofNat 12 x.set.spacerLength, offset := 0, seq := 0 }) = true ∧
            (t.gate g).state = .releasing ∧ (t.gate g).rejectNext = x.rejectNext ∧
            (t.gate g).lastRelease = x.lastRelease ∧ (t.gate g).gapRequest = true ∧
            (t.gate g).release = some
              { commit := c, stop := stop, tag := s.allocate.1, spacer := true, begun := x.set.wait == 0
                prevRejectNext := x.rejectNext, prevLast := x.lastRelease } ∧
            t = { s with
              train := t.train, trainCause := t.trainCause, admissions := t.admissions, serial := t.serial
              freshWindows := t.freshWindows, queue := t.queue, gates := t.gates, reservations := t.reservations
              alertPin := t.alertPin })) ∧
      (s.spacerBeginDue g = true →
        exec (.spacerBegun g) s = .next (s.setGate g
          { s.gate g with release := (s.gate g).release.map fun r => { r with begun := true } }))

/-- R99, R105: at the release end the gate is EMPTY without class or release; hold-pending and auto-hold become hold; a
spacer's gap-request is cleared; a pending lot change is applied, with lock, mark and no last release. -/
def Obligations.ReleaseEndsInOrder : Prop :=
  ∀ (s : State) (g : GateIx) (r : Release),
    s.releaseEndDue g = true →
    (s.gate g).release = some r →
    (
      let x := s.gate g
      ∃ t, exec (.releaseEnd g) s = .next t ∧ (t.gate g).state = .empty ∧ (t.gate g).cls = none ∧
        (t.gate g).release = none ∧ (t.gate g).hold = (x.hold || x.holdPending || x.set.autoHold) ∧
        (t.gate g).holdPending = false ∧ (t.gate g).gapRequest = (x.gapRequest && !r.spacer) ∧
        (t.gate g).lotPending = none ∧ (t.gate g).block = x.block ∧ (t.gate g).rejectNext = x.rejectNext ∧
        (t.gate g).lot = (if x.lotPending.isSome then x.lotPending else x.lot) ∧
        (t.gate g).lastRelease = (if x.lotPending.isSome then none else x.lastRelease) ∧
        (t.gate g).lock = (x.lock || x.lotPending.isSome) ∧
        (x.lotPending.isSome = true →
          (
            let m : LotMark := { old := x.lot.getD 255, new := x.lotPending.getD 255, last := x.lastRelease }
            (t.gate g).mark = .waiting m ∨ (t.gate g).mark = .queued m)) ∧
        (∀ k, k ≠ g → (t.gate k).state = (s.gate k).state ∧ (t.gate k).lot = (s.gate k).lot) ∧
        t = { s with
          gates := t.gates, queue := t.queue, reservations := t.reservations, channels := t.channels
          alertPin := t.alertPin })

/-- R95, R115 to R117, R119: a READY gate's patience stands at its setting once reached (a greater count, which no step
leaves, is cut to it: assumption log 34); a gate that has reached it and finds its segment clear stores an own QUEUED
entry a reservation lead ahead and queues its RESERVE. Where that RESERVE is the twelfth feed-class frame, it suspends
every gate: the entry and the RESERVE go again at once, the count of the gate stands, and no gate keeps an own entry.
That the gate makes no further attempt at this position while its RESERVE would fill the queue again is the model's
choice (assumption log 46). -/
def Obligations.PatienceReservesSpace : Prop :=
  ∀ (s : State) (g : GateIx),
    s.PinsFollow →
    ((s.gate g).state = .ready → (s.gate g).set.patience ≠ 0 → (s.gate g).set.patience ≤ (s.gate g).patienceCount →
        exec (.patienceReached g) s = .next
          (s.setGate g { s.gate g with patienceCount := (s.gate g).set.patience })) ∧
      (s.canReserve g = true → s.lowerGateFirst g = false → s.feedCount < 11 →
        (
          let x := s.gate g
          let start := Pos.plus (s.pos .a) x.set.lead
          let entry : Reservation :=
            { reserver := s.ownAddress, gate := g, lanes := x.set.lanes, start := start
              stop := Pos.plus start (s.gateLength g + 2 * s.gateGap g), own := true, phase := .queued }
          exec (.reservationSent g) s = .next { s with
            reservations := s.reservations ++ [entry]
            queue := s.queue ++
              [TxFrame.new (.reserve { gate := g, lanes := x.set.lanes, lead := 0, length := 0 }) start] })) ∧
      (s.canReserve g = true → s.lowerGateFirst g = false → s.feedCount = 11 →
        ∃ t, exec (.reservationSent g) s = .next t ∧ t.reservations = s.reservations.filter (fun x => !x.own) ∧
          (∀ k, t.gate k = { s.gate k with withdrawPending := (t.gate k).withdrawPending }) ∧
          t.gate g = s.gate g ∧
          (∀ k, ((s.ownReservation k).any fun x => x.phase == .standing) = true →
            (t.gate k).withdrawPending = true ∨ (t.queue.any fun q => q.frame == .withdraw k) = true) ∧
          (t.feedCount = 11 → t.canReserve g = false) ∧
          t = { s with
            reservations := t.reservations, queue := t.queue, gates := t.gates
            undoneReserves := g :: s.undoneReserves })

/-- R117, R119, R122: an own QUEUED entry whose start or alignment travel reaches is void: gone with its waiting
RESERVE. A STANDING entry whose alignment passes without a commit is withdrawn with a WITHDRAW, queued or pending. An
entry expires at its end, a peer's silently. Where the entry was own, the gate's patience restarts. -/
def Obligations.ReservationsEnd : Prop :=
  ∀ (s : State) (g : GateIx) (a : Addr) (x : Reservation),
    s.PinsFollow →
    (s.voidDue g = true →
        exec (.reservationVoid g) s = .next (State.restartPatience
          { s with
            reservations := s.reservations.filter fun r => !(r.own && r.gate == g)
            queue := s.queue.filterMap fun q =>
              if isReserveOf g q then (if q.underWay then some { q with void := true } else none) else some q } g)) ∧
      (s.alignmentMissed g = true →
        ∃ t, exec (.reservationWithdrawn g) s = .next t ∧ t.ownReservation g = none ∧
          (t.gate g).patienceCount = 0 ∧
          ((t.queue.any fun q => q.frame == .withdraw g) = true ∨ (t.gate g).withdrawPending = true) ∧
          t = { s with reservations := t.reservations, queue := t.queue, gates := t.gates }) ∧
      (s.expired a g = some x → x.own = false →
        exec (.reservationExpiry a g) s = .next { s with
          reservations := s.reservations.filter fun r => r.own || r.reserver != a || r.gate != g }) ∧
      (s.expired a g = some x → x.own = true →
        ∃ t, exec (.reservationExpiry a g) s = .next t ∧ t.ownReservation g = none ∧ (t.gate g).patienceCount = 0 ∧
          t = { s with reservations := t.reservations, queue := t.queue, gates := t.gates })

/-! ### The control unit (chapter 12) -/

/-- R42, R45, R62, R95, R98, R99, R109, R110, R119, R195: STOP asserted in RUNNING takes the tracker to STOPPED with
every output inactive and no own reservation left; in any other state it only moves the pin. With no gate RELEASING, at
a FEED tracker or elsewhere, nothing else changes. For one releasing gate: a release whose pulse had not started, or a
spacer not begun, is cancelled, its record removed with its LOST and STOP_ABORT, the item gate READY again as before the
commit and the spacer gate EMPTY with its gap-request; a started or begun one, or one whose abort answers GONE, is ended
with the actions of the release end, its record kept, with STOP_ABORT. -/
def Obligations.StopSettlesReleases : Prop :=
  ∀ (s : State) (g : GateIx) (r : Release) (ch : ChannelIx) (started : Bool),
    (s.mode ≠ .running → exec .stopAsserted s = .next { s with stopPin := true }) ∧
      (s.mode = .running → s.GatesSound →
        ∃ t, exec .stopAsserted s = .next t ∧ t.mode = .stopped ∧ t.stopPin = true ∧
          (∀ c, (t.channel c).output = false) ∧ (∀ k, t.ownReservation k = none) ∧
          (∀ k, (s.gate k).state ≠ .releasing → (t.gate k).state = (s.gate k).state) ∧
          (∀ k, (t.gate k).state ≠ .releasing) ∧
          t = { s with
            mode := .stopped, stopPin := true, train := t.train, trainCause := t.trainCause, waiting := t.waiting
            freshWindows := t.freshWindows, lots := t.lots, closureList := t.closureList, dests := t.dests
            channels := t.channels, queue := t.queue, faults := t.faults, overflow := t.overflow, gates := t.gates
            reservations := t.reservations, alertPin := t.alertPin }) ∧
      (s.mode = .running → (∀ k, (s.gate k).state ≠ .releasing) →
        ∃ t, exec .stopAsserted s = .next t ∧
          (∀ k, t.gate k = { s.gate k with withdrawPending := (t.gate k).withdrawPending }) ∧
          (∀ k, ((s.ownReservation k).any fun x => x.phase == .standing) = true →
            (t.gate k).withdrawPending = true ∨ (t.queue.any fun q => q.frame == .withdraw k) = true) ∧
          (s.reservations = [] → t.gates = s.gates ∧ t.queue = s.queue) ∧
          t = { s with
            mode := .stopped, stopPin := true, channels := s.channels.map fun x => { x with output := false }
            gates := t.gates, reservations := s.reservations.filter fun x => !x.own, queue := t.queue
            alertPin := t.alertPin }) ∧
      (s.mode = .running → (∀ k : GateIx, k ≠ g → (s.gate k).state ≠ .releasing) → (s.gate g).state = .releasing →
        (s.gate g).release = some r →
        (if r.spacer then started = (r.begun || atOrPast (s.pos .a) (Pos.plus r.commit (s.gate g).set.wait))
          else (s.gate g).set.channel = some ch ∧
            ((s.abort ch r.tag).2 = .aborted started ∨ (s.abort ch r.tag).2 = .gone ∧ started = true)) →
        s.TrainSound → s.LotsSound →
        (
          let x := s.gate g
          ∃ t, exec .stopAsserted s = .next t ∧ t.mode = .stopped ∧ t.stopPin = true ∧
            (∀ c, (t.channel c).output = false) ∧
            (t.gate g).release = none ∧ (∀ k, k ≠ g → (t.gate k).state = (s.gate k).state) ∧
            (t.gate g).holdPending = false ∧
            (r.spacer = true ∨ started = true → (t.gate g).state = .empty ∧ (t.gate g).lotPending = none ∧
              (t.gate g).lot = (if x.lotPending.isSome then x.lotPending else x.lot)) ∧
            (started = false →
              t.train = s.train.filter (fun y => y.tag != r.tag) ∧
                (r.spacer = false → (t.gate g).state = .ready ∧ (t.gate g).patienceCount = 0 ∧
                  (t.gate g).lot = x.lot ∧ (t.gate g).lotPending = x.lotPending) ∧
                (t.gate g).cls = x.cls ∧ (t.gate g).rejectNext = r.prevRejectNext ∧
                (t.gate g).gapRequest = x.gapRequest ∧
                (t.gate g).lastRelease = (if r.spacer ∧ x.lotPending.isSome then none else r.prevLast) ∧
                (t.gate g).hold = (x.hold || x.holdPending) ∧
                (s.findRecord r.tag = none → t.faults = s.faults) ∧
                ∀ y ∈ s.findRecord r.tag,
                  (if s.queue.length < 16 then TxFrame.new (.lost r.tag 5) 0 ∈ t.queue
                    else 8 ≤ t.faults.length ∨ ∃ f ∈ t.faults, f.kind = .txOverrun ∧ f.tag = some r.tag) ∧
                    (8 ≤ t.faults.length ∨
                      { kind := .stopAbort, position := s.pos y.basis, input := y.basis, tag := some r.tag
                        lot := some y.lot, unit := some (.gate g) : FaultRecord } ∈ t.faults)) ∧
            (started = true →
              t.train = s.train ∧ (t.gate g).cls = none ∧ (t.gate g).hold = (x.hold || x.holdPending || x.set.autoHold) ∧
                (t.gate g).rejectNext = x.rejectNext ∧ (t.gate g).gapRequest = (x.gapRequest && !r.spacer) ∧
                (t.gate g).lastRelease = (if x.lotPending.isSome then none else x.lastRelease) ∧
                (8 ≤ t.faults.length ∨ ∃ f ∈ t.faults, f.kind = .stopAbort ∧ f.tag = some r.tag ∧
                  f.unit = some (.gate g) ∧ f.position = s.pos .a ∧
                  f.lot = some (((s.findRecord r.tag).map (·.lot)).getD
                    (if r.spacer then 255 else x.lot.getD 255))))))

/-- R8, R14, R45, R65, R84, R110, R193, R195: STOP released in STOPPED takes the tracker to RUNNING, once the edges and
train events that travel has reached are decided: every record gains UNVERIFIED, with its half-width doubled and clamped
where it carried neither doubling flag (a closing position that this puts at or behind travel is not reached by the step
still acted on, R8), a waiting closure of such a record is noted as widened, and the outputs are taken afresh. In any
other state it only moves the pin. The settle timer's expiry ends JOINING where the own JOIN has been heard back, into
STOPPED with the STOP pin asserted and RUNNING otherwise; before that it is only noted. Outside JOINING there is no
timer. -/
def Obligations.StopReleaseAndSettleTimer : Prop :=
  ∀ (s : State) (x : Settling),
    s.PinsFollow →
    (s.mode ≠ .stopped → exec .stopReleased s = .next { s with stopPin := false }) ∧
      (s.mode = .stopped →
        (
          let u := State.settleMatching { s with stopPin := false }
          exec .stopReleased s = .next (State.alertAfresh
            { u with
              mode := .running
              train := u.train.map fun r =>
                { r with
                  h := if r.flags.unverified || r.flags.lateAnnounce then r.h else max 1 (min 2047 (2 * r.h))
                  flags := { r.flags with unverified := true } }
              waiting := u.waiting.map fun w =>
                { w with widened := w.widened || u.train.any fun r => r.tag == w.tag && !r.flags.unverified }
              freshWindows := (u.train.filter fun r => !(r.flags.unverified || r.flags.lateAnnounce)).map (·.tag) ++
                u.freshWindows
              channels := Vector.ofFn fun c => State.shown { u with mode := .running } (u.channel c) }) ∧
            ((∀ e, s.eyeRuns e = false ∨ (s.eye e).acceptDue = false) → s.nextDue = none →
              u = { s with stopPin := false }))) ∧
      (s.mode ≠ .joining → exec .settleTimerExpiry s = .next s) ∧
      (s.mode = .joining → s.settling = some x → x.expired = false →
        (x.heard = false → exec .settleTimerExpiry s = .next { s with settling := some { x with expired := true } }) ∧
          (x.heard = true →
            ∃ t, exec .settleTimerExpiry s = .next t ∧ t.mode = (if s.stopPin then .stopped else .running) ∧
              t = { s with mode := t.mode, settling := none, channels := t.channels, alertPin := t.alertPin }))

/-- R6, R16, R32, R46, R67, R92, R111, R124, R129, R148, R160, R173, R187, R190, R198, R199: power-on puts every block
at its power-on value, in which every invariant above holds; the levels of the pins and the waiting commands are outside
the part (assumption log 16), and the settings that no rule gives before the first JOIN are the model's own (log 17). -/
def Obligations.PowerOnResets : Prop :=
  ∀ (s : State),
    State.reset.PinsFollow ∧ State.reset.TrainSound ∧ State.reset.StagesInOrder ∧ State.reset.TrainInOrder ∧
      State.reset.Near ∧ State.reset.ChannelsSound ∧ State.reset.GatesSound ∧ State.reset.LotsSound ∧
      State.reset.InFlightSound ∧ State.reset.BoundsHold ∧ State.reset.QueueSound ∧
      (∃ t, exec .powerOn s = .next t ∧ t = { State.reset with
        pending := s.pending, freeDraws := s.freeDraws, stopPin := s.stopPin, eyes := t.eyes } ∧
      ∀ e, t.eye e = { Eye.reset with pinHigh := (s.eye e).pinHigh }) ∧
      (
        let z := State.reset
        z.mode = .config ∧ z.role = none ∧ z.address = none ∧ z.slip = 16384 ∧ z.serial = 0 ∧ z.passageSeq = 0 ∧
          z.train = [] ∧ z.reservations = [] ∧ z.queue = [] ∧ z.faults = [] ∧ z.overflow = 0 ∧ z.watch = [] ∧
          z.alertMask = 0 ∧ z.lineHold = false ∧ z.wrapAlarm = false ∧ z.announced = false ∧ z.rejectDest = 3 ∧
          z.highMark = 48 ∧ z.closureList = [] ∧ z.waiting = [] ∧
          (∀ i, z.pos i = 0 ∧ (z.travel i).fraction = 0 ∧ (z.travel i).reverse = false ∧ (z.travel i).pitch = 0) ∧
          (∀ e, (z.eye e).accepted = .clear ∧ (z.eye e).candidate = none) ∧
          (∀ c, (z.channel c).active = none ∧ (z.channel c).mode = .distinct ∧ (z.channel c).output = false) ∧
          (∀ g, (z.gate g).state = .empty ∧ (z.gate g).lot = none ∧ (z.gate g).lastRelease = none) ∧
          (∀ d, (z.dest d).count = 0 ∧ (z.dest d).stackLot = 255 ∧ (z.dest d).last = none) ∧
          (∀ k, z.lotSlot k = none) ∧ (∀ a, z.holder a = none) ∧
          z.store.val 9 0 2 = 16384 ∧ z.store.val 11 0 1 = 3 ∧ z.store.val 7 0 1 = 48 ∧ z.store.val 1 0 2 = 0)

/-- R1, R16, R19, R25, R33, R93, R126, R130, R132, R138, R149, R191, R192: JOIN is answered STATE outside CONFIG; a
descriptor that breaks a condition is answered BAD_DESCRIPTOR with the item, and nothing is loaded (which item, between
several: log 7; `freeDraws` counts the response's bytes: log 6). One that passes is loaded, block by block from the
store, the JOIN queued and behind it a HOLD on where a cause stands, JOINING entered with the timer running, and every
enabled eye starts at its raw level without a candidate (the pin level as it stands at the JOIN: log 36). Positions,
stacks and gate lots are kept. -/
def Obligations.JoinValidatesAndLoads : Prop :=
  ∀ (s : State) (item : ItemId),
    s.PinsFollow →
    (s.mode ≠ .config → exec .join s = .next { s with response := [1] }) ∧
      (s.mode = .config → s.store.validate = some item →
        exec .join s = .next { s with
          response := [6, item.sec, item.index, item.field], freeDraws := s.freeDraws + 3 }) ∧
      (s.mode = .config → s.store.validate = none →
        ∃ t, exec .join s = .next t ∧ t.settling = some { expired := false, heard := false } ∧
          t.role = s.store.role ∧ t.address = some (BitVec.ofInt 5 (s.store.val 1 0 1)) ∧
          (∀ i, t.travel i = { s.travel i with
            pitch := BitVec.ofInt 16 (s.store.val 2 (if i = .a then 0 else 1) 1)
            inverted := decide (s.store.val 2 (if i = .a then 0 else 1) 2 = 1)
            reference := if (s.travel i).pitch = 0 then none else (s.travel i).reference }) ∧
          (∀ e, (t.eye e).set = s.store.eyeSettings e ∧ (t.eye e).pinHigh = (s.eye e).pinHigh ∧
            (t.eye e).candidate = none ∧ (t.eye e).jammed = false ∧
            (t.eye e).accepted = if (t.eye e).set.enable then (t.eye e).raw else .clear) ∧
          (∀ c, (t.channel c).active = (s.channel c).active ∧ (t.channel c).next = (s.channel c).next ∧
            (t.channel c).output = false ∧ (t.channel c).owner = s.store.ownerOf c ∧
            (t.channel c).input = (if s.store.val 12 c.val 1 = 1 then .b else .a) ∧
            (t.channel c).mode = if s.store.val 12 c.val 2 = 0 then .merge else .distinct) ∧
          (∀ g, t.gate g = { s.gate g with
            set := s.store.gateSettings g
            lot := if s.store.val 8 g.val 1 = 1 ∧ (s.gate g).lot = none then
                some (BitVec.ofInt 8 (s.store.val 8 g.val 10))
              else (s.gate g).lot }) ∧
          t.watch = s.store.watchList ∧ (∀ w ∈ t.watch, w.expected = none ∧ w.credits = 0) ∧
          (t.baseWidth : Int) = max 0 (s.store.val 4 0 1) ∧ (t.propWidth : Int) = max 0 (s.store.val 4 0 2) ∧
          (∀ k : Cls, t.classOf k = s.store.classSettings k.toFin) ∧
          (t.highMark : Int) = max 0 (s.store.val 7 0 1) ∧ (t.lowMark : Int) = max 0 (s.store.val 7 0 2) ∧
          (t.ironer, t.slip, t.slipLoaded) =
            (if s.store.role = some .ironer then
              (some s.store.ironerSettings,
                if s.slipLoaded = false ∨ s.store.val 9 0 4 = 1 then (s.store.val 9 0 2).toNat else s.slip, true)
            else (s.ironer, s.slip, s.slipLoaded)) ∧
          (if s.store.role = some .outlet then
            (∀ d, t.dest d = { s.dest d with set := s.store.destSettings d }) ∧
              (t.rejectDest.val : Int) = s.store.val 11 0 1 ∧ t.doubtfulToClass = decide (s.store.val 11 0 2 = 1)
          else t.dests = s.dests ∧ t.rejectDest = s.rejectDest ∧ t.doubtfulToClass = s.doubtfulToClass) ∧
          (s.announced = false → s.queue.length < 15 →
            t.queue = s.queue ++ TxFrame.new (.join (BitVec.ofInt 8 (s.store.val 1 0 2)) 1) 0 ::
              if t.causes = 0 then [] else [TxFrame.new (.hold true t.causes) 0]) ∧
          t = { s with
            travelA := t.travelA, travelB := t.travelB, lastStep := none, freshWindows := []
            undoneReserves := [], eyes := t.eyes
            channels := t.channels, gates := t.gates, watch := t.watch, baseWidth := t.baseWidth
            propWidth := t.propWidth, classes := t.classes, highMark := t.highMark, lowMark := t.lowMark
            trainCause := false, address := t.address, role := t.role, ironer := t.ironer, slip := t.slip
            slipLoaded := t.slipLoaded, dests := t.dests, rejectDest := t.rejectDest
            doubtfulToClass := t.doubtfulToClass, mode := .joining, settling := t.settling, queue := t.queue
            announced := t.announced, announcedReason := t.announcedReason, alertPin := t.alertPin, response := [0] })

/-- R20, R33, R93, R115, R126, R130, R138, R149, R190, R191: a descriptor passes where every item meets the conditions
that name it, `Store.ItemOk`; otherwise validation answers the first item, in the order of section, index and field,
that does not. A condition between several items is held against the last of them, so a gate that does not fit a
FEED_LENGTH eye against the gate's enable or lanes (assumption log 7); the channel fields of disabled gates count at a
FEED tracker (log 8). That an enable field other than 0 and 1 fails for every gate, enabled or not, is the model's
choice (log 9): R191 checks enabled gates. -/
def Obligations.DescriptorIsValidated : Prop :=
  ∀ (st : Store) (item : ItemId),
    (
      let ok := fun (x : ItemId) => st.ItemOk x.sec.toNat x.index.toNat x.field.toNat
      (st.validate = none ↔ ∀ x : ItemId, (ItemId.slot x).isSome = true → ok x) ∧
        (st.validate = some item ↔
          ∃ k : Fin storeSize, ItemId.slot item = some k ∧ ¬ok item ∧
            ∀ (x : ItemId) (j : Fin storeSize), ItemId.slot x = some j → j < k → ok x))

/-- R6, R16, R32, R46, R49, R67, R111, R124, R127 to R132, R148, R160, R174, R187, R189, R194: LEAVE is answered STATE
in CONFIG; otherwise every block takes its LEAVE reset, only the frame under way stays in the queue, and HOLD off is
queued behind it where a hold stood announced, by a HOLD sent or by one that the LEAVE discards. Counters, serial,
sequence, slip, lots of the gates, faults, store and settings are kept. -/
def Obligations.LeaveResets : Prop :=
  ∀ (s : State),
    (s.mode = .config → exec .leave s = .next { s with response := [1] }) ∧
      (s.mode ≠ .config →
        ∃ t, exec .leave s = .next t ∧
          (∀ a, t.holder a = none) ∧
          (∀ c, t.channel c = { s.channel c with active := none, next := none, output := false }) ∧
          (∀ e, t.eye e = { s.eye e with
            accepted := .clear, candidate := none, blockedDist := none, jammed := false }) ∧
          (∀ g, t.gate g =
            { Gate.reset with
              set := (s.gate g).set, lot := (s.gate g).lot, lastRelease := (s.gate g).lastRelease }) ∧
          (∀ d, t.dest d = { s.dest d with count := 0, stackLot := 255, owed := none }) ∧
          t.watch = s.watch.map (fun w => { w with expected := none, credits := 0 }) ∧
          (∀ k, t.lotSlot k = (s.lotSlot k).map fun e => { e with state := .closed, inFlight := 0, sources := [] }) ∧
          ((∀ q ∈ s.queue.tail, q.underWay = false) →
            (
              let stood := s.announced || s.queue.any fun q => isHold q && !q.underWay
              t.queue = ((s.queue.filter (·.underWay)).map fun q => { q with orphan := true }) ++
                  (if stood then [TxFrame.new (.hold false 0) 0] else []) ∧
                t.announced = false)) ∧
          t = { s with
            mode := .config, settling := none, lastStep := none, freshWindows := [], undoneReserves := []
            eyes := t.eyes
            channels := t.channels, train := [], waiting := [], trainCause := false, gates := t.gates
            reservations := [], holders := t.holders, exitRejectNext := false, dests := t.dests, watch := t.watch
            queue := t.queue, announced := t.announced, announcedReason := t.announcedReason, lots := t.lots
            closureList := t.closureList, alertPin := t.alertPin, response := [0] })

/-! ### The port (chapter 12) -/

/-- R100, R101, R105, R106, R108, R115, R119: LOAD takes an EMPTY gate to READY with its class, answering OCCUPIED in
the other states and BAD_PARAM for class 15 and above; UNLOAD takes a READY gate to EMPTY, withdraws its reservation and
applies a pending lot change, answering STATE in the other states. LOT CHANGE, by the first row that applies: lot 255
BAD_PARAM; the current lot OK without effect; an EMPTY gate LOCKED under its lock, else the change applied with lock and
mark; a READY gate OCCUPIED; a RELEASING gate keeps the lot pending. -/
def Obligations.LoadUnloadAndLotChange : Prop :=
  ∀ (s : State) (g cls lot : Byte) (i : GateIx),
    s.PinsFollow →
    s.serving = true →
    s.namedGate g = some i →
    (14 < cls.toNat → exec (.load g cls) s = .next { s with response := [4] }) ∧
      (cls.toNat ≤ 14 → (s.gate i).state ≠ .empty → exec (.load g cls) s = .next { s with response := [2] }) ∧
      (cls.toNat ≤ 14 → (s.gate i).state = .empty → exec (.load g cls) s = .next (State.alertAfresh
        { s.setGate i { s.gate i with state := .ready, cls := some (cls.setWidth 4), patienceCount := 0 } with
          response := [0] })) ∧
      ((s.gate i).state ≠ .ready → exec (.unload g) s = .next { s with response := [1] }) ∧
      ((s.gate i).state = .ready →
        ∃ t, exec (.unload g) s = .next t ∧ t.response = [0] ∧ (t.gate i).state = .empty ∧ (t.gate i).cls = none ∧
          t.ownReservation i = none ∧ (t.gate i).lotPending = none ∧
          (t.gate i).lot = (if (s.gate i).lotPending.isSome then (s.gate i).lotPending else (s.gate i).lot) ∧
          (t.gate i).lock = ((s.gate i).lock || (s.gate i).lotPending.isSome) ∧
          (∀ k, k ≠ i → (t.gate k).state = (s.gate k).state ∧ (t.gate k).lot = (s.gate k).lot) ∧
          t = { s with
            gates := t.gates, reservations := t.reservations, queue := t.queue, alertPin := t.alertPin
            response := [0] }) ∧
      (
        let x := s.gate i
        let m : LotMark := { old := x.lot.getD 255, new := lot, last := x.lastRelease }
        (lot = 255 → exec (.lotChange g lot) s = .next { s with response := [4] }) ∧
          (lot ≠ 255 → x.lot = some lot → exec (.lotChange g lot) s = .next { s with response := [0] }) ∧
          (lot ≠ 255 → x.lot ≠ some lot →
            (x.state = .ready → exec (.lotChange g lot) s = .next { s with response := [2] }) ∧
              (x.state = .releasing → exec (.lotChange g lot) s = .next
                { s.setGate i { x with lotPending := some lot } with response := [0] }) ∧
              (x.state = .empty → x.lock = true → exec (.lotChange g lot) s = .next { s with response := [3] }) ∧
              (x.state = .empty → x.lock = false →
                ∃ t, exec (.lotChange g lot) s = .next t ∧ (t.gate i).lot = some lot ∧
                  (t.gate i).lastRelease = none ∧ (t.gate i).lock = true ∧
                  ((t.gate i).mark = .waiting m ∨ (t.gate i).mark = .queued m) ∧ t.ownReservation i = none ∧
                  (∀ k, k ≠ i → (t.gate k).lot = (s.gate k).lot) ∧
                  t = { s with
                    gates := t.gates, reservations := t.reservations, queue := t.queue, response := [0] })))

/-- R93, R94, R102 to R104, R189: outside JOINING, RUNNING and STOPPED a gate command is answered STATE; there, one that
names a gate not enabled in force or above 3 is answered BAD_PARAM (REJECT NEXT naming 4 apart); neither changes
anything else. HOLD SET sets hold, or hold-pending while RELEASING; BLOCK SET sets block; both suspend the gate. Their
CLEARs clear it and answer LOCKED while lock is set. GAP REQUEST and REJECT NEXT set their flags in every gate state. -/
def Obligations.GateCommandsSetFlags : Prop :=
  ∀ (s : State) (g y : Byte),
    s.PinsFollow →
    (s.serving = false ∨ s.namedGate g = none →
        (
          let t : State := { s with response := [if s.serving then 4 else 1] }
          exec (.load g y) s = .next t ∧ exec (.unload g) s = .next t ∧ exec (.holdSet g) s = .next t ∧
            exec (.holdClear g) s = .next t ∧ exec (.blockSet g) s = .next t ∧ exec (.blockClear g) s = .next t ∧
            exec (.lotChange g y) s = .next t ∧ exec (.gapRequest g) s = .next t ∧
            (g ≠ 4 → exec (.rejectNext g) s = .next t))) ∧
      (s.serving = true → ∀ i, s.namedGate g = some i →
        (
          let x := s.gate i
          let done := if x.lock then (3 : Byte) else 0
          (x.state = .releasing → exec (.holdSet g) s = .next
              { s.setGate i { x with holdPending := true } with response := [0] }) ∧
            (x.state ≠ .releasing →
              ∃ t, exec (.holdSet g) s = .next t ∧ (t.gate i).hold = true ∧ t.suspended i = true ∧
                t.ownReservation i = none ∧ (∀ k, k ≠ i → (t.gate k).state = (s.gate k).state) ∧
                (t.gate i).state = x.state ∧
                t = { s with
                  gates := t.gates, reservations := t.reservations, queue := t.queue, response := [0] }) ∧
            exec (.holdClear g) s = .next
              { s.setGate i { x with hold := false, holdPending := false } with response := [done] } ∧
            (∃ t, exec (.blockSet g) s = .next t ∧ (t.gate i).block = true ∧ t.suspended i = true ∧
              t.ownReservation i = none ∧ (t.gate i).state = x.state ∧ (t.gate i).hold = x.hold ∧
              t = { s with gates := t.gates, reservations := t.reservations, queue := t.queue, response := [0] }) ∧
            exec (.blockClear g) s = .next { s.setGate i { x with block := false } with response := [done] } ∧
            exec (.gapRequest g) s = .next { s.setGate i { x with gapRequest := true } with response := [0] } ∧
            exec (.rejectNext g) s = .next { s.setGate i { x with rejectNext := true } with response := [0] }))

/-- R91: WRAP ACK clears the wrap alarm and answers OK, in every tracker state and every role; with the alarm already
clear it answers OK and changes nothing. A WRAP removal and a WRAP ACK may come in either order: the acknowledgement
taken last clears the alarm, the removal taken last sets it. -/
def Obligations.WrapAckClearsTheAlarm : Prop :=
  ∀ (s : State) (r : Record) (e : EyeIx),
    s.PinsFollow →
    exec .wrapAck s = .next (State.alertAfresh { s with wrapAlarm := false, response := [0] }) ∧
      (s.wrapAlarm = false → exec .wrapAck s = .next { s with response := [0] }) ∧
      (s.removeRecord r .wrap (some (.eye e))).wrapAlarm = true ∧
      (∀ t, exec .wrapAck (s.removeRecord r .wrap (some (.eye e))) = .next t →
        t.wrapAlarm = false ∧ t.anyCause = (t.lineHold || t.levelCause || t.jamCause || t.trainCause)) ∧
      ∀ t, exec .wrapAck s = .next t →
        (t.removeRecord r .wrap (some (.eye e))).wrapAlarm = true ∧
          (t.removeRecord r .wrap (some (.eye e))).anyCause = true

/-- R128, R147, R197 to R200: LINE HOLD SET and CLEAR set and clear the CONTROLLER cause; REJECT NEXT naming 4 arms the
IRONER exit and is BAD_PARAM elsewhere; REJECT TAG sets REJECT on the record of the tag and queues a MARK whether or not
there is one, answering OK or EMPTY, with TX_OVERRUN in place of the MARK where the queue is full. SET ALERT MASK
replaces the mask, and ALERT follows at once; CLEAR FAULTS empties the list and its overflow count; READ FAULT answers
the oldest record's kind and position with the records remaining and the overflow count, and removes it, or EMPTY with
the overflow count. `freeDraws` counts the response's bytes (assumption log 6). -/
def Obligations.HoldsRejectsMaskAndFaults : Prop :=
  ∀ (s : State) (tag : Tag) (mask : Byte) (f : FaultRecord) (rest : List FaultRecord),
    s.PinsFollow →
    (∃ t, exec .lineHoldSet s = .next t ∧ t.lineHold = true ∧ t.anyCause = true ∧ t.holding = s.joined ∧
        t = { s with
          lineHold := true, gates := t.gates, reservations := t.reservations, queue := t.queue
          alertPin := t.alertPin, response := [0] }) ∧
      exec .lineHoldClear s = .next (State.alertAfresh { s with lineHold := false, response := [0] }) ∧
      exec (.rejectNext 4) s = .next (
        if s.serving = false then { s with response := [1] }
        else if s.role = some .ironer then { s with exitRejectNext := true, response := [0] }
        else { s with response := [4] }) ∧
      (s.serving = false → exec (.rejectTag tag) s = .next { s with response := [1] }) ∧
      (s.serving = true →
        (
          let marked : State :=
            { s with
              response := [if (s.findRecord tag).isSome then 0 else 5]
              train := s.train.map fun r =>
                if r.tag = tag then { r with flags := { r.flags with reject := true } } else r }
          exec (.rejectTag tag) s = .next (State.alertAfresh (
            if s.queue.length < 16 then { marked with queue := s.queue ++ [TxFrame.new (.mark tag 1) 0] }
            else marked.recordFault
              { kind := .txOverrun, position := s.pos .a, input := .a, tag := some tag })))) ∧
      exec (.setAlertMask mask) s = .next
        { s with alertMask := mask, alertPin := (s.conditions &&& mask) != 0, response := [0] } ∧
      exec .clearFaults s = .next (State.alertAfresh { s with faults := [], overflow := 0, response := [0] }) ∧
      (s.faults = [] → exec .readFault s = .next
        { s with response := [5, 0, BitVec.ofNat 8 s.overflow], freeDraws := s.freeDraws + 2 }) ∧
      (s.faults = f :: rest →
        ∃ t, exec .readFault s = .next t ∧
          t = State.alertAfresh { s with faults := rest, response := t.response, freeDraws := s.freeDraws + 12 } ∧
          t.response.length = 13 ∧ t.response.take 2 = [0, f.kind.code] ∧
          (t.response.drop 3).take 3 = [f.position.extractLsb' 16 8, f.position.extractLsb' 8 8, f.position.extractLsb' 0 8] ∧
          t.response.drop 11 = [BitVec.ofNat 8 rest.length, BitVec.ofNat 8 s.overflow])

/-- R4, R66, R171, R172, R188, R198: a read changes nothing but the response (READ LOT NOTICE also clears the flag of
the notice it reads). Each answers EMPTY or BAD_PARAM as its rule says, or OK with a response whose length and leading
bytes are given here. Bits without a stated value are drawn free and counted by `freeDraws` (assumption log 6). -/
def Obligations.ReadsReportTheState : Prop :=
  ∀ (s : State) (index slot : Byte) (tag : Tag),
    s.PinsFollow →
    (∃ t, exec .readStatus s = .next t ∧ t = { s with response := t.response, freeDraws := s.freeDraws + 103 } ∧
        t.response.length = 104 ∧
        t.response.take 4 = [0, BitVec.ofNat 8 s.mode.code, s.conditions, s.alertMask]) ∧
      (∃ t, exec .readTravel s = .next t ∧ t = { s with response := t.response, freeDraws := s.freeDraws + 9 } ∧
        t.response.length = 10 ∧ t.response.take 7 = [0, (s.pos .a).extractLsb' 16 8, (s.pos .a).extractLsb' 8 8,
          (s.pos .a).extractLsb' 0 8, (s.pos .b).extractLsb' 16 8, (s.pos .b).extractLsb' 8 8,
          (s.pos .b).extractLsb' 0 8] ∧
        t.response.drop 8 = [BitVec.ofNat 8 (s.slip / 256), BitVec.ofNat 8 s.slip]) ∧
      (∃ t, exec (.readTrain index) s = .next t ∧ t = { s with response := t.response, freeDraws := t.freeDraws } ∧
        (47 < index.toNat → t.response = [4]) ∧
        (index.toNat ≤ 47 → s.train.length ≤ index.toNat → t.response = [5, BitVec.ofNat 8 s.train.length]) ∧
        (index.toNat ≤ 47 → index.toNat < s.train.length →
          t.response.length = 28 ∧ t.response.take 3 = [0, BitVec.ofNat 8 s.train.length, index])) ∧
      (∃ t, exec (.readRecord tag) s = .next t ∧ t = { s with response := t.response, freeDraws := t.freeDraws } ∧
        ((s.findRecord tag).isNone = true → t.response = [5]) ∧
        ((s.findRecord tag).isSome = true →
          t.response.length = 27 ∧ (t.response.drop 2).take 2 =
            [tag.origin ++ tag.serial.extractLsb' 8 3, tag.serial.extractLsb' 0 8])) ∧
      (∃ t, exec (.readLot slot) s = .next t ∧ t = { s with response := t.response, freeDraws := t.freeDraws } ∧
        (15 < slot.toNat → t.response = [4]) ∧
        (∀ k : Fin 16, k.val = slot.toNat → s.lotSlot k = none → t.response = [5]) ∧
        (∀ k : Fin 16, ∀ e ∈ (s.lotSlot k).toList, k.val = slot.toNat →
          t.response.length = 12 + 6 * e.sources.length ∧
            t.response.take 4 = [0, e.lot, BitVec.ofNat 8 e.state.code, BitVec.ofNat 8 e.inFlight])) ∧
      (∃ t, exec .readLotNotice s = .next t ∧
        t = { s with response := t.response, freeDraws := t.freeDraws, lots := t.lots, alertPin := t.alertPin } ∧
        (s.firstNotice = none → t.response = [5] ∧ t.lots = s.lots) ∧
        (∀ k : Fin 16, s.firstNotice = some k → ∀ e ∈ (s.lotSlot k).toList,
          t.lotSlot k = some { e with noticeUnread := false } ∧ (∀ j, j ≠ k → t.lotSlot j = s.lotSlot j) ∧
            t.response = [0, e.lot, BitVec.ofNat 8 (e.departed / 256), BitVec.ofNat 8 e.departed,
              BitVec.ofNat 8 (e.rejects / 256), BitVec.ofNat 8 e.rejects, if e.incomplete then 1 else 0]))

/-- R188 to R190: DESCRIPTOR WRITE stores its value in CONFIG and is answered STATE elsewhere; DESCRIPTOR READ answers
the stored value; an identifier outside the table is BAD_PARAM. A cut before the last parameter byte changes nothing,
one in the response discards its rest, and an unknown command byte is BAD_PARAM. `freeDraws` counts the bytes of the
response that the model could draw free (assumption log 6). -/
def Obligations.DescriptorAndBrokenTransactions : Prop :=
  ∀ (s : State) (item : ItemId) (value : BitVec 32) (code : Byte) (sent : List Byte) (n : Nat),
    (s.mode ≠ .config → exec (.descriptorWrite item value) s = .next { s with response := [1] }) ∧
      (s.mode = .config → ItemId.slot item = none → exec (.descriptorWrite item value) s = .next { s with response := [4] }) ∧
      (s.mode = .config → ∀ k : Fin storeSize, ItemId.slot item = some k →
        ∃ t, exec (.descriptorWrite item value) s = .next t ∧ t = { s with store := t.store, response := [0] } ∧
          t.store[k] = value ∧ ∀ j : Fin storeSize, j ≠ k → t.store[j] = s.store[j]) ∧
      (ItemId.slot item = none → exec (.descriptorRead item) s = .next { s with response := [4] }) ∧
      (∀ k : Fin storeSize, ItemId.slot item = some k → exec (.descriptorRead item) s = .next
        { s with
          response := [0, s.store[k].extractLsb' 24 8, s.store[k].extractLsb' 16 8, s.store[k].extractLsb' 8 8,
            s.store[k].extractLsb' 0 8]
          freeDraws := s.freeDraws + 4 }) ∧
      exec (.transactionCut (.command sent)) s = .next s ∧
      exec (.transactionCut (.response n)) s = .next { s with response := s.response.take n } ∧
      (commandParams code = none → exec (.unknownCommand code) s = .next { s with response := [4] })
end

