-- ==== Sys2Proof/Laws/State.lean ====
section
/-! SUPPORT. What each elementary update leaves as it was: one lemma per field per update, and what it sets. -/

namespace Sys2Proof.Machine

variable (s : State)

/-! ### setEye -/

@[simp] theorem setEye_travelA (e : EyeIx) (x : Eye) : (s.setEye e x).travelA = s.travelA := rfl
@[simp] theorem setEye_travelB (e : EyeIx) (x : Eye) : (s.setEye e x).travelB = s.travelB := rfl
@[simp] theorem setEye_lastStep (e : EyeIx) (x : Eye) : (s.setEye e x).lastStep = s.lastStep := rfl
@[simp] theorem setEye_freshWindows (e : EyeIx) (x : Eye) : (s.setEye e x).freshWindows = s.freshWindows := rfl
@[simp] theorem setEye_undoneReserves (e : EyeIx) (x : Eye) : (s.setEye e x).undoneReserves = s.undoneReserves := rfl
@[simp] theorem setEye_channels (e : EyeIx) (x : Eye) : (s.setEye e x).channels = s.channels := rfl
@[simp] theorem setEye_train (e : EyeIx) (x : Eye) : (s.setEye e x).train = s.train := rfl
@[simp] theorem setEye_admissions (e : EyeIx) (x : Eye) : (s.setEye e x).admissions = s.admissions := rfl
@[simp] theorem setEye_serial (e : EyeIx) (x : Eye) : (s.setEye e x).serial = s.serial := rfl
@[simp] theorem setEye_waiting (e : EyeIx) (x : Eye) : (s.setEye e x).waiting = s.waiting := rfl
@[simp] theorem setEye_gates (e : EyeIx) (x : Eye) : (s.setEye e x).gates = s.gates := rfl
@[simp] theorem setEye_reservations (e : EyeIx) (x : Eye) : (s.setEye e x).reservations = s.reservations := rfl
@[simp] theorem setEye_holders (e : EyeIx) (x : Eye) : (s.setEye e x).holders = s.holders := rfl
@[simp] theorem setEye_trainCause (e : EyeIx) (x : Eye) : (s.setEye e x).trainCause = s.trainCause := rfl
@[simp] theorem setEye_lineHold (e : EyeIx) (x : Eye) : (s.setEye e x).lineHold = s.lineHold := rfl
@[simp] theorem setEye_announced (e : EyeIx) (x : Eye) : (s.setEye e x).announced = s.announced := rfl
@[simp] theorem setEye_announcedReason (e : EyeIx) (x : Eye) : (s.setEye e x).announcedReason = s.announcedReason := rfl
@[simp] theorem setEye_highMark (e : EyeIx) (x : Eye) : (s.setEye e x).highMark = s.highMark := rfl
@[simp] theorem setEye_lowMark (e : EyeIx) (x : Eye) : (s.setEye e x).lowMark = s.lowMark := rfl
@[simp] theorem setEye_slip (e : EyeIx) (x : Eye) : (s.setEye e x).slip = s.slip := rfl
@[simp] theorem setEye_slipLoaded (e : EyeIx) (x : Eye) : (s.setEye e x).slipLoaded = s.slipLoaded := rfl
@[simp] theorem setEye_ironer (e : EyeIx) (x : Eye) : (s.setEye e x).ironer = s.ironer := rfl
@[simp] theorem setEye_wrapAlarm (e : EyeIx) (x : Eye) : (s.setEye e x).wrapAlarm = s.wrapAlarm := rfl
@[simp] theorem setEye_exitRejectNext (e : EyeIx) (x : Eye) : (s.setEye e x).exitRejectNext = s.exitRejectNext := rfl
@[simp] theorem setEye_dests (e : EyeIx) (x : Eye) : (s.setEye e x).dests = s.dests := rfl
@[simp] theorem setEye_rejectDest (e : EyeIx) (x : Eye) : (s.setEye e x).rejectDest = s.rejectDest := rfl
@[simp] theorem setEye_doubtfulToClass (e : EyeIx) (x : Eye) : (s.setEye e x).doubtfulToClass = s.doubtfulToClass := rfl
@[simp] theorem setEye_lots (e : EyeIx) (x : Eye) : (s.setEye e x).lots = s.lots := rfl
@[simp] theorem setEye_closureList (e : EyeIx) (x : Eye) : (s.setEye e x).closureList = s.closureList := rfl
@[simp] theorem setEye_queue (e : EyeIx) (x : Eye) : (s.setEye e x).queue = s.queue := rfl
@[simp] theorem setEye_busIdle (e : EyeIx) (x : Eye) : (s.setEye e x).busIdle = s.busIdle := rfl
@[simp] theorem setEye_passageSeq (e : EyeIx) (x : Eye) : (s.setEye e x).passageSeq = s.passageSeq := rfl
@[simp] theorem setEye_watch (e : EyeIx) (x : Eye) : (s.setEye e x).watch = s.watch := rfl
@[simp] theorem setEye_address (e : EyeIx) (x : Eye) : (s.setEye e x).address = s.address := rfl
@[simp] theorem setEye_lastJoin (e : EyeIx) (x : Eye) : (s.setEye e x).lastJoin = s.lastJoin := rfl
@[simp] theorem setEye_mode (e : EyeIx) (x : Eye) : (s.setEye e x).mode = s.mode := rfl
@[simp] theorem setEye_role (e : EyeIx) (x : Eye) : (s.setEye e x).role = s.role := rfl
@[simp] theorem setEye_store (e : EyeIx) (x : Eye) : (s.setEye e x).store = s.store := rfl
@[simp] theorem setEye_baseWidth (e : EyeIx) (x : Eye) : (s.setEye e x).baseWidth = s.baseWidth := rfl
@[simp] theorem setEye_propWidth (e : EyeIx) (x : Eye) : (s.setEye e x).propWidth = s.propWidth := rfl
@[simp] theorem setEye_classes (e : EyeIx) (x : Eye) : (s.setEye e x).classes = s.classes := rfl
@[simp] theorem setEye_settling (e : EyeIx) (x : Eye) : (s.setEye e x).settling = s.settling := rfl
@[simp] theorem setEye_stopPin (e : EyeIx) (x : Eye) : (s.setEye e x).stopPin = s.stopPin := rfl
@[simp] theorem setEye_alertMask (e : EyeIx) (x : Eye) : (s.setEye e x).alertMask = s.alertMask := rfl
@[simp] theorem setEye_alertPin (e : EyeIx) (x : Eye) : (s.setEye e x).alertPin = s.alertPin := rfl
@[simp] theorem setEye_faults (e : EyeIx) (x : Eye) : (s.setEye e x).faults = s.faults := rfl
@[simp] theorem setEye_overflow (e : EyeIx) (x : Eye) : (s.setEye e x).overflow = s.overflow := rfl
@[simp] theorem setEye_response (e : EyeIx) (x : Eye) : (s.setEye e x).response = s.response := rfl
@[simp] theorem setEye_freeDraws (e : EyeIx) (x : Eye) : (s.setEye e x).freeDraws = s.freeDraws := rfl
@[simp] theorem setEye_pending (e : EyeIx) (x : Eye) : (s.setEye e x).pending = s.pending := rfl

/-! ### setChannel -/

@[simp] theorem setChannel_travelA (c : ChannelIx) (x : Channel) : (s.setChannel c x).travelA = s.travelA := rfl
@[simp] theorem setChannel_travelB (c : ChannelIx) (x : Channel) : (s.setChannel c x).travelB = s.travelB := rfl
@[simp] theorem setChannel_lastStep (c : ChannelIx) (x : Channel) : (s.setChannel c x).lastStep = s.lastStep := rfl
@[simp] theorem setChannel_freshWindows (c : ChannelIx) (x : Channel) : (s.setChannel c x).freshWindows = s.freshWindows := rfl
@[simp] theorem setChannel_undoneReserves (c : ChannelIx) (x : Channel) : (s.setChannel c x).undoneReserves = s.undoneReserves := rfl
@[simp] theorem setChannel_eyes (c : ChannelIx) (x : Channel) : (s.setChannel c x).eyes = s.eyes := rfl
@[simp] theorem setChannel_train (c : ChannelIx) (x : Channel) : (s.setChannel c x).train = s.train := rfl
@[simp] theorem setChannel_admissions (c : ChannelIx) (x : Channel) : (s.setChannel c x).admissions = s.admissions := rfl
@[simp] theorem setChannel_serial (c : ChannelIx) (x : Channel) : (s.setChannel c x).serial = s.serial := rfl
@[simp] theorem setChannel_waiting (c : ChannelIx) (x : Channel) : (s.setChannel c x).waiting = s.waiting := rfl
@[simp] theorem setChannel_gates (c : ChannelIx) (x : Channel) : (s.setChannel c x).gates = s.gates := rfl
@[simp] theorem setChannel_reservations (c : ChannelIx) (x : Channel) : (s.setChannel c x).reservations = s.reservations := rfl
@[simp] theorem setChannel_holders (c : ChannelIx) (x : Channel) : (s.setChannel c x).holders = s.holders := rfl
@[simp] theorem setChannel_trainCause (c : ChannelIx) (x : Channel) : (s.setChannel c x).trainCause = s.trainCause := rfl
@[simp] theorem setChannel_lineHold (c : ChannelIx) (x : Channel) : (s.setChannel c x).lineHold = s.lineHold := rfl
@[simp] theorem setChannel_announced (c : ChannelIx) (x : Channel) : (s.setChannel c x).announced = s.announced := rfl
@[simp] theorem setChannel_announcedReason (c : ChannelIx) (x : Channel) : (s.setChannel c x).announcedReason = s.announcedReason := rfl
@[simp] theorem setChannel_highMark (c : ChannelIx) (x : Channel) : (s.setChannel c x).highMark = s.highMark := rfl
@[simp] theorem setChannel_lowMark (c : ChannelIx) (x : Channel) : (s.setChannel c x).lowMark = s.lowMark := rfl
@[simp] theorem setChannel_slip (c : ChannelIx) (x : Channel) : (s.setChannel c x).slip = s.slip := rfl
@[simp] theorem setChannel_slipLoaded (c : ChannelIx) (x : Channel) : (s.setChannel c x).slipLoaded = s.slipLoaded := rfl
@[simp] theorem setChannel_ironer (c : ChannelIx) (x : Channel) : (s.setChannel c x).ironer = s.ironer := rfl
@[simp] theorem setChannel_wrapAlarm (c : ChannelIx) (x : Channel) : (s.setChannel c x).wrapAlarm = s.wrapAlarm := rfl
@[simp] theorem setChannel_exitRejectNext (c : ChannelIx) (x : Channel) : (s.setChannel c x).exitRejectNext = s.exitRejectNext := rfl
@[simp] theorem setChannel_dests (c : ChannelIx) (x : Channel) : (s.setChannel c x).dests = s.dests := rfl
@[simp] theorem setChannel_rejectDest (c : ChannelIx) (x : Channel) : (s.setChannel c x).rejectDest = s.rejectDest := rfl
@[simp] theorem setChannel_doubtfulToClass (c : ChannelIx) (x : Channel) : (s.setChannel c x).doubtfulToClass = s.doubtfulToClass := rfl
@[simp] theorem setChannel_lots (c : ChannelIx) (x : Channel) : (s.setChannel c x).lots = s.lots := rfl
@[simp] theorem setChannel_closureList (c : ChannelIx) (x : Channel) : (s.setChannel c x).closureList = s.closureList := rfl
@[simp] theorem setChannel_queue (c : ChannelIx) (x : Channel) : (s.setChannel c x).queue = s.queue := rfl
@[simp] theorem setChannel_busIdle (c : ChannelIx) (x : Channel) : (s.setChannel c x).busIdle = s.busIdle := rfl
@[simp] theorem setChannel_passageSeq (c : ChannelIx) (x : Channel) : (s.setChannel c x).passageSeq = s.passageSeq := rfl
@[simp] theorem setChannel_watch (c : ChannelIx) (x : Channel) : (s.setChannel c x).watch = s.watch := rfl
@[simp] theorem setChannel_address (c : ChannelIx) (x : Channel) : (s.setChannel c x).address = s.address := rfl
@[simp] theorem setChannel_lastJoin (c : ChannelIx) (x : Channel) : (s.setChannel c x).lastJoin = s.lastJoin := rfl
@[simp] theorem setChannel_mode (c : ChannelIx) (x : Channel) : (s.setChannel c x).mode = s.mode := rfl
@[simp] theorem setChannel_role (c : ChannelIx) (x : Channel) : (s.setChannel c x).role = s.role := rfl
@[simp] theorem setChannel_store (c : ChannelIx) (x : Channel) : (s.setChannel c x).store = s.store := rfl
@[simp] theorem setChannel_baseWidth (c : ChannelIx) (x : Channel) : (s.setChannel c x).baseWidth = s.baseWidth := rfl
@[simp] theorem setChannel_propWidth (c : ChannelIx) (x : Channel) : (s.setChannel c x).propWidth = s.propWidth := rfl
@[simp] theorem setChannel_classes (c : ChannelIx) (x : Channel) : (s.setChannel c x).classes = s.classes := rfl
@[simp] theorem setChannel_settling (c : ChannelIx) (x : Channel) : (s.setChannel c x).settling = s.settling := rfl
@[simp] theorem setChannel_stopPin (c : ChannelIx) (x : Channel) : (s.setChannel c x).stopPin = s.stopPin := rfl
@[simp] theorem setChannel_alertMask (c : ChannelIx) (x : Channel) : (s.setChannel c x).alertMask = s.alertMask := rfl
@[simp] theorem setChannel_alertPin (c : ChannelIx) (x : Channel) : (s.setChannel c x).alertPin = s.alertPin := rfl
@[simp] theorem setChannel_faults (c : ChannelIx) (x : Channel) : (s.setChannel c x).faults = s.faults := rfl
@[simp] theorem setChannel_overflow (c : ChannelIx) (x : Channel) : (s.setChannel c x).overflow = s.overflow := rfl
@[simp] theorem setChannel_response (c : ChannelIx) (x : Channel) : (s.setChannel c x).response = s.response := rfl
@[simp] theorem setChannel_freeDraws (c : ChannelIx) (x : Channel) : (s.setChannel c x).freeDraws = s.freeDraws := rfl
@[simp] theorem setChannel_pending (c : ChannelIx) (x : Channel) : (s.setChannel c x).pending = s.pending := rfl

/-! ### setGate -/

@[simp] theorem setGate_travelA (g : GateIx) (x : Gate) : (s.setGate g x).travelA = s.travelA := rfl
@[simp] theorem setGate_travelB (g : GateIx) (x : Gate) : (s.setGate g x).travelB = s.travelB := rfl
@[simp] theorem setGate_lastStep (g : GateIx) (x : Gate) : (s.setGate g x).lastStep = s.lastStep := rfl
@[simp] theorem setGate_freshWindows (g : GateIx) (x : Gate) : (s.setGate g x).freshWindows = s.freshWindows := rfl
@[simp] theorem setGate_undoneReserves (g : GateIx) (x : Gate) : (s.setGate g x).undoneReserves = s.undoneReserves := rfl
@[simp] theorem setGate_eyes (g : GateIx) (x : Gate) : (s.setGate g x).eyes = s.eyes := rfl
@[simp] theorem setGate_channels (g : GateIx) (x : Gate) : (s.setGate g x).channels = s.channels := rfl
@[simp] theorem setGate_train (g : GateIx) (x : Gate) : (s.setGate g x).train = s.train := rfl
@[simp] theorem setGate_admissions (g : GateIx) (x : Gate) : (s.setGate g x).admissions = s.admissions := rfl
@[simp] theorem setGate_serial (g : GateIx) (x : Gate) : (s.setGate g x).serial = s.serial := rfl
@[simp] theorem setGate_waiting (g : GateIx) (x : Gate) : (s.setGate g x).waiting = s.waiting := rfl
@[simp] theorem setGate_reservations (g : GateIx) (x : Gate) : (s.setGate g x).reservations = s.reservations := rfl
@[simp] theorem setGate_holders (g : GateIx) (x : Gate) : (s.setGate g x).holders = s.holders := rfl
@[simp] theorem setGate_trainCause (g : GateIx) (x : Gate) : (s.setGate g x).trainCause = s.trainCause := rfl
@[simp] theorem setGate_lineHold (g : GateIx) (x : Gate) : (s.setGate g x).lineHold = s.lineHold := rfl
@[simp] theorem setGate_announced (g : GateIx) (x : Gate) : (s.setGate g x).announced = s.announced := rfl
@[simp] theorem setGate_announcedReason (g : GateIx) (x : Gate) : (s.setGate g x).announcedReason = s.announcedReason := rfl
@[simp] theorem setGate_highMark (g : GateIx) (x : Gate) : (s.setGate g x).highMark = s.highMark := rfl
@[simp] theorem setGate_lowMark (g : GateIx) (x : Gate) : (s.setGate g x).lowMark = s.lowMark := rfl
@[simp] theorem setGate_slip (g : GateIx) (x : Gate) : (s.setGate g x).slip = s.slip := rfl
@[simp] theorem setGate_slipLoaded (g : GateIx) (x : Gate) : (s.setGate g x).slipLoaded = s.slipLoaded := rfl
@[simp] theorem setGate_ironer (g : GateIx) (x : Gate) : (s.setGate g x).ironer = s.ironer := rfl
@[simp] theorem setGate_wrapAlarm (g : GateIx) (x : Gate) : (s.setGate g x).wrapAlarm = s.wrapAlarm := rfl
@[simp] theorem setGate_exitRejectNext (g : GateIx) (x : Gate) : (s.setGate g x).exitRejectNext = s.exitRejectNext := rfl
@[simp] theorem setGate_dests (g : GateIx) (x : Gate) : (s.setGate g x).dests = s.dests := rfl
@[simp] theorem setGate_rejectDest (g : GateIx) (x : Gate) : (s.setGate g x).rejectDest = s.rejectDest := rfl
@[simp] theorem setGate_doubtfulToClass (g : GateIx) (x : Gate) : (s.setGate g x).doubtfulToClass = s.doubtfulToClass := rfl
@[simp] theorem setGate_lots (g : GateIx) (x : Gate) : (s.setGate g x).lots = s.lots := rfl
@[simp] theorem setGate_closureList (g : GateIx) (x : Gate) : (s.setGate g x).closureList = s.closureList := rfl
@[simp] theorem setGate_queue (g : GateIx) (x : Gate) : (s.setGate g x).queue = s.queue := rfl
@[simp] theorem setGate_busIdle (g : GateIx) (x : Gate) : (s.setGate g x).busIdle = s.busIdle := rfl
@[simp] theorem setGate_passageSeq (g : GateIx) (x : Gate) : (s.setGate g x).passageSeq = s.passageSeq := rfl
@[simp] theorem setGate_watch (g : GateIx) (x : Gate) : (s.setGate g x).watch = s.watch := rfl
@[simp] theorem setGate_address (g : GateIx) (x : Gate) : (s.setGate g x).address = s.address := rfl
@[simp] theorem setGate_lastJoin (g : GateIx) (x : Gate) : (s.setGate g x).lastJoin = s.lastJoin := rfl
@[simp] theorem setGate_mode (g : GateIx) (x : Gate) : (s.setGate g x).mode = s.mode := rfl
@[simp] theorem setGate_role (g : GateIx) (x : Gate) : (s.setGate g x).role = s.role := rfl
@[simp] theorem setGate_store (g : GateIx) (x : Gate) : (s.setGate g x).store = s.store := rfl
@[simp] theorem setGate_baseWidth (g : GateIx) (x : Gate) : (s.setGate g x).baseWidth = s.baseWidth := rfl
@[simp] theorem setGate_propWidth (g : GateIx) (x : Gate) : (s.setGate g x).propWidth = s.propWidth := rfl
@[simp] theorem setGate_classes (g : GateIx) (x : Gate) : (s.setGate g x).classes = s.classes := rfl
@[simp] theorem setGate_settling (g : GateIx) (x : Gate) : (s.setGate g x).settling = s.settling := rfl
@[simp] theorem setGate_stopPin (g : GateIx) (x : Gate) : (s.setGate g x).stopPin = s.stopPin := rfl
@[simp] theorem setGate_alertMask (g : GateIx) (x : Gate) : (s.setGate g x).alertMask = s.alertMask := rfl
@[simp] theorem setGate_alertPin (g : GateIx) (x : Gate) : (s.setGate g x).alertPin = s.alertPin := rfl
@[simp] theorem setGate_faults (g : GateIx) (x : Gate) : (s.setGate g x).faults = s.faults := rfl
@[simp] theorem setGate_overflow (g : GateIx) (x : Gate) : (s.setGate g x).overflow = s.overflow := rfl
@[simp] theorem setGate_response (g : GateIx) (x : Gate) : (s.setGate g x).response = s.response := rfl
@[simp] theorem setGate_freeDraws (g : GateIx) (x : Gate) : (s.setGate g x).freeDraws = s.freeDraws := rfl
@[simp] theorem setGate_pending (g : GateIx) (x : Gate) : (s.setGate g x).pending = s.pending := rfl

/-! ### setDest -/

@[simp] theorem setDest_travelA (d : DestIx) (x : Dest) : (s.setDest d x).travelA = s.travelA := rfl
@[simp] theorem setDest_travelB (d : DestIx) (x : Dest) : (s.setDest d x).travelB = s.travelB := rfl
@[simp] theorem setDest_lastStep (d : DestIx) (x : Dest) : (s.setDest d x).lastStep = s.lastStep := rfl
@[simp] theorem setDest_freshWindows (d : DestIx) (x : Dest) : (s.setDest d x).freshWindows = s.freshWindows := rfl
@[simp] theorem setDest_undoneReserves (d : DestIx) (x : Dest) : (s.setDest d x).undoneReserves = s.undoneReserves := rfl
@[simp] theorem setDest_eyes (d : DestIx) (x : Dest) : (s.setDest d x).eyes = s.eyes := rfl
@[simp] theorem setDest_channels (d : DestIx) (x : Dest) : (s.setDest d x).channels = s.channels := rfl
@[simp] theorem setDest_train (d : DestIx) (x : Dest) : (s.setDest d x).train = s.train := rfl
@[simp] theorem setDest_admissions (d : DestIx) (x : Dest) : (s.setDest d x).admissions = s.admissions := rfl
@[simp] theorem setDest_serial (d : DestIx) (x : Dest) : (s.setDest d x).serial = s.serial := rfl
@[simp] theorem setDest_waiting (d : DestIx) (x : Dest) : (s.setDest d x).waiting = s.waiting := rfl
@[simp] theorem setDest_gates (d : DestIx) (x : Dest) : (s.setDest d x).gates = s.gates := rfl
@[simp] theorem setDest_reservations (d : DestIx) (x : Dest) : (s.setDest d x).reservations = s.reservations := rfl
@[simp] theorem setDest_holders (d : DestIx) (x : Dest) : (s.setDest d x).holders = s.holders := rfl
@[simp] theorem setDest_trainCause (d : DestIx) (x : Dest) : (s.setDest d x).trainCause = s.trainCause := rfl
@[simp] theorem setDest_lineHold (d : DestIx) (x : Dest) : (s.setDest d x).lineHold = s.lineHold := rfl
@[simp] theorem setDest_announced (d : DestIx) (x : Dest) : (s.setDest d x).announced = s.announced := rfl
@[simp] theorem setDest_announcedReason (d : DestIx) (x : Dest) : (s.setDest d x).announcedReason = s.announcedReason := rfl
@[simp] theorem setDest_highMark (d : DestIx) (x : Dest) : (s.setDest d x).highMark = s.highMark := rfl
@[simp] theorem setDest_lowMark (d : DestIx) (x : Dest) : (s.setDest d x).lowMark = s.lowMark := rfl
@[simp] theorem setDest_slip (d : DestIx) (x : Dest) : (s.setDest d x).slip = s.slip := rfl
@[simp] theorem setDest_slipLoaded (d : DestIx) (x : Dest) : (s.setDest d x).slipLoaded = s.slipLoaded := rfl
@[simp] theorem setDest_ironer (d : DestIx) (x : Dest) : (s.setDest d x).ironer = s.ironer := rfl
@[simp] theorem setDest_wrapAlarm (d : DestIx) (x : Dest) : (s.setDest d x).wrapAlarm = s.wrapAlarm := rfl
@[simp] theorem setDest_exitRejectNext (d : DestIx) (x : Dest) : (s.setDest d x).exitRejectNext = s.exitRejectNext := rfl
@[simp] theorem setDest_rejectDest (d : DestIx) (x : Dest) : (s.setDest d x).rejectDest = s.rejectDest := rfl
@[simp] theorem setDest_doubtfulToClass (d : DestIx) (x : Dest) : (s.setDest d x).doubtfulToClass = s.doubtfulToClass := rfl
@[simp] theorem setDest_lots (d : DestIx) (x : Dest) : (s.setDest d x).lots = s.lots := rfl
@[simp] theorem setDest_closureList (d : DestIx) (x : Dest) : (s.setDest d x).closureList = s.closureList := rfl
@[simp] theorem setDest_queue (d : DestIx) (x : Dest) : (s.setDest d x).queue = s.queue := rfl
@[simp] theorem setDest_busIdle (d : DestIx) (x : Dest) : (s.setDest d x).busIdle = s.busIdle := rfl
@[simp] theorem setDest_passageSeq (d : DestIx) (x : Dest) : (s.setDest d x).passageSeq = s.passageSeq := rfl
@[simp] theorem setDest_watch (d : DestIx) (x : Dest) : (s.setDest d x).watch = s.watch := rfl
@[simp] theorem setDest_address (d : DestIx) (x : Dest) : (s.setDest d x).address = s.address := rfl
@[simp] theorem setDest_lastJoin (d : DestIx) (x : Dest) : (s.setDest d x).lastJoin = s.lastJoin := rfl
@[simp] theorem setDest_mode (d : DestIx) (x : Dest) : (s.setDest d x).mode = s.mode := rfl
@[simp] theorem setDest_role (d : DestIx) (x : Dest) : (s.setDest d x).role = s.role := rfl
@[simp] theorem setDest_store (d : DestIx) (x : Dest) : (s.setDest d x).store = s.store := rfl
@[simp] theorem setDest_baseWidth (d : DestIx) (x : Dest) : (s.setDest d x).baseWidth = s.baseWidth := rfl
@[simp] theorem setDest_propWidth (d : DestIx) (x : Dest) : (s.setDest d x).propWidth = s.propWidth := rfl
@[simp] theorem setDest_classes (d : DestIx) (x : Dest) : (s.setDest d x).classes = s.classes := rfl
@[simp] theorem setDest_settling (d : DestIx) (x : Dest) : (s.setDest d x).settling = s.settling := rfl
@[simp] theorem setDest_stopPin (d : DestIx) (x : Dest) : (s.setDest d x).stopPin = s.stopPin := rfl
@[simp] theorem setDest_alertMask (d : DestIx) (x : Dest) : (s.setDest d x).alertMask = s.alertMask := rfl
@[simp] theorem setDest_alertPin (d : DestIx) (x : Dest) : (s.setDest d x).alertPin = s.alertPin := rfl
@[simp] theorem setDest_faults (d : DestIx) (x : Dest) : (s.setDest d x).faults = s.faults := rfl
@[simp] theorem setDest_overflow (d : DestIx) (x : Dest) : (s.setDest d x).overflow = s.overflow := rfl
@[simp] theorem setDest_response (d : DestIx) (x : Dest) : (s.setDest d x).response = s.response := rfl
@[simp] theorem setDest_freeDraws (d : DestIx) (x : Dest) : (s.setDest d x).freeDraws = s.freeDraws := rfl
@[simp] theorem setDest_pending (d : DestIx) (x : Dest) : (s.setDest d x).pending = s.pending := rfl

/-! ### setLotSlot -/

@[simp] theorem setLotSlot_travelA (k : Fin 16) (x : Option LotEntry) : (s.setLotSlot k x).travelA = s.travelA := rfl
@[simp] theorem setLotSlot_travelB (k : Fin 16) (x : Option LotEntry) : (s.setLotSlot k x).travelB = s.travelB := rfl
@[simp] theorem setLotSlot_lastStep (k : Fin 16) (x : Option LotEntry) : (s.setLotSlot k x).lastStep = s.lastStep := rfl
@[simp] theorem setLotSlot_freshWindows (k : Fin 16) (x : Option LotEntry) : (s.setLotSlot k x).freshWindows = s.freshWindows := rfl
@[simp] theorem setLotSlot_undoneReserves (k : Fin 16) (x : Option LotEntry) : (s.setLotSlot k x).undoneReserves = s.undoneReserves := rfl
@[simp] theorem setLotSlot_eyes (k : Fin 16) (x : Option LotEntry) : (s.setLotSlot k x).eyes = s.eyes := rfl
@[simp] theorem setLotSlot_channels (k : Fin 16) (x : Option LotEntry) : (s.setLotSlot k x).channels = s.channels := rfl
@[simp] theorem setLotSlot_train (k : Fin 16) (x : Option LotEntry) : (s.setLotSlot k x).train = s.train := rfl
@[simp] theorem setLotSlot_admissions (k : Fin 16) (x : Option LotEntry) : (s.setLotSlot k x).admissions = s.admissions := rfl
@[simp] theorem setLotSlot_serial (k : Fin 16) (x : Option LotEntry) : (s.setLotSlot k x).serial = s.serial := rfl
@[simp] theorem setLotSlot_waiting (k : Fin 16) (x : Option LotEntry) : (s.setLotSlot k x).waiting = s.waiting := rfl
@[simp] theorem setLotSlot_gates (k : Fin 16) (x : Option LotEntry) : (s.setLotSlot k x).gates = s.gates := rfl
@[simp] theorem setLotSlot_reservations (k : Fin 16) (x : Option LotEntry) : (s.setLotSlot k x).reservations = s.reservations := rfl
@[simp] theorem setLotSlot_holders (k : Fin 16) (x : Option LotEntry) : (s.setLotSlot k x).holders = s.holders := rfl
@[simp] theorem setLotSlot_trainCause (k : Fin 16) (x : Option LotEntry) : (s.setLotSlot k x).trainCause = s.trainCause := rfl
@[simp] theorem setLotSlot_lineHold (k : Fin 16) (x : Option LotEntry) : (s.setLotSlot k x).lineHold = s.lineHold := rfl
@[simp] theorem setLotSlot_announced (k : Fin 16) (x : Option LotEntry) : (s.setLotSlot k x).announced = s.announced := rfl
@[simp] theorem setLotSlot_announcedReason (k : Fin 16) (x : Option LotEntry) : (s.setLotSlot k x).announcedReason = s.announcedReason := rfl
@[simp] theorem setLotSlot_highMark (k : Fin 16) (x : Option LotEntry) : (s.setLotSlot k x).highMark = s.highMark := rfl
@[simp] theorem setLotSlot_lowMark (k : Fin 16) (x : Option LotEntry) : (s.setLotSlot k x).lowMark = s.lowMark := rfl
@[simp] theorem setLotSlot_slip (k : Fin 16) (x : Option LotEntry) : (s.setLotSlot k x).slip = s.slip := rfl
@[simp] theorem setLotSlot_slipLoaded (k : Fin 16) (x : Option LotEntry) : (s.setLotSlot k x).slipLoaded = s.slipLoaded := rfl
@[simp] theorem setLotSlot_ironer (k : Fin 16) (x : Option LotEntry) : (s.setLotSlot k x).ironer = s.ironer := rfl
@[simp] theorem setLotSlot_wrapAlarm (k : Fin 16) (x : Option LotEntry) : (s.setLotSlot k x).wrapAlarm = s.wrapAlarm := rfl
@[simp] theorem setLotSlot_exitRejectNext (k : Fin 16) (x : Option LotEntry) : (s.setLotSlot k x).exitRejectNext = s.exitRejectNext := rfl
@[simp] theorem setLotSlot_dests (k : Fin 16) (x : Option LotEntry) : (s.setLotSlot k x).dests = s.dests := rfl
@[simp] theorem setLotSlot_rejectDest (k : Fin 16) (x : Option LotEntry) : (s.setLotSlot k x).rejectDest = s.rejectDest := rfl
@[simp] theorem setLotSlot_doubtfulToClass (k : Fin 16) (x : Option LotEntry) : (s.setLotSlot k x).doubtfulToClass = s.doubtfulToClass := rfl
@[simp] theorem setLotSlot_closureList (k : Fin 16) (x : Option LotEntry) : (s.setLotSlot k x).closureList = s.closureList := rfl
@[simp] theorem setLotSlot_queue (k : Fin 16) (x : Option LotEntry) : (s.setLotSlot k x).queue = s.queue := rfl
@[simp] theorem setLotSlot_busIdle (k : Fin 16) (x : Option LotEntry) : (s.setLotSlot k x).busIdle = s.busIdle := rfl
@[simp] theorem setLotSlot_passageSeq (k : Fin 16) (x : Option LotEntry) : (s.setLotSlot k x).passageSeq = s.passageSeq := rfl
@[simp] theorem setLotSlot_watch (k : Fin 16) (x : Option LotEntry) : (s.setLotSlot k x).watch = s.watch := rfl
@[simp] theorem setLotSlot_address (k : Fin 16) (x : Option LotEntry) : (s.setLotSlot k x).address = s.address := rfl
@[simp] theorem setLotSlot_lastJoin (k : Fin 16) (x : Option LotEntry) : (s.setLotSlot k x).lastJoin = s.lastJoin := rfl
@[simp] theorem setLotSlot_mode (k : Fin 16) (x : Option LotEntry) : (s.setLotSlot k x).mode = s.mode := rfl
@[simp] theorem setLotSlot_role (k : Fin 16) (x : Option LotEntry) : (s.setLotSlot k x).role = s.role := rfl
@[simp] theorem setLotSlot_store (k : Fin 16) (x : Option LotEntry) : (s.setLotSlot k x).store = s.store := rfl
@[simp] theorem setLotSlot_baseWidth (k : Fin 16) (x : Option LotEntry) : (s.setLotSlot k x).baseWidth = s.baseWidth := rfl
@[simp] theorem setLotSlot_propWidth (k : Fin 16) (x : Option LotEntry) : (s.setLotSlot k x).propWidth = s.propWidth := rfl
@[simp] theorem setLotSlot_classes (k : Fin 16) (x : Option LotEntry) : (s.setLotSlot k x).classes = s.classes := rfl
@[simp] theorem setLotSlot_settling (k : Fin 16) (x : Option LotEntry) : (s.setLotSlot k x).settling = s.settling := rfl
@[simp] theorem setLotSlot_stopPin (k : Fin 16) (x : Option LotEntry) : (s.setLotSlot k x).stopPin = s.stopPin := rfl
@[simp] theorem setLotSlot_alertMask (k : Fin 16) (x : Option LotEntry) : (s.setLotSlot k x).alertMask = s.alertMask := rfl
@[simp] theorem setLotSlot_alertPin (k : Fin 16) (x : Option LotEntry) : (s.setLotSlot k x).alertPin = s.alertPin := rfl
@[simp] theorem setLotSlot_faults (k : Fin 16) (x : Option LotEntry) : (s.setLotSlot k x).faults = s.faults := rfl
@[simp] theorem setLotSlot_overflow (k : Fin 16) (x : Option LotEntry) : (s.setLotSlot k x).overflow = s.overflow := rfl
@[simp] theorem setLotSlot_response (k : Fin 16) (x : Option LotEntry) : (s.setLotSlot k x).response = s.response := rfl
@[simp] theorem setLotSlot_freeDraws (k : Fin 16) (x : Option LotEntry) : (s.setLotSlot k x).freeDraws = s.freeDraws := rfl
@[simp] theorem setLotSlot_pending (k : Fin 16) (x : Option LotEntry) : (s.setLotSlot k x).pending = s.pending := rfl

/-! ### setHolder -/

@[simp] theorem setHolder_travelA (a : Addr) (x : Option (BitVec 5)) : (s.setHolder a x).travelA = s.travelA := rfl
@[simp] theorem setHolder_travelB (a : Addr) (x : Option (BitVec 5)) : (s.setHolder a x).travelB = s.travelB := rfl
@[simp] theorem setHolder_lastStep (a : Addr) (x : Option (BitVec 5)) : (s.setHolder a x).lastStep = s.lastStep := rfl
@[simp] theorem setHolder_freshWindows (a : Addr) (x : Option (BitVec 5)) : (s.setHolder a x).freshWindows = s.freshWindows := rfl
@[simp] theorem setHolder_undoneReserves (a : Addr) (x : Option (BitVec 5)) : (s.setHolder a x).undoneReserves = s.undoneReserves := rfl
@[simp] theorem setHolder_eyes (a : Addr) (x : Option (BitVec 5)) : (s.setHolder a x).eyes = s.eyes := rfl
@[simp] theorem setHolder_channels (a : Addr) (x : Option (BitVec 5)) : (s.setHolder a x).channels = s.channels := rfl
@[simp] theorem setHolder_train (a : Addr) (x : Option (BitVec 5)) : (s.setHolder a x).train = s.train := rfl
@[simp] theorem setHolder_admissions (a : Addr) (x : Option (BitVec 5)) : (s.setHolder a x).admissions = s.admissions := rfl
@[simp] theorem setHolder_serial (a : Addr) (x : Option (BitVec 5)) : (s.setHolder a x).serial = s.serial := rfl
@[simp] theorem setHolder_waiting (a : Addr) (x : Option (BitVec 5)) : (s.setHolder a x).waiting = s.waiting := rfl
@[simp] theorem setHolder_gates (a : Addr) (x : Option (BitVec 5)) : (s.setHolder a x).gates = s.gates := rfl
@[simp] theorem setHolder_reservations (a : Addr) (x : Option (BitVec 5)) : (s.setHolder a x).reservations = s.reservations := rfl
@[simp] theorem setHolder_trainCause (a : Addr) (x : Option (BitVec 5)) : (s.setHolder a x).trainCause = s.trainCause := rfl
@[simp] theorem setHolder_lineHold (a : Addr) (x : Option (BitVec 5)) : (s.setHolder a x).lineHold = s.lineHold := rfl
@[simp] theorem setHolder_announced (a : Addr) (x : Option (BitVec 5)) : (s.setHolder a x).announced = s.announced := rfl
@[simp] theorem setHolder_announcedReason (a : Addr) (x : Option (BitVec 5)) : (s.setHolder a x).announcedReason = s.announcedReason := rfl
@[simp] theorem setHolder_highMark (a : Addr) (x : Option (BitVec 5)) : (s.setHolder a x).highMark = s.highMark := rfl
@[simp] theorem setHolder_lowMark (a : Addr) (x : Option (BitVec 5)) : (s.setHolder a x).lowMark = s.lowMark := rfl
@[simp] theorem setHolder_slip (a : Addr) (x : Option (BitVec 5)) : (s.setHolder a x).slip = s.slip := rfl
@[simp] theorem setHolder_slipLoaded (a : Addr) (x : Option (BitVec 5)) : (s.setHolder a x).slipLoaded = s.slipLoaded := rfl
@[simp] theorem setHolder_ironer (a : Addr) (x : Option (BitVec 5)) : (s.setHolder a x).ironer = s.ironer := rfl
@[simp] theorem setHolder_wrapAlarm (a : Addr) (x : Option (BitVec 5)) : (s.setHolder a x).wrapAlarm = s.wrapAlarm := rfl
@[simp] theorem setHolder_exitRejectNext (a : Addr) (x : Option (BitVec 5)) : (s.setHolder a x).exitRejectNext = s.exitRejectNext := rfl
@[simp] theorem setHolder_dests (a : Addr) (x : Option (BitVec 5)) : (s.setHolder a x).dests = s.dests := rfl
@[simp] theorem setHolder_rejectDest (a : Addr) (x : Option (BitVec 5)) : (s.setHolder a x).rejectDest = s.rejectDest := rfl
@[simp] theorem setHolder_doubtfulToClass (a : Addr) (x : Option (BitVec 5)) : (s.setHolder a x).doubtfulToClass = s.doubtfulToClass := rfl
@[simp] theorem setHolder_lots (a : Addr) (x : Option (BitVec 5)) : (s.setHolder a x).lots = s.lots := rfl
@[simp] theorem setHolder_closureList (a : Addr) (x : Option (BitVec 5)) : (s.setHolder a x).closureList = s.closureList := rfl
@[simp] theorem setHolder_queue (a : Addr) (x : Option (BitVec 5)) : (s.setHolder a x).queue = s.queue := rfl
@[simp] theorem setHolder_busIdle (a : Addr) (x : Option (BitVec 5)) : (s.setHolder a x).busIdle = s.busIdle := rfl
@[simp] theorem setHolder_passageSeq (a : Addr) (x : Option (BitVec 5)) : (s.setHolder a x).passageSeq = s.passageSeq := rfl
@[simp] theorem setHolder_watch (a : Addr) (x : Option (BitVec 5)) : (s.setHolder a x).watch = s.watch := rfl
@[simp] theorem setHolder_address (a : Addr) (x : Option (BitVec 5)) : (s.setHolder a x).address = s.address := rfl
@[simp] theorem setHolder_lastJoin (a : Addr) (x : Option (BitVec 5)) : (s.setHolder a x).lastJoin = s.lastJoin := rfl
@[simp] theorem setHolder_mode (a : Addr) (x : Option (BitVec 5)) : (s.setHolder a x).mode = s.mode := rfl
@[simp] theorem setHolder_role (a : Addr) (x : Option (BitVec 5)) : (s.setHolder a x).role = s.role := rfl
@[simp] theorem setHolder_store (a : Addr) (x : Option (BitVec 5)) : (s.setHolder a x).store = s.store := rfl
@[simp] theorem setHolder_baseWidth (a : Addr) (x : Option (BitVec 5)) : (s.setHolder a x).baseWidth = s.baseWidth := rfl
@[simp] theorem setHolder_propWidth (a : Addr) (x : Option (BitVec 5)) : (s.setHolder a x).propWidth = s.propWidth := rfl
@[simp] theorem setHolder_classes (a : Addr) (x : Option (BitVec 5)) : (s.setHolder a x).classes = s.classes := rfl
@[simp] theorem setHolder_settling (a : Addr) (x : Option (BitVec 5)) : (s.setHolder a x).settling = s.settling := rfl
@[simp] theorem setHolder_stopPin (a : Addr) (x : Option (BitVec 5)) : (s.setHolder a x).stopPin = s.stopPin := rfl
@[simp] theorem setHolder_alertMask (a : Addr) (x : Option (BitVec 5)) : (s.setHolder a x).alertMask = s.alertMask := rfl
@[simp] theorem setHolder_alertPin (a : Addr) (x : Option (BitVec 5)) : (s.setHolder a x).alertPin = s.alertPin := rfl
@[simp] theorem setHolder_faults (a : Addr) (x : Option (BitVec 5)) : (s.setHolder a x).faults = s.faults := rfl
@[simp] theorem setHolder_overflow (a : Addr) (x : Option (BitVec 5)) : (s.setHolder a x).overflow = s.overflow := rfl
@[simp] theorem setHolder_response (a : Addr) (x : Option (BitVec 5)) : (s.setHolder a x).response = s.response := rfl
@[simp] theorem setHolder_freeDraws (a : Addr) (x : Option (BitVec 5)) : (s.setHolder a x).freeDraws = s.freeDraws := rfl
@[simp] theorem setHolder_pending (a : Addr) (x : Option (BitVec 5)) : (s.setHolder a x).pending = s.pending := rfl

/-! ### push -/

@[simp] theorem push_travelA (f : Frame) (p : Pos) : (s.push f p).travelA = s.travelA := rfl
@[simp] theorem push_travelB (f : Frame) (p : Pos) : (s.push f p).travelB = s.travelB := rfl
@[simp] theorem push_lastStep (f : Frame) (p : Pos) : (s.push f p).lastStep = s.lastStep := rfl
@[simp] theorem push_freshWindows (f : Frame) (p : Pos) : (s.push f p).freshWindows = s.freshWindows := rfl
@[simp] theorem push_undoneReserves (f : Frame) (p : Pos) : (s.push f p).undoneReserves = s.undoneReserves := rfl
@[simp] theorem push_eyes (f : Frame) (p : Pos) : (s.push f p).eyes = s.eyes := rfl
@[simp] theorem push_channels (f : Frame) (p : Pos) : (s.push f p).channels = s.channels := rfl
@[simp] theorem push_train (f : Frame) (p : Pos) : (s.push f p).train = s.train := rfl
@[simp] theorem push_admissions (f : Frame) (p : Pos) : (s.push f p).admissions = s.admissions := rfl
@[simp] theorem push_serial (f : Frame) (p : Pos) : (s.push f p).serial = s.serial := rfl
@[simp] theorem push_waiting (f : Frame) (p : Pos) : (s.push f p).waiting = s.waiting := rfl
@[simp] theorem push_gates (f : Frame) (p : Pos) : (s.push f p).gates = s.gates := rfl
@[simp] theorem push_reservations (f : Frame) (p : Pos) : (s.push f p).reservations = s.reservations := rfl
@[simp] theorem push_holders (f : Frame) (p : Pos) : (s.push f p).holders = s.holders := rfl
@[simp] theorem push_trainCause (f : Frame) (p : Pos) : (s.push f p).trainCause = s.trainCause := rfl
@[simp] theorem push_lineHold (f : Frame) (p : Pos) : (s.push f p).lineHold = s.lineHold := rfl
@[simp] theorem push_announced (f : Frame) (p : Pos) : (s.push f p).announced = s.announced := rfl
@[simp] theorem push_announcedReason (f : Frame) (p : Pos) : (s.push f p).announcedReason = s.announcedReason := rfl
@[simp] theorem push_highMark (f : Frame) (p : Pos) : (s.push f p).highMark = s.highMark := rfl
@[simp] theorem push_lowMark (f : Frame) (p : Pos) : (s.push f p).lowMark = s.lowMark := rfl
@[simp] theorem push_slip (f : Frame) (p : Pos) : (s.push f p).slip = s.slip := rfl
@[simp] theorem push_slipLoaded (f : Frame) (p : Pos) : (s.push f p).slipLoaded = s.slipLoaded := rfl
@[simp] theorem push_ironer (f : Frame) (p : Pos) : (s.push f p).ironer = s.ironer := rfl
@[simp] theorem push_wrapAlarm (f : Frame) (p : Pos) : (s.push f p).wrapAlarm = s.wrapAlarm := rfl
@[simp] theorem push_exitRejectNext (f : Frame) (p : Pos) : (s.push f p).exitRejectNext = s.exitRejectNext := rfl
@[simp] theorem push_dests (f : Frame) (p : Pos) : (s.push f p).dests = s.dests := rfl
@[simp] theorem push_rejectDest (f : Frame) (p : Pos) : (s.push f p).rejectDest = s.rejectDest := rfl
@[simp] theorem push_doubtfulToClass (f : Frame) (p : Pos) : (s.push f p).doubtfulToClass = s.doubtfulToClass := rfl
@[simp] theorem push_lots (f : Frame) (p : Pos) : (s.push f p).lots = s.lots := rfl
@[simp] theorem push_closureList (f : Frame) (p : Pos) : (s.push f p).closureList = s.closureList := rfl
@[simp] theorem push_busIdle (f : Frame) (p : Pos) : (s.push f p).busIdle = s.busIdle := rfl
@[simp] theorem push_passageSeq (f : Frame) (p : Pos) : (s.push f p).passageSeq = s.passageSeq := rfl
@[simp] theorem push_watch (f : Frame) (p : Pos) : (s.push f p).watch = s.watch := rfl
@[simp] theorem push_address (f : Frame) (p : Pos) : (s.push f p).address = s.address := rfl
@[simp] theorem push_lastJoin (f : Frame) (p : Pos) : (s.push f p).lastJoin = s.lastJoin := rfl
@[simp] theorem push_mode (f : Frame) (p : Pos) : (s.push f p).mode = s.mode := rfl
@[simp] theorem push_role (f : Frame) (p : Pos) : (s.push f p).role = s.role := rfl
@[simp] theorem push_store (f : Frame) (p : Pos) : (s.push f p).store = s.store := rfl
@[simp] theorem push_baseWidth (f : Frame) (p : Pos) : (s.push f p).baseWidth = s.baseWidth := rfl
@[simp] theorem push_propWidth (f : Frame) (p : Pos) : (s.push f p).propWidth = s.propWidth := rfl
@[simp] theorem push_classes (f : Frame) (p : Pos) : (s.push f p).classes = s.classes := rfl
@[simp] theorem push_settling (f : Frame) (p : Pos) : (s.push f p).settling = s.settling := rfl
@[simp] theorem push_stopPin (f : Frame) (p : Pos) : (s.push f p).stopPin = s.stopPin := rfl
@[simp] theorem push_alertMask (f : Frame) (p : Pos) : (s.push f p).alertMask = s.alertMask := rfl
@[simp] theorem push_alertPin (f : Frame) (p : Pos) : (s.push f p).alertPin = s.alertPin := rfl
@[simp] theorem push_faults (f : Frame) (p : Pos) : (s.push f p).faults = s.faults := rfl
@[simp] theorem push_overflow (f : Frame) (p : Pos) : (s.push f p).overflow = s.overflow := rfl
@[simp] theorem push_response (f : Frame) (p : Pos) : (s.push f p).response = s.response := rfl
@[simp] theorem push_freeDraws (f : Frame) (p : Pos) : (s.push f p).freeDraws = s.freeDraws := rfl
@[simp] theorem push_pending (f : Frame) (p : Pos) : (s.push f p).pending = s.pending := rfl

/-! ### respond -/

@[simp] theorem respond_travelA (r : Result) (d : List MaskedByte) : (s.respond r d).travelA = s.travelA := rfl
@[simp] theorem respond_travelB (r : Result) (d : List MaskedByte) : (s.respond r d).travelB = s.travelB := rfl
@[simp] theorem respond_lastStep (r : Result) (d : List MaskedByte) : (s.respond r d).lastStep = s.lastStep := rfl
@[simp] theorem respond_freshWindows (r : Result) (d : List MaskedByte) : (s.respond r d).freshWindows = s.freshWindows := rfl
@[simp] theorem respond_undoneReserves (r : Result) (d : List MaskedByte) : (s.respond r d).undoneReserves = s.undoneReserves := rfl
@[simp] theorem respond_eyes (r : Result) (d : List MaskedByte) : (s.respond r d).eyes = s.eyes := rfl
@[simp] theorem respond_channels (r : Result) (d : List MaskedByte) : (s.respond r d).channels = s.channels := rfl
@[simp] theorem respond_train (r : Result) (d : List MaskedByte) : (s.respond r d).train = s.train := rfl
@[simp] theorem respond_admissions (r : Result) (d : List MaskedByte) : (s.respond r d).admissions = s.admissions := rfl
@[simp] theorem respond_serial (r : Result) (d : List MaskedByte) : (s.respond r d).serial = s.serial := rfl
@[simp] theorem respond_waiting (r : Result) (d : List MaskedByte) : (s.respond r d).waiting = s.waiting := rfl
@[simp] theorem respond_gates (r : Result) (d : List MaskedByte) : (s.respond r d).gates = s.gates := rfl
@[simp] theorem respond_reservations (r : Result) (d : List MaskedByte) : (s.respond r d).reservations = s.reservations := rfl
@[simp] theorem respond_holders (r : Result) (d : List MaskedByte) : (s.respond r d).holders = s.holders := rfl
@[simp] theorem respond_trainCause (r : Result) (d : List MaskedByte) : (s.respond r d).trainCause = s.trainCause := rfl
@[simp] theorem respond_lineHold (r : Result) (d : List MaskedByte) : (s.respond r d).lineHold = s.lineHold := rfl
@[simp] theorem respond_announced (r : Result) (d : List MaskedByte) : (s.respond r d).announced = s.announced := rfl
@[simp] theorem respond_announcedReason (r : Result) (d : List MaskedByte) : (s.respond r d).announcedReason = s.announcedReason := rfl
@[simp] theorem respond_highMark (r : Result) (d : List MaskedByte) : (s.respond r d).highMark = s.highMark := rfl
@[simp] theorem respond_lowMark (r : Result) (d : List MaskedByte) : (s.respond r d).lowMark = s.lowMark := rfl
@[simp] theorem respond_slip (r : Result) (d : List MaskedByte) : (s.respond r d).slip = s.slip := rfl
@[simp] theorem respond_slipLoaded (r : Result) (d : List MaskedByte) : (s.respond r d).slipLoaded = s.slipLoaded := rfl
@[simp] theorem respond_ironer (r : Result) (d : List MaskedByte) : (s.respond r d).ironer = s.ironer := rfl
@[simp] theorem respond_wrapAlarm (r : Result) (d : List MaskedByte) : (s.respond r d).wrapAlarm = s.wrapAlarm := rfl
@[simp] theorem respond_exitRejectNext (r : Result) (d : List MaskedByte) : (s.respond r d).exitRejectNext = s.exitRejectNext := rfl
@[simp] theorem respond_dests (r : Result) (d : List MaskedByte) : (s.respond r d).dests = s.dests := rfl
@[simp] theorem respond_rejectDest (r : Result) (d : List MaskedByte) : (s.respond r d).rejectDest = s.rejectDest := rfl
@[simp] theorem respond_doubtfulToClass (r : Result) (d : List MaskedByte) : (s.respond r d).doubtfulToClass = s.doubtfulToClass := rfl
@[simp] theorem respond_lots (r : Result) (d : List MaskedByte) : (s.respond r d).lots = s.lots := rfl
@[simp] theorem respond_closureList (r : Result) (d : List MaskedByte) : (s.respond r d).closureList = s.closureList := rfl
@[simp] theorem respond_queue (r : Result) (d : List MaskedByte) : (s.respond r d).queue = s.queue := rfl
@[simp] theorem respond_busIdle (r : Result) (d : List MaskedByte) : (s.respond r d).busIdle = s.busIdle := rfl
@[simp] theorem respond_passageSeq (r : Result) (d : List MaskedByte) : (s.respond r d).passageSeq = s.passageSeq := rfl
@[simp] theorem respond_watch (r : Result) (d : List MaskedByte) : (s.respond r d).watch = s.watch := rfl
@[simp] theorem respond_address (r : Result) (d : List MaskedByte) : (s.respond r d).address = s.address := rfl
@[simp] theorem respond_lastJoin (r : Result) (d : List MaskedByte) : (s.respond r d).lastJoin = s.lastJoin := rfl
@[simp] theorem respond_mode (r : Result) (d : List MaskedByte) : (s.respond r d).mode = s.mode := rfl
@[simp] theorem respond_role (r : Result) (d : List MaskedByte) : (s.respond r d).role = s.role := rfl
@[simp] theorem respond_store (r : Result) (d : List MaskedByte) : (s.respond r d).store = s.store := rfl
@[simp] theorem respond_baseWidth (r : Result) (d : List MaskedByte) : (s.respond r d).baseWidth = s.baseWidth := rfl
@[simp] theorem respond_propWidth (r : Result) (d : List MaskedByte) : (s.respond r d).propWidth = s.propWidth := rfl
@[simp] theorem respond_classes (r : Result) (d : List MaskedByte) : (s.respond r d).classes = s.classes := rfl
@[simp] theorem respond_settling (r : Result) (d : List MaskedByte) : (s.respond r d).settling = s.settling := rfl
@[simp] theorem respond_stopPin (r : Result) (d : List MaskedByte) : (s.respond r d).stopPin = s.stopPin := rfl
@[simp] theorem respond_alertMask (r : Result) (d : List MaskedByte) : (s.respond r d).alertMask = s.alertMask := rfl
@[simp] theorem respond_alertPin (r : Result) (d : List MaskedByte) : (s.respond r d).alertPin = s.alertPin := rfl
@[simp] theorem respond_faults (r : Result) (d : List MaskedByte) : (s.respond r d).faults = s.faults := rfl
@[simp] theorem respond_overflow (r : Result) (d : List MaskedByte) : (s.respond r d).overflow = s.overflow := rfl
@[simp] theorem respond_pending (r : Result) (d : List MaskedByte) : (s.respond r d).pending = s.pending := rfl

/-! ### recordFault -/

@[simp] theorem recordFault_travelA (f : FaultRecord) : (s.recordFault f).travelA = s.travelA := by unfold State.recordFault; split <;> rfl
@[simp] theorem recordFault_travelB (f : FaultRecord) : (s.recordFault f).travelB = s.travelB := by unfold State.recordFault; split <;> rfl
@[simp] theorem recordFault_lastStep (f : FaultRecord) : (s.recordFault f).lastStep = s.lastStep := by unfold State.recordFault; split <;> rfl
@[simp] theorem recordFault_freshWindows (f : FaultRecord) : (s.recordFault f).freshWindows = s.freshWindows := by unfold State.recordFault; split <;> rfl
@[simp] theorem recordFault_undoneReserves (f : FaultRecord) : (s.recordFault f).undoneReserves = s.undoneReserves := by unfold State.recordFault; split <;> rfl
@[simp] theorem recordFault_eyes (f : FaultRecord) : (s.recordFault f).eyes = s.eyes := by unfold State.recordFault; split <;> rfl
@[simp] theorem recordFault_channels (f : FaultRecord) : (s.recordFault f).channels = s.channels := by unfold State.recordFault; split <;> rfl
@[simp] theorem recordFault_train (f : FaultRecord) : (s.recordFault f).train = s.train := by unfold State.recordFault; split <;> rfl
@[simp] theorem recordFault_admissions (f : FaultRecord) : (s.recordFault f).admissions = s.admissions := by unfold State.recordFault; split <;> rfl
@[simp] theorem recordFault_serial (f : FaultRecord) : (s.recordFault f).serial = s.serial := by unfold State.recordFault; split <;> rfl
@[simp] theorem recordFault_waiting (f : FaultRecord) : (s.recordFault f).waiting = s.waiting := by unfold State.recordFault; split <;> rfl
@[simp] theorem recordFault_gates (f : FaultRecord) : (s.recordFault f).gates = s.gates := by unfold State.recordFault; split <;> rfl
@[simp] theorem recordFault_reservations (f : FaultRecord) : (s.recordFault f).reservations = s.reservations := by unfold State.recordFault; split <;> rfl
@[simp] theorem recordFault_holders (f : FaultRecord) : (s.recordFault f).holders = s.holders := by unfold State.recordFault; split <;> rfl
@[simp] theorem recordFault_trainCause (f : FaultRecord) : (s.recordFault f).trainCause = s.trainCause := by unfold State.recordFault; split <;> rfl
@[simp] theorem recordFault_lineHold (f : FaultRecord) : (s.recordFault f).lineHold = s.lineHold := by unfold State.recordFault; split <;> rfl
@[simp] theorem recordFault_announced (f : FaultRecord) : (s.recordFault f).announced = s.announced := by unfold State.recordFault; split <;> rfl
@[simp] theorem recordFault_announcedReason (f : FaultRecord) : (s.recordFault f).announcedReason = s.announcedReason := by unfold State.recordFault; split <;> rfl
@[simp] theorem recordFault_highMark (f : FaultRecord) : (s.recordFault f).highMark = s.highMark := by unfold State.recordFault; split <;> rfl
@[simp] theorem recordFault_lowMark (f : FaultRecord) : (s.recordFault f).lowMark = s.lowMark := by unfold State.recordFault; split <;> rfl
@[simp] theorem recordFault_slip (f : FaultRecord) : (s.recordFault f).slip = s.slip := by unfold State.recordFault; split <;> rfl
@[simp] theorem recordFault_slipLoaded (f : FaultRecord) : (s.recordFault f).slipLoaded = s.slipLoaded := by unfold State.recordFault; split <;> rfl
@[simp] theorem recordFault_ironer (f : FaultRecord) : (s.recordFault f).ironer = s.ironer := by unfold State.recordFault; split <;> rfl
@[simp] theorem recordFault_wrapAlarm (f : FaultRecord) : (s.recordFault f).wrapAlarm = s.wrapAlarm := by unfold State.recordFault; split <;> rfl
@[simp] theorem recordFault_exitRejectNext (f : FaultRecord) : (s.recordFault f).exitRejectNext = s.exitRejectNext := by unfold State.recordFault; split <;> rfl
@[simp] theorem recordFault_dests (f : FaultRecord) : (s.recordFault f).dests = s.dests := by unfold State.recordFault; split <;> rfl
@[simp] theorem recordFault_rejectDest (f : FaultRecord) : (s.recordFault f).rejectDest = s.rejectDest := by unfold State.recordFault; split <;> rfl
@[simp] theorem recordFault_doubtfulToClass (f : FaultRecord) : (s.recordFault f).doubtfulToClass = s.doubtfulToClass := by unfold State.recordFault; split <;> rfl
@[simp] theorem recordFault_lots (f : FaultRecord) : (s.recordFault f).lots = s.lots := by unfold State.recordFault; split <;> rfl
@[simp] theorem recordFault_closureList (f : FaultRecord) : (s.recordFault f).closureList = s.closureList := by unfold State.recordFault; split <;> rfl
@[simp] theorem recordFault_queue (f : FaultRecord) : (s.recordFault f).queue = s.queue := by unfold State.recordFault; split <;> rfl
@[simp] theorem recordFault_busIdle (f : FaultRecord) : (s.recordFault f).busIdle = s.busIdle := by unfold State.recordFault; split <;> rfl
@[simp] theorem recordFault_passageSeq (f : FaultRecord) : (s.recordFault f).passageSeq = s.passageSeq := by unfold State.recordFault; split <;> rfl
@[simp] theorem recordFault_watch (f : FaultRecord) : (s.recordFault f).watch = s.watch := by unfold State.recordFault; split <;> rfl
@[simp] theorem recordFault_address (f : FaultRecord) : (s.recordFault f).address = s.address := by unfold State.recordFault; split <;> rfl
@[simp] theorem recordFault_lastJoin (f : FaultRecord) : (s.recordFault f).lastJoin = s.lastJoin := by unfold State.recordFault; split <;> rfl
@[simp] theorem recordFault_mode (f : FaultRecord) : (s.recordFault f).mode = s.mode := by unfold State.recordFault; split <;> rfl
@[simp] theorem recordFault_role (f : FaultRecord) : (s.recordFault f).role = s.role := by unfold State.recordFault; split <;> rfl
@[simp] theorem recordFault_store (f : FaultRecord) : (s.recordFault f).store = s.store := by unfold State.recordFault; split <;> rfl
@[simp] theorem recordFault_baseWidth (f : FaultRecord) : (s.recordFault f).baseWidth = s.baseWidth := by unfold State.recordFault; split <;> rfl
@[simp] theorem recordFault_propWidth (f : FaultRecord) : (s.recordFault f).propWidth = s.propWidth := by unfold State.recordFault; split <;> rfl
@[simp] theorem recordFault_classes (f : FaultRecord) : (s.recordFault f).classes = s.classes := by unfold State.recordFault; split <;> rfl
@[simp] theorem recordFault_settling (f : FaultRecord) : (s.recordFault f).settling = s.settling := by unfold State.recordFault; split <;> rfl
@[simp] theorem recordFault_stopPin (f : FaultRecord) : (s.recordFault f).stopPin = s.stopPin := by unfold State.recordFault; split <;> rfl
@[simp] theorem recordFault_alertMask (f : FaultRecord) : (s.recordFault f).alertMask = s.alertMask := by unfold State.recordFault; split <;> rfl
@[simp] theorem recordFault_alertPin (f : FaultRecord) : (s.recordFault f).alertPin = s.alertPin := by unfold State.recordFault; split <;> rfl
@[simp] theorem recordFault_response (f : FaultRecord) : (s.recordFault f).response = s.response := by unfold State.recordFault; split <;> rfl
@[simp] theorem recordFault_freeDraws (f : FaultRecord) : (s.recordFault f).freeDraws = s.freeDraws := by unfold State.recordFault; split <;> rfl
@[simp] theorem recordFault_pending (f : FaultRecord) : (s.recordFault f).pending = s.pending := by unfold State.recordFault; split <;> rfl

/-! ### setTravel -/

@[simp] theorem setTravel_lastStep (i : TravelInput) (t : Travel) : (s.setTravel i t).lastStep = s.lastStep := by cases i <;> rfl
@[simp] theorem setTravel_freshWindows (i : TravelInput) (t : Travel) : (s.setTravel i t).freshWindows = s.freshWindows := by cases i <;> rfl
@[simp] theorem setTravel_undoneReserves (i : TravelInput) (t : Travel) : (s.setTravel i t).undoneReserves = s.undoneReserves := by cases i <;> rfl
@[simp] theorem setTravel_eyes (i : TravelInput) (t : Travel) : (s.setTravel i t).eyes = s.eyes := by cases i <;> rfl
@[simp] theorem setTravel_channels (i : TravelInput) (t : Travel) : (s.setTravel i t).channels = s.channels := by cases i <;> rfl
@[simp] theorem setTravel_train (i : TravelInput) (t : Travel) : (s.setTravel i t).train = s.train := by cases i <;> rfl
@[simp] theorem setTravel_admissions (i : TravelInput) (t : Travel) : (s.setTravel i t).admissions = s.admissions := by cases i <;> rfl
@[simp] theorem setTravel_serial (i : TravelInput) (t : Travel) : (s.setTravel i t).serial = s.serial := by cases i <;> rfl
@[simp] theorem setTravel_waiting (i : TravelInput) (t : Travel) : (s.setTravel i t).waiting = s.waiting := by cases i <;> rfl
@[simp] theorem setTravel_gates (i : TravelInput) (t : Travel) : (s.setTravel i t).gates = s.gates := by cases i <;> rfl
@[simp] theorem setTravel_reservations (i : TravelInput) (t : Travel) : (s.setTravel i t).reservations = s.reservations := by cases i <;> rfl
@[simp] theorem setTravel_holders (i : TravelInput) (t : Travel) : (s.setTravel i t).holders = s.holders := by cases i <;> rfl
@[simp] theorem setTravel_trainCause (i : TravelInput) (t : Travel) : (s.setTravel i t).trainCause = s.trainCause := by cases i <;> rfl
@[simp] theorem setTravel_lineHold (i : TravelInput) (t : Travel) : (s.setTravel i t).lineHold = s.lineHold := by cases i <;> rfl
@[simp] theorem setTravel_announced (i : TravelInput) (t : Travel) : (s.setTravel i t).announced = s.announced := by cases i <;> rfl
@[simp] theorem setTravel_announcedReason (i : TravelInput) (t : Travel) : (s.setTravel i t).announcedReason = s.announcedReason := by cases i <;> rfl
@[simp] theorem setTravel_highMark (i : TravelInput) (t : Travel) : (s.setTravel i t).highMark = s.highMark := by cases i <;> rfl
@[simp] theorem setTravel_lowMark (i : TravelInput) (t : Travel) : (s.setTravel i t).lowMark = s.lowMark := by cases i <;> rfl
@[simp] theorem setTravel_slip (i : TravelInput) (t : Travel) : (s.setTravel i t).slip = s.slip := by cases i <;> rfl
@[simp] theorem setTravel_slipLoaded (i : TravelInput) (t : Travel) : (s.setTravel i t).slipLoaded = s.slipLoaded := by cases i <;> rfl
@[simp] theorem setTravel_ironer (i : TravelInput) (t : Travel) : (s.setTravel i t).ironer = s.ironer := by cases i <;> rfl
@[simp] theorem setTravel_wrapAlarm (i : TravelInput) (t : Travel) : (s.setTravel i t).wrapAlarm = s.wrapAlarm := by cases i <;> rfl
@[simp] theorem setTravel_exitRejectNext (i : TravelInput) (t : Travel) : (s.setTravel i t).exitRejectNext = s.exitRejectNext := by cases i <;> rfl
@[simp] theorem setTravel_dests (i : TravelInput) (t : Travel) : (s.setTravel i t).dests = s.dests := by cases i <;> rfl
@[simp] theorem setTravel_rejectDest (i : TravelInput) (t : Travel) : (s.setTravel i t).rejectDest = s.rejectDest := by cases i <;> rfl
@[simp] theorem setTravel_doubtfulToClass (i : TravelInput) (t : Travel) : (s.setTravel i t).doubtfulToClass = s.doubtfulToClass := by cases i <;> rfl
@[simp] theorem setTravel_lots (i : TravelInput) (t : Travel) : (s.setTravel i t).lots = s.lots := by cases i <;> rfl
@[simp] theorem setTravel_closureList (i : TravelInput) (t : Travel) : (s.setTravel i t).closureList = s.closureList := by cases i <;> rfl
@[simp] theorem setTravel_queue (i : TravelInput) (t : Travel) : (s.setTravel i t).queue = s.queue := by cases i <;> rfl
@[simp] theorem setTravel_busIdle (i : TravelInput) (t : Travel) : (s.setTravel i t).busIdle = s.busIdle := by cases i <;> rfl
@[simp] theorem setTravel_passageSeq (i : TravelInput) (t : Travel) : (s.setTravel i t).passageSeq = s.passageSeq := by cases i <;> rfl
@[simp] theorem setTravel_watch (i : TravelInput) (t : Travel) : (s.setTravel i t).watch = s.watch := by cases i <;> rfl
@[simp] theorem setTravel_address (i : TravelInput) (t : Travel) : (s.setTravel i t).address = s.address := by cases i <;> rfl
@[simp] theorem setTravel_lastJoin (i : TravelInput) (t : Travel) : (s.setTravel i t).lastJoin = s.lastJoin := by cases i <;> rfl
@[simp] theorem setTravel_mode (i : TravelInput) (t : Travel) : (s.setTravel i t).mode = s.mode := by cases i <;> rfl
@[simp] theorem setTravel_role (i : TravelInput) (t : Travel) : (s.setTravel i t).role = s.role := by cases i <;> rfl
@[simp] theorem setTravel_store (i : TravelInput) (t : Travel) : (s.setTravel i t).store = s.store := by cases i <;> rfl
@[simp] theorem setTravel_baseWidth (i : TravelInput) (t : Travel) : (s.setTravel i t).baseWidth = s.baseWidth := by cases i <;> rfl
@[simp] theorem setTravel_propWidth (i : TravelInput) (t : Travel) : (s.setTravel i t).propWidth = s.propWidth := by cases i <;> rfl
@[simp] theorem setTravel_classes (i : TravelInput) (t : Travel) : (s.setTravel i t).classes = s.classes := by cases i <;> rfl
@[simp] theorem setTravel_settling (i : TravelInput) (t : Travel) : (s.setTravel i t).settling = s.settling := by cases i <;> rfl
@[simp] theorem setTravel_stopPin (i : TravelInput) (t : Travel) : (s.setTravel i t).stopPin = s.stopPin := by cases i <;> rfl
@[simp] theorem setTravel_alertMask (i : TravelInput) (t : Travel) : (s.setTravel i t).alertMask = s.alertMask := by cases i <;> rfl
@[simp] theorem setTravel_alertPin (i : TravelInput) (t : Travel) : (s.setTravel i t).alertPin = s.alertPin := by cases i <;> rfl
@[simp] theorem setTravel_faults (i : TravelInput) (t : Travel) : (s.setTravel i t).faults = s.faults := by cases i <;> rfl
@[simp] theorem setTravel_overflow (i : TravelInput) (t : Travel) : (s.setTravel i t).overflow = s.overflow := by cases i <;> rfl
@[simp] theorem setTravel_response (i : TravelInput) (t : Travel) : (s.setTravel i t).response = s.response := by cases i <;> rfl
@[simp] theorem setTravel_freeDraws (i : TravelInput) (t : Travel) : (s.setTravel i t).freeDraws = s.freeDraws := by cases i <;> rfl
@[simp] theorem setTravel_pending (i : TravelInput) (t : Travel) : (s.setTravel i t).pending = s.pending := by cases i <;> rfl

/-! ### What an update sets -/

@[simp] theorem setEye_eye (e : EyeIx) (x : Eye) : (s.setEye e x).eye e = x := by simp [State.setEye, State.eye]
@[simp] theorem setChannel_channel (c : ChannelIx) (x : Channel) : (s.setChannel c x).channel c = x := by
  simp [State.setChannel, State.channel]
@[simp] theorem setGate_gate (g : GateIx) (x : Gate) : (s.setGate g x).gate g = x := by simp [State.setGate, State.gate]
@[simp] theorem setDest_dest (d : DestIx) (x : Dest) : (s.setDest d x).dest d = x := by simp [State.setDest, State.dest]
@[simp] theorem setLotSlot_lotSlot (k : Fin 16) (x : Option LotEntry) : (s.setLotSlot k x).lotSlot k = x := by
  simp [State.setLotSlot, State.lotSlot]
@[simp] theorem setTravel_travel (i : TravelInput) (t : Travel) : (s.setTravel i t).travel i = t := by cases i <;> rfl

theorem setEye_eye_ne {e k : EyeIx} (x : Eye) (h : k ≠ e) : (s.setEye e x).eye k = s.eye k := by
  simp [State.setEye, State.eye, Fin.val_inj, h.symm]
theorem setChannel_channel_ne {c k : ChannelIx} (x : Channel) (h : k ≠ c) : (s.setChannel c x).channel k = s.channel k := by
  simp [State.setChannel, State.channel, Fin.val_inj, h.symm]
theorem setGate_gate_ne {g k : GateIx} (x : Gate) (h : k ≠ g) : (s.setGate g x).gate k = s.gate k := by
  simp [State.setGate, State.gate, Fin.val_inj, h.symm]
theorem setDest_dest_ne {d k : DestIx} (x : Dest) (h : k ≠ d) : (s.setDest d x).dest k = s.dest k := by
  simp [State.setDest, State.dest, Fin.val_inj, h.symm]
theorem setLotSlot_lotSlot_ne {j k : Fin 16} (x : Option LotEntry) (h : k ≠ j) :
    (s.setLotSlot j x).lotSlot k = s.lotSlot k := by
  simp [State.setLotSlot, State.lotSlot, Fin.val_inj, h.symm]
theorem setTravel_travel_ne {i j : TravelInput} (t : Travel) (h : j ≠ i) : (s.setTravel i t).travel j = s.travel j := by
  cases i <;> cases j <;> first | rfl | exact absurd rfl h

/-- Everything recording a fault can do (R199). -/
theorem recordFault_cases (f : FaultRecord) :
    (s.faults.length < 8 ∧ s.recordFault f = { s with faults := s.faults ++ [f] }) ∨
      (8 ≤ s.faults.length ∧ s.recordFault f = { s with overflow := min 255 (s.overflow + 1) }) := by
  unfold State.recordFault Config.faultCapacity Config.overflowLimit
  split
  · exact .inl ⟨‹_›, rfl⟩
  · exact .inr ⟨by omega, rfl⟩

/-- Everything offering a frame can do (R182). -/
theorem offer_cases (f : Frame) (p : Pos) :
    (s.roomFor f = true ∧ s.offer f p = some (s.push f p)) ∨ (s.roomFor f = false ∧ s.offer f p = none) := by
  unfold State.offer
  cases s.roomFor f <;> simp

@[simp] theorem push_queue (f : Frame) (p : Pos) : (s.push f p).queue = s.queue ++ [TxFrame.new f p] := rfl
@[simp] theorem respond_response (r : Result) : (s.respond r).response = [r.code] := by
  simp [State.respond, fillFree]

end Sys2Proof.Machine
end

