-- ==== Sys2Proof/Laws/Frame.lean ====
section
/-! SUPPORT. The frame of the shared operations: what no event of items, eyes, gates or pulses changes (`State.outside`: the
counters, the settings in force, the tracker state, pins, the descriptor store, the response, the command queue), one lemma
per operation. -/

namespace Sys2Proof.Machine

/-- The state with every field that items, eyes, gates, pulses, lots, frames and faults live in set to its reset value. -/
def State.outside (s : State) : State :=
  { s with
    freshWindows := [], undoneReserves := [], eyes := State.reset.eyes, channels := State.reset.channels, train := [], admissions := 0
    serial := 0, waiting := [], gates := State.reset.gates, reservations := [], trainCause := false, announced := false
    announcedReason := 0, slip := 0, wrapAlarm := false, exitRejectNext := false, dests := State.reset.dests
    lots := State.reset.lots, closureList := [], queue := [], passageSeq := 0, watch := [], alertPin := false
    faults := [], overflow := 0 }

/-- Equal outsides: what they say field by field. -/
theorem outside_fields {a b : State} (h : a.outside = b.outside) :
    a.travelA = b.travelA ∧ a.travelB = b.travelB ∧ a.lastStep = b.lastStep ∧ a.holders = b.holders ∧
      a.lineHold = b.lineHold ∧ a.highMark = b.highMark ∧ a.lowMark = b.lowMark ∧ a.slipLoaded = b.slipLoaded ∧
      a.ironer = b.ironer ∧ a.rejectDest = b.rejectDest ∧ a.doubtfulToClass = b.doubtfulToClass ∧
      a.busIdle = b.busIdle ∧ a.address = b.address ∧ a.lastJoin = b.lastJoin ∧ a.mode = b.mode ∧ a.role = b.role ∧
      a.store = b.store ∧ a.baseWidth = b.baseWidth ∧ a.propWidth = b.propWidth ∧ a.classes = b.classes ∧
      a.settling = b.settling ∧ a.stopPin = b.stopPin ∧ a.alertMask = b.alertMask ∧ a.response = b.response ∧
      a.freeDraws = b.freeDraws ∧ a.pending = b.pending := by
  cases a
  cases b
  simp only [State.outside, State.mk.injEq] at h
  simp_all

theorem foldl_outside {α : Type} (f : State → α → State) (h : ∀ s a, (f s a).outside = s.outside) (l : List α)
    (s : State) : (l.foldl f s).outside = s.outside := by
  induction l generalizing s with
  | nil => rfl
  | cons a l ih => rw [List.foldl_cons, ih, h]

variable (s : State)

/-! ### Elementary updates -/

@[simp] theorem setEye_outside (e : EyeIx) (x : Eye) : (s.setEye e x).outside = s.outside := rfl
@[simp] theorem setChannel_outside (c : ChannelIx) (x : Channel) : (s.setChannel c x).outside = s.outside := rfl
@[simp] theorem setGate_outside (g : GateIx) (x : Gate) : (s.setGate g x).outside = s.outside := rfl
@[simp] theorem setDest_outside (d : DestIx) (x : Dest) : (s.setDest d x).outside = s.outside := rfl
@[simp] theorem setLotSlot_outside (k : Fin 16) (x : Option LotEntry) : (s.setLotSlot k x).outside = s.outside := rfl
@[simp] theorem push_outside (f : Frame) (p : Pos) : (s.push f p).outside = s.outside := rfl
@[simp] theorem recordFault_outside (f : FaultRecord) : (s.recordFault f).outside = s.outside := by
  unfold State.recordFault; split <;> rfl
@[simp] theorem txOverrun_outside (t : Tag) : (s.txOverrun t).outside = s.outside := recordFault_outside ..
@[simp] theorem offerOrDrop_outside (f : Frame) (t : Tag) : (s.offerOrDrop f t).outside = s.outside := by
  unfold State.offerOrDrop State.offer
  cases s.roomFor f <;> simp
@[simp] theorem voidReserve_outside (g : GateIx) : (s.voidReserve g).outside = s.outside := rfl
@[simp] theorem request_outside (c : ChannelIx) (a b : Pos) (r : Option Tag) : (s.request c a b r).1.outside = s.outside :=
  rfl
@[simp] theorem extend_outside (c : ChannelIx) (t : Tag) (y : Pos) : (s.extend c t y).1.outside = s.outside := rfl
@[simp] theorem abort_outside (c : ChannelIx) (t : Tag) : (s.abort c t).1.outside = s.outside := rfl

/-! ### Pulses -/

@[simp] theorem retireOne_outside (c : ChannelIx) : (s.retireOne c).outside = s.outside := by
  unfold State.retireOne; split <;> rfl
@[simp] theorem retirePulses_outside (c : ChannelIx) : (s.retirePulses c).outside = s.outside := by
  simp [State.retirePulses]
@[simp] theorem outputsAfresh_outside : s.outputsAfresh.outside = s.outside := by
  unfold State.outputsAfresh
  exact foldl_outside _ (fun s c => setChannel_outside s c _) ..

/-! ### Stacks and lots -/

@[simp] theorem requestTrigger_outside (d : DestIx) : (s.requestTrigger d).1.outside = s.outside := by
  unfold State.requestTrigger; simp only; split <;> simp
@[simp] theorem stackBusy_outside (d : DestIx) (x : Lot) (n : Nat) : (s.stackBusy d x n).outside = s.outside :=
  recordFault_outside ..
@[simp] theorem trigger_outside (d : DestIx) (x : Lot) (n : Nat) : (s.trigger d x n).outside = s.outside := by
  unfold State.trigger; simp only; split <;> simp
@[simp] theorem closeStack_outside (d : DestIx) (r : ClosureReason) : (s.closeStack d r).outside = s.outside := by
  unfold State.closeStack; simp only; split <;> simp
@[simp] theorem payTrigger_outside (d : DestIx) : (s.payTrigger d).outside = s.outside := by
  unfold State.payTrigger
  split <;> simp
@[simp] theorem countIntoStack_outside (d : DestIx) (x : Lot) : (s.countIntoStack d x).outside = s.outside := by
  unfold State.countIntoStack
  split; · rfl
  simp only
  split <;> split <;> simp
@[simp] theorem lotEnd_outside (x : Lot) : (s.lotEnd x).outside = s.outside :=
  foldl_outside _ (fun s d => by simp only; split <;> simp) ..
@[simp] theorem judgeLot_outside (k : Fin 16) : (s.judgeLot k).outside = s.outside := by
  unfold State.judgeLot
  split
  · rfl
  · split
    · simp; rfl
    · simp
@[simp] theorem judgeLots_outside : s.judgeLots.outside = s.outside := foldl_outside _ judgeLot_outside ..
@[simp] theorem lotAdmit_outside (t : Tag) (x : Lot) (g : Option GateIx) : (s.lotAdmit t x g).1.outside = s.outside := by
  unfold State.lotAdmit
  split; · rfl
  split
  · split; · rfl
    split
    · simp; rfl
    · cases g <;> simp
  · split
    · simp only [judgeLots_outside]
      split <;> simp <;> rfl
    · simp
@[simp] theorem lotRemove_outside (r : Record) (b : Bool) : (s.lotRemove r b).outside = s.outside := by
  unfold State.lotRemove
  split; · rfl
  rw [judgeLots_outside]
  exact foldl_outside _ (fun s k => setLotSlot_outside s k _) ..
@[simp] theorem lotMarked_outside (a : Addr) (f : LotMarkFrame) : (s.lotMarked a f).outside = s.outside := by
  unfold State.lotMarked
  split; · rfl
  split <;> [rfl; simp]

/-! ### Train -/

@[simp] theorem updateRecord_outside (t : Tag) (f : Record → Record) : (s.updateRecord t f).outside = s.outside := rfl
@[simp] theorem replaceRecord_outside (r : Record) : (s.replaceRecord r).outside = s.outside := rfl
@[simp] theorem markFresh_outside (t : Tag) : (s.markFresh t).outside = s.outside := rfl
@[simp] theorem handCount_outside : s.handCount.outside = s.outside := rfl
@[simp] theorem addRecord_outside (r : Record) : (s.addRecord r).outside = s.outside := rfl
@[simp] theorem handToLots_outside (t : Tag) (x : Lot) (g : Option GateIx) : (s.handToLots t x g).outside = s.outside := by
  unfold State.handToLots; simp only; split <;> simp
@[simp] theorem allocate_outside : s.allocate.2.outside = s.outside := rfl
@[simp] theorem takeOut_outside (t : Tag) : (s.takeOut t).outside = s.outside := rfl
@[simp] theorem queueLost_outside (t : Tag) (c : RemovalCause) : (s.queueLost t c).outside = s.outside := by
  unfold State.queueLost; split <;> simp
@[simp] theorem removalFault_outside (r : Record) (c : RemovalCause) (u : Option FaultUnit) :
    (s.removalFault r c u).outside = s.outside := by
  unfold State.removalFault; split <;> simp
@[simp] theorem alarmAt_outside (c : RemovalCause) : (s.alarmAt c).outside = s.outside := by
  unfold State.alarmAt; split <;> rfl
@[simp] theorem removeRecord_outside (r : Record) (c : RemovalCause) (u : Option FaultUnit) :
    (s.removeRecord r c u).outside = s.outside := by
  simp [State.removeRecord]
@[simp] theorem clearIfPassed_outside (t : Tag) : (s.clearIfPassed t).outside = s.outside := by
  unfold State.clearIfPassed
  split <;> [skip; rfl]
  split <;> simp
@[simp] theorem clearIfMoved_outside (r : Record) : (s.clearIfMoved r).outside = s.outside := by
  unfold State.clearIfMoved
  split <;> [skip; rfl]
  split <;> simp
@[simp] theorem markReject_outside (t : Tag) : (s.markReject t).outside = s.outside := rfl

/-! ### Outlet and transit -/

@[simp] theorem divertFault_outside (k : FaultKind) (r : Record) (d : DestIx) :
    (s.divertFault k r d).outside = s.outside := recordFault_outside ..
@[simp] theorem depart_outside (r : Record) : (s.depart r).outside = s.outside := by
  unfold State.depart; split <;> simp
@[simp] theorem departIfPassed_outside (t : Tag) : (s.departIfPassed t).outside = s.outside := by
  unfold State.departIfPassed
  split
  · split
    · split <;> simp
    · rfl
  · rfl
@[simp] theorem departIfMoved_outside (r : Record) : (s.departIfMoved r).outside = s.outside := by
  unfold State.departIfMoved
  split <;> [skip; rfl]
  split <;> simp
@[simp] theorem requestDivert_outside (r : Record) (e : Pos) (d : DestIx) :
    (s.requestDivert r e d).outside = s.outside := by
  unfold State.requestDivert
  simp only
  split
  · rfl
  · split <;> simp
@[simp] theorem route_outside (t : Tag) : (s.route t).outside = s.outside := by
  unfold State.route
  split
  · rfl
  · split
    · rfl
    · split <;> simp
@[simp] theorem payOutlet_outside : s.payOutlet.outside = s.outside := by
  unfold State.payOutlet
  split
  · rw [foldl_outside _ route_outside, foldl_outside _ payTrigger_outside]
  · rfl
@[simp] theorem extendDivert_outside (r : Record) (m : Nat) : (s.extendDivert r m).outside = s.outside := by
  unfold State.extendDivert
  split
  · split
    · split
      · rfl
      · simp only
        split <;> simp
    · rfl
  · rfl
@[simp] theorem dropHandoff_outside (r : Record) : (s.dropHandoff r).outside = s.outside := by
  unfold State.dropHandoff
  exact recordFault_outside ..
@[simp] theorem queueHandoff_outside (r : Record) : (s.queueHandoff r).outside = s.outside := by
  unfold State.queueHandoff State.offer
  cases s.roomFor (.handoff (handoffFrame r)) <;> simp
@[simp] theorem slipLesson_outside (r : Record) (x : Pos) : (s.slipLesson r x).outside = s.outside := by
  unfold State.slipLesson
  split
  · split <;> rfl
  · rfl
@[simp] theorem takeExitReject_outside (t : Tag) : (s.takeExitReject t).outside = s.outside := by
  unfold State.takeExitReject; split <;> rfl
@[simp] theorem exitSteps_outside (t : Tag) (c : Option Pos) : (s.exitSteps t c).outside = s.outside := by
  unfold State.exitSteps
  simp only
  split
  · simp
  · cases c <;> simp
@[simp] theorem reckonExit_outside (r : Record) : (s.reckonExit r).outside = s.outside := by
  unfold State.reckonExit; simp
@[simp] theorem reckonExitIfPassed_outside (t : Tag) : (s.reckonExitIfPassed t).outside = s.outside := by
  unfold State.reckonExitIfPassed
  split
  · split <;> simp
  · rfl
@[simp] theorem reckon_outside (r : Record) : (s.reckon r).outside = s.outside := by
  unfold State.reckon; split <;> simp
@[simp] theorem reckonIfPassed_outside (t : Tag) : (s.reckonIfPassed t).outside = s.outside := by
  unfold State.reckonIfPassed
  split
  · split
    · rfl
    · split <;> simp
    · rfl
  · rfl

/-! ### Matching -/

@[simp] theorem stopWaiting_outside (t : Tag) : (s.stopWaiting t).outside = s.outside := rfl
@[simp] theorem advanceLead_outside (r : Record) (k : Checkpoint) (e b : Pos) (c : Bool) :
    (s.advanceLead r k e b c).outside = s.outside := by
  unfold State.advanceLead; cases k <;> simp
@[simp] theorem spendCredit_outside (i : Option Nat) : (s.spendCredit i).outside = s.outside := by
  unfold State.spendCredit; split <;> rfl
@[simp] theorem stray_outside (k : Checkpoint) (x : Edge) : (s.stray k x).outside = s.outside := by
  unfold State.stray
  split
  · simp
  · split
    · simp
    · simp only
      cases k <;> cases creditIndex s.watch <;> simp
@[simp] theorem leadingEdge_outside (k : Checkpoint) (x : Edge) : (s.leadingEdge k x).outside = s.outside := by
  unfold State.leadingEdge
  simp only
  split
  · simp
  · split
    · rfl
    · split <;> simp
@[simp] theorem verdict_outside (r : Record) (m : Nat) (x : Edge) : (s.verdict r m x).outside = s.outside := by
  unfold State.verdict
  split
  · rfl
  · split <;> simp
@[simp] theorem advanceTrail_outside (r : Record) (k : Checkpoint) : (s.advanceTrail r k).outside = s.outside := by
  unfold State.advanceTrail
  split
  · rfl
  · cases k <;> simp
@[simp] theorem measured_outside (r : Record) (k : Checkpoint) (x : Edge) : (s.measured r k x).outside = s.outside := by
  unfold State.measured
  split
  · rfl
  · split <;> simp
@[simp] theorem trailingEdge_outside (k : Checkpoint) (x : Edge) : (s.trailingEdge k x).outside = s.outside := by
  unfold State.trailingEdge
  simp only
  split
  · rfl
  · exact (foldl_outside _ (fun s r => advanceTrail_outside s r k) ..).trans (by simp)
@[simp] theorem edge_outside (x : Edge) : (s.edge x).outside = s.outside := by
  unfold State.edge
  split
  · rfl
  · split <;> simp
@[simp] theorem miss_outside (r : Record) (k : Checkpoint) (e : EyeIx) : (s.miss r k e).outside = s.outside := by
  simp [State.miss]
@[simp] theorem exitDoubleMark_outside (r : Record) (k : Checkpoint) : (s.exitDoubleMark r k).outside = s.outside := by
  unfold State.exitDoubleMark; split <;> simp
@[simp] theorem passOn_outside (t : Tag) (k : Checkpoint) (e : EyeIx) : (s.passOn t k e).outside = s.outside := by
  unfold State.passOn; split <;> simp
@[simp] theorem decideClosure_outside (r : Record) (k : Checkpoint) (e : EyeIx) (c : Pos) :
    (s.decideClosure r k e c).outside = s.outside := by
  unfold State.decideClosure
  split
  · simp
  · split <;> simp
@[simp] theorem closeWindow_outside (r : Record) : (s.closeWindow r).outside = s.outside := by
  unfold State.closeWindow
  split
  · rfl
  · split
    · rfl
    · simp
@[simp] theorem redecide_outside (w : Waiting) : (s.redecide w).outside = s.outside := by
  unfold State.redecide
  split
  · rfl
  · split
    · rfl
    · split <;> simp
@[simp] theorem missIfClosed_outside (t : Tag) : (s.missIfClosed t).outside = s.outside := by
  unfold State.missIfClosed
  split
  · rfl
  · split
    · rfl
    · split <;> simp

/-! ### Hold, space, gates -/

@[simp] theorem queueHold_outside : s.queueHold.outside = s.outside := by
  unfold State.queueHold; split <;> rfl
@[simp] theorem restartPatience_outside (g : GateIx) : (s.restartPatience g).outside = s.outside := rfl
@[simp] theorem dropOwn_outside (g : GateIx) : (s.dropOwn g).outside = s.outside := rfl
@[simp] theorem dropPeer_outside (a : Addr) (g : GateIx) : (s.dropPeer a g).outside = s.outside := rfl
@[simp] theorem voidQueued_outside (g : GateIx) : (s.voidQueued g).outside = s.outside := rfl
@[simp] theorem queueWithdraw_outside (g : GateIx) : (s.queueWithdraw g).outside = s.outside := by
  unfold State.queueWithdraw State.offer
  cases s.roomFor (.withdraw g) <;> simp
@[simp] theorem withdrawEntry_outside (g : GateIx) : (s.withdrawEntry g).outside = s.outside := by
  unfold State.withdrawEntry
  split
  · rfl
  · split <;> simp
@[simp] theorem withdraw_outside (g : GateIx) : (s.withdraw g).outside = s.outside := by
  unfold State.withdraw; split <;> simp
@[simp] theorem reservationAtCommit_outside (g : GateIx) (x : Pos) : (s.reservationAtCommit g x).outside = s.outside := by
  unfold State.reservationAtCommit
  split
  · rfl
  · split
    · split <;> simp
    · simp
@[simp] theorem withdrawSuspended_outside : s.withdrawSuspended.outside = s.outside :=
  foldl_outside _ withdrawEntry_outside ..
@[simp] theorem noteUndone_outside (g : GateIx) : (s.noteUndone g).outside = s.outside := by
  unfold State.noteUndone; split <;> rfl
@[simp] theorem sendReservation_outside (g : GateIx) : (s.sendReservation g).outside = s.outside := rfl
@[simp] theorem ownReserveHeard_outside (g : GateIx) : (s.ownReserveHeard g).outside = s.outside := by
  unfold State.ownReserveHeard
  split
  · simp
  · split
    · simp
    · split
      · simp
      · simp only
        split
        · simp [State.standOwn]; rfl
        · rfl
@[simp] theorem expireEntry_outside (r : Reservation) : (s.expireEntry r).outside = s.outside := by
  unfold State.expireEntry
  split
  · split <;> simp
  · simp
@[simp] theorem breakReservations_outside (r : Record) : (s.breakReservations r).outside = s.outside :=
  foldl_outside _ expireEntry_outside ..
@[simp] theorem commitAnnounced_outside (g : GateIx) (c : Cls) (x : Lot) (n : Nat) (f : Flags) :
    (s.commitAnnounced g c x n f).1.outside = s.outside := by
  simp [State.commitAnnounced]
@[simp] theorem requestRelease_outside (g : GateIx) (c : Pos) (t : Tag) : (s.requestRelease g c t).outside = s.outside := by
  unfold State.requestRelease; simp only; split <;> simp
@[simp] theorem commitItem_outside (g : GateIx) : (s.commitItem g).outside = s.outside := by
  unfold State.commitItem; simp only; split <;> simp
@[simp] theorem commitSpacer_outside (g : GateIx) : (s.commitSpacer g).outside = s.outside := by
  simp [State.commitSpacer]
@[simp] theorem beginSpacer_outside (g : GateIx) : (s.beginSpacer g).outside = s.outside := rfl
@[simp] theorem queueMark_outside (g : GateIx) : (s.queueMark g).outside = s.outside := by
  unfold State.queueMark State.offer
  split
  · rename_i m _
    cases s.roomFor (s.markFrame g m) <;> simp
  · rfl
@[simp] theorem queueMarks_outside : s.queueMarks.outside = s.outside := foldl_outside _ queueMark_outside ..
@[simp] theorem applyLotChange_outside (g : GateIx) (n : Lot) : (s.applyLotChange g n).outside = s.outside := by
  simp [State.applyLotChange]
@[simp] theorem applyPendingLot_outside (g : GateIx) : (s.applyPendingLot g).outside = s.outside := by
  unfold State.applyPendingLot; split <;> simp
@[simp] theorem ownLotmarkHeard_outside (f : LotMarkFrame) : (s.ownLotmarkHeard f).outside = s.outside := by
  unfold State.ownLotmarkHeard
  simp only
  split
  · split <;> simp
  · rfl
@[simp] theorem endRelease_outside (g : GateIx) : (s.endRelease g).outside = s.outside := by simp [State.endRelease]
@[simp] theorem cancelRecord_outside (g : GateIx) (t : Tag) : (s.cancelRecord g t).outside = s.outside := by
  unfold State.cancelRecord; split <;> simp
@[simp] theorem cancelRelease_outside (g : GateIx) (r : Release) : (s.cancelRelease g r).outside = s.outside := by
  unfold State.cancelRelease
  simp only
  split <;> simp
@[simp] theorem stopRelease_outside (g : GateIx) (r : Release) : (s.stopRelease g r).outside = s.outside := by
  simp [State.stopRelease]
@[simp] theorem settleRelease_outside (g : GateIx) : (s.settleRelease g).outside = s.outside := by
  unfold State.settleRelease
  split
  · split
    · split <;> simp
    · split
      · simp
      · simp only
        split <;> simp
  · rfl
@[simp] theorem settleReleases_outside : s.settleReleases.outside = s.outside := foldl_outside _ settleRelease_outside ..
@[simp] theorem alertAfresh_outside : s.alertAfresh.outside = s.outside := by
  unfold State.alertAfresh; rfl

/-- The follow-up of an event changes nothing outside. -/
@[simp] theorem refresh_outside : s.refresh.outside = s.outside := by simp [State.refresh]
@[simp] theorem decideWaiting_outside (w : Waiting) : (s.decideWaiting w).outside = s.outside := by
  unfold State.decideWaiting; split <;> simp
@[simp] theorem candidateEnded_outside (e : EyeIx) : (s.candidateEnded e).outside = s.outside := by
  unfold State.candidateEnded
  split
  · rfl
  · exact foldl_outside _ decideWaiting_outside ..

/-! ### Events -/

@[simp] theorem acceptCandidate_outside (e : EyeIx) (c : Candidate) : (s.acceptCandidate e c).outside = s.outside := by
  unfold State.acceptCandidate
  simp only [candidateEnded_outside]
  split <;> simp
@[simp] theorem acceptIfDue_outside (e : EyeIx) : (s.acceptIfDue e).outside = s.outside := by
  unfold State.acceptIfDue
  split
  · split <;> simp
  · rfl
@[simp] theorem onEdgeAccepted_outside (e : EyeIx) : (s.onEdgeAccepted e).outside = s.outside := by
  unfold State.onEdgeAccepted; split <;> simp
@[simp] theorem onJam_outside (e : EyeIx) : (s.onJam e).outside = s.outside := by
  unfold State.onJam; split <;> simp
@[simp] theorem onPulseRetired_outside (c : ChannelIx) : (s.onPulseRetired c).outside = s.outside := by
  unfold State.onPulseRetired; split <;> simp
@[simp] theorem takeEvent_outside (r : Record) (k : TravelEvent) : (s.takeEvent r k).outside = s.outside := by
  cases k <;> simp [State.takeEvent]
@[simp] theorem settleTrain_outside (n : Nat) : (s.settleTrain n).outside = s.outside := by
  induction n generalizing s with
  | zero => rfl
  | succ n ih =>
    unfold State.settleTrain
    split <;> simp [ih]
@[simp] theorem onGateCommit_outside (g : GateIx) : (s.onGateCommit g).outside = s.outside := by
  unfold State.onGateCommit; split <;> simp
@[simp] theorem onSpacerCommit_outside (g : GateIx) : (s.onSpacerCommit g).outside = s.outside := by
  unfold State.onSpacerCommit; split <;> simp
@[simp] theorem onSpacerBegun_outside (g : GateIx) : (s.onSpacerBegun g).outside = s.outside := by
  unfold State.onSpacerBegun; split <;> simp
@[simp] theorem onReleaseEnd_outside (g : GateIx) : (s.onReleaseEnd g).outside = s.outside := by
  unfold State.onReleaseEnd; split <;> simp
@[simp] theorem onPatienceReached_outside (g : GateIx) : (s.onPatienceReached g).outside = s.outside := by
  unfold State.onPatienceReached; split <;> simp
@[simp] theorem onReservationSent_outside (g : GateIx) : (s.onReservationSent g).outside = s.outside := by
  unfold State.onReservationSent; split <;> simp
@[simp] theorem onReservationVoid_outside (g : GateIx) : (s.onReservationVoid g).outside = s.outside := by
  unfold State.onReservationVoid; split <;> simp
@[simp] theorem onReservationWithdrawn_outside (g : GateIx) : (s.onReservationWithdrawn g).outside = s.outside := by
  unfold State.onReservationWithdrawn; split <;> simp
@[simp] theorem onReservationExpiry_outside (a : Addr) (g : GateIx) : (s.onReservationExpiry a g).outside = s.outside := by
  unfold State.onReservationExpiry; split <;> simp
@[simp] theorem onLotmarkQueued_outside (g : GateIx) : (s.onLotmarkQueued g).outside = s.outside := by
  unfold State.onLotmarkQueued; split <;> simp
@[simp] theorem onWithdrawQueued_outside (g : GateIx) : (s.onWithdrawQueued g).outside = s.outside := by
  unfold State.onWithdrawQueued; split <;> simp
@[simp] theorem onHoldQueued_outside : s.onHoldQueued.outside = s.outside := by
  unfold State.onHoldQueued; split <;> simp

@[simp] theorem beginSpacers_outside : s.beginSpacers.outside = s.outside := foldl_outside _ onSpacerBegun_outside ..
@[simp] theorem voidReached_outside : s.voidReached.outside = s.outside := foldl_outside _ onReservationVoid_outside ..
@[simp] theorem settleMatching_outside : s.settleMatching.outside = s.outside :=
  (settleTrain_outside _ _).trans (foldl_outside _ onEdgeAccepted_outside ..)

@[simp] theorem settleExpiries_outside : s.settleExpiries.outside = s.outside :=
  foldl_outside (fun (s : State) (r : Reservation) => s.onReservationExpiry r.reserver r.gate)
    (fun s r => onReservationExpiry_outside s r.reserver r.gate) s.reservations s

@[simp] theorem settleGate_outside (g : GateIx) : (s.settleGate g).outside = s.outside := by simp [State.settleGate]
@[simp] theorem gateRound_outside : s.gateRound.outside = s.outside :=
  (foldl_outside _ onWithdrawQueued_outside ..).trans ((foldl_outside _ onLotmarkQueued_outside ..).trans
    ((foldl_outside _ onReservationWithdrawn_outside ..).trans (foldl_outside _ settleGate_outside ..)))
@[simp] theorem settleGates_outside (n : Nat) : (s.settleGates n).outside = s.outside := by
  induction n generalizing s with
  | zero => rfl
  | succ n ih =>
    unfold State.settleGates
    split <;> simp [ih]

/-- Settling what a step brought due changes nothing outside: no counter, no setting, no tracker state. -/
@[simp] theorem settle_outside : s.settle.outside = s.outside := by
  unfold State.settle
  simp only [onHoldQueued_outside]
  rw [settleGates_outside, settleExpiries_outside,
    voidReached_outside, foldl_outside _ onPatienceReached_outside, beginSpacers_outside,
    foldl_outside _ onReleaseEnd_outside, settleTrain_outside,
    foldl_outside _ onJam_outside, foldl_outside _ onPulseRetired_outside, foldl_outside _ onEdgeAccepted_outside]

end Sys2Proof.Machine
end

