-- ==== Sys2Proof/Laws/Answers.lean ====
section
/-! SUPPORT. What the shared operations answer: one lemma per operation that says everything it can do, and the small lemmas
of the train, the channels, the stacks and the port. -/

namespace Sys2Proof.Machine

/-! ### The train (R51) -/

/-- Setting a record where the order puts it adds that record and no other. -/
theorem insertRecord_perm (r : Record) (l : List Record) : (insertRecord r l).Perm (r :: l) := by
  induction l with
  | nil => exact .refl _
  | cons x l ih =>
    unfold insertRecord
    split
    · exact .refl _
    · exact (ih.cons x).trans (.swap r x l)

@[simp] theorem mem_insertRecord {r x : Record} {l : List Record} : x ∈ insertRecord r l ↔ x = r ∨ x ∈ l := by
  rw [(insertRecord_perm r l).mem_iff, List.mem_cons]

@[simp] theorem length_insertRecord (r : Record) (l : List Record) : (insertRecord r l).length = l.length + 1 :=
  (insertRecord_perm r l).length_eq

variable (s : State)

/-- A record found by its tag is a record of the train and bears the tag. -/
theorem findRecord_some {tag : Tag} {r : Record} (h : s.findRecord tag = some r) : r ∈ s.train ∧ r.tag = tag :=
  ⟨List.mem_of_find?_eq_some h, by simpa using List.find?_some h⟩

/-- Everything a moved clearance position can do (R59): nothing, or what CLEARED does. -/
theorem clearIfMoved_cases (r : Record) : s.clearIfMoved r = s ∨ s.clearIfMoved r = s.clearIfPassed r.tag := by
  unfold State.clearIfMoved
  split
  · split
    · exact .inl rfl
    · exact .inr rfl
  · exact .inl rfl

/-- Everything a moved departure position can do (R155): nothing, or what DEPARTED does. -/
theorem departIfMoved_cases (r : Record) : s.departIfMoved r = s ∨ s.departIfMoved r = s.departIfPassed r.tag := by
  unfold State.departIfMoved
  split
  · split
    · exact .inl rfl
    · exact .inr rfl
  · exact .inl rfl

/-- Everything the end of a wait can do with one closure (R84): its record is gone or has no window any more, it awaits
again as one that gained UNVERIFIED does, or it is decided. -/
theorem redecide_cases (w : Waiting) :
    s.redecide w = s ∨ ∃ r k e closing, s.findRecord w.tag = some r ∧ s.windowOf r = some (k, e, closing) ∧
      (w.widened = false ∨ atOrPast (s.pos r.basis) closing = true) ∧ s.redecide w = s.decideClosure r k e closing := by
  unfold State.redecide
  split
  · exact .inl rfl
  · rename_i r hr
    split
    · exact .inl rfl
    · rename_i k e closing hw
      split
      · exact .inl rfl
      · rename_i hx
        refine .inr ⟨r, k, e, closing, hr, hw, ?_, rfl⟩
        revert hx
        cases w.widened <;> cases atOrPast (s.pos r.basis) closing <;> simp

/-! ### Channels (R35, R43) -/

/-- Taking the output afresh moves no pulse: it sets the level, and notes a pulse as started only where it drives. -/
theorem afresh_cases (c : Channel) (p : Pos) (running ended : Bool) :
    c.afresh p running ended = { c with output := false } ∨
      (running = true ∧ ended = true ∧ (∃ q, c.next = some q ∧ inSpan p q.start q.stop = true) ∧
        c.afresh p running ended = { c with output := true, next := pulseStarted c.next }) ∨
      (running = true ∧ ended = false ∧ (∃ q, c.active = some q ∧ inSpan p q.start q.stop = true) ∧
        c.afresh p running ended = { c with output := true, active := pulseStarted c.active }) := by
  have drives : ∀ q, pulseDrives q p running = true →
      running = true ∧ ∃ a, q = some a ∧ inSpan p a.start a.stop = true := by
    intro q h
    cases q <;> simp_all [pulseDrives]
  unfold Channel.afresh
  split
  · split
    · rename_i h
      exact .inr (.inl ⟨(drives _ h).1, ‹_›, (drives _ h).2, rfl⟩)
    · exact .inl rfl
  · split
    · rename_i he h
      exact .inr (.inr ⟨(drives _ h).1, by simpa using he, (drives _ h).2, rfl⟩)
    · exact .inl rfl

@[simp] theorem shown_input (x : Channel) : (s.shown x).input = x.input := by
  obtain h | ⟨-, -, -, h⟩ | ⟨-, -, -, h⟩ := afresh_cases x (s.pos x.input) (s.mode == .running) (s.ended x) <;>
    rw [State.shown, h]
@[simp] theorem shown_mode (x : Channel) : (s.shown x).mode = x.mode := by
  obtain h | ⟨-, -, -, h⟩ | ⟨-, -, -, h⟩ := afresh_cases x (s.pos x.input) (s.mode == .running) (s.ended x) <;>
    rw [State.shown, h]
@[simp] theorem shown_owner (x : Channel) : (s.shown x).owner = x.owner := by
  obtain h | ⟨-, -, -, h⟩ | ⟨-, -, -, h⟩ := afresh_cases x (s.pos x.input) (s.mode == .running) (s.ended x) <;>
    rw [State.shown, h]

/-- Outside RUNNING every output is low (R45, R110). -/
theorem shown_output_stopped (x : Channel) (h : s.mode ≠ .running) : (s.shown x).output = false := by
  obtain h' | ⟨hr, -⟩ | ⟨hr, -⟩ := afresh_cases x (s.pos x.input) (s.mode == .running) (s.ended x)
  · rw [State.shown, h']
  · simp_all
  · simp_all

/-! ### Stacks (R157 to R159) -/

@[simp] theorem requestTrigger_dests (d : DestIx) : (s.requestTrigger d).1.dests = s.dests := by
  unfold State.requestTrigger
  simp only
  split <;> simp [State.request]

/-- A trigger touches channels and faults, no destination. -/
@[simp] theorem trigger_dests (d : DestIx) (x : Lot) (n : Nat) : (s.trigger d x n).dests = s.dests := by
  unfold State.trigger
  simp only
  split <;> simp [State.stackBusy]

/-- Everything closing a stack does to its destination: the count restarts, the closure is the last one, and it owes its
trigger where input A moves in reverse, in place of any that was owed (assumption log 43). -/
theorem closeStack_dest (d : DestIx) (reason : ClosureReason) :
    (s.closeStack d reason).dest d =
      (
        let last : Option LastClosure :=
          some { lot := (s.dest d).stackLot, count := (s.dest d).count, reason := reason }
        { s.dest d with count := 0, last := last, owed := if s.travelA.reverse then last else (s.dest d).owed }) := by
  unfold State.closeStack State.outletWaits
  simp only
  split
  · simp
  · simp only [State.dest, trigger_dests]
    simp [State.setDest]

/-- An owed trigger is paid once: the destination owes none, and keeps all else. -/
theorem payTrigger_dest (d : DestIx) : (s.payTrigger d).dest d = { s.dest d with owed := none } := by
  unfold State.payTrigger
  split
  · simp [State.dest, State.setDest]
  · rename_i h
    cases hd : s.dest d
    simp_all

/-! ### Gates (R96) -/

/-- Where no gate has an event, settling the gates does nothing, however many rounds it may take. -/
theorem settleGates_none (n : Nat) (h : s.gatesDue = false) : s.settleGates n = s := by
  cases n <;> simp [State.settleGates, h]

/-- A reservation is noted as undone where its gate holds none, and nothing else changes. -/
theorem noteUndone_eq (g : GateIx) :
    s.noteUndone g = { s with
      undoneReserves := if (s.ownReservation g).isNone then g :: s.undoneReserves else s.undoneReserves } := by
  unfold State.noteUndone
  split <;> simp_all

/-! ### Waiting closures (R84) and trailing edges (R59, R77) -/

/-- Everything deciding a waiting closure can do: nothing where it waits no more, else its decision as an event. -/
theorem decideWaiting_cases (w : Waiting) :
    ((s.waiting.any fun y => y.tag == w.tag) = false ∧ s.decideWaiting w = s) ∨
      ((s.waiting.any fun y => y.tag == w.tag) = true ∧
        s.decideWaiting w = ((s.stopWaiting w.tag).redecide w).refresh) := by
  unfold State.decideWaiting
  cases s.waiting.any fun y => y.tag == w.tag <;> simp

/-- Where no closure waits on an eye, the end of its candidate decides nothing. -/
theorem candidateEnded_none (e : EyeIx) (h : ∀ w ∈ s.waiting, w.eye ≠ e) : s.candidateEnded e = s := by
  have : (s.waiting.filter fun w => w.eye == e) = [] := by simpa using h
  simp [State.candidateEnded, this]

/-- Away from a FEED length eye, a record takes a trailing edge exactly where it awaits one on the lane. -/
theorem takesTrail_elsewhere (k : Checkpoint) (lane : Lane) (r : Record) (h : k ≠ .feed) :
    s.takesTrail k lane r = (r.awaitsTrail k && r.lane == lane) := by
  simp [State.takesTrail, h]

/-! ### Frames on the wire (R176) -/

@[simp] theorem bitsMsb_length {n : Nat} (v : BitVec n) : (bitsMsb v).length = n := by simp [bitsMsb]

/-- A frame of n payload bytes takes 37 + 8n bits, the start bit first. -/
theorem frame_bits_length (sender : Addr) (f : Frame) : (f.bits sender).length = 37 + 8 * f.payload.length := by
  have h : (f.payload.flatMap bitsMsb).length = 8 * f.payload.length := by
    induction f.payload with
    | nil => rfl
    | cons x l ih => simp only [List.flatMap_cons, List.length_append, List.length_cons, bitsMsb_length, ih]; omega
  simp only [Frame.bits, Frame.coveredBits, List.length_cons, List.length_append, List.length_replicate, bitsMsb_length, h]
  omega

/-- Nothing stands on the wire while no attempt is under way. -/
theorem onWire_none (h : s.attempting = false) : s.onWire = none := by
  simp only [State.attempting, List.any_eq_false] at h
  simp only [State.onWire, Option.map_eq_none_iff, List.find?_eq_none]
  exact h

/-! ### The port (R188) -/

/-- SDO is high while the command byte and the parameters are clocked in. -/
theorem sdoByte_command {n i : Nat} (response : List Byte) (h : i < n) : sdoByte n response i = 0xFF := if_pos h

/-- Then it carries the response, and 0x00 after its end. -/
theorem sdoByte_response (n k : Nat) (response : List Byte) : sdoByte n response (n + k) = response.getD k 0 := by
  simp [sdoByte]

@[simp] theorem sdo_length (n k : Nat) : (s.sdo n k).length = k := by simp [State.sdo]

end Sys2Proof.Machine
end

