-- ==== Sys2Proof/Tests/Slice0.lean ====
section
/-! SUPPORT. The model's own tests: the checks of WellFormed, worked values of the spec, and for each statement concrete
states and operands that meet its hypotheses. Every state is built from a few helpers over `State.reset`. -/

set_option Elab.async false

namespace Sys2Proof.Tests

open Sys2Proof Sys2Proof.Machine

/-! ### Small states -/

/-- The state a command answers. -/
def after (o : Host.Outcome State Fault Refusal) : State :=
  match o with
  | .next t => t
  | _ => State.reset

def travelAt (p : Pos) : Travel := { Travel.reset with position := p, pitch := 4096, reference := some (false, false) }

def eyeOf (f : EyeFunction) (input : TravelInput) : Eye :=
  { Eye.reset with
    set := { Eye.reset.set with
      enable := true, function := f, input := input, offset := 20, filter := 5, jamLength := 300 } }

def openGate : Gate :=
  { Gate.reset with
    set := { enable := true, lanes := 1, channel := some 0, wait := 20, active := 30, patience := 100, lead := 60
             spacerLength := 40, autoHold := false, initialLot := 7 }
    lot := some 7 }

/-- A RUNNING tracker at 5000 on input A and 900 on input B, one step past 4999, that watches three others. -/
def line (role : Role) : State :=
  { State.reset with
    mode := .running, role := some role, address := some 3, travelA := travelAt 5000, travelB := travelAt 900
    lastStep := some { input := .a, before := 4999, forward := true }, baseWidth := 40, propWidth := 20
    classes := Vector.replicate 16 { nominal := 100, tolerance := 10, gap := 60, dest := 1 }
    watch := [{ place := 0, address := 20, offset := 300, expected := some 2, credits := 0 },
      { place := 1, address := 21, offset := -200, expected := none, credits := 0 },
      { place := 2, address := 22, offset := 6000, expected := some 2, credits := 0 }] }

/-- A FEED tracker with one length eye on lane 0 and one gate on channel 0. -/
def feed : State :=
  { line .feed with
    eyes := State.reset.eyes.set 0 (eyeOf .feedLength .a), gates := State.reset.gates.set 0 openGate
    channels := State.reset.channels.set 0 { Channel.reset with owner := .gate 0 } }

/-- An IRONER tracker with one exit eye on lane 0, travelling on input B, that learns slip. -/
def ironer : State :=
  { line .ironer with
    eyes := State.reset.eyes.set 0 (eyeOf .exit .b)
    lastStep := some { input := .b, before := 899, forward := true }
    ironer := some { pathLength := 500, slipInitial := 16384, learning := true, reload := false } }

/-- An OUTLET tracker with one entry eye on lane 0, whose destination 1 diverts on channel 1 and stacks three items. -/
def outlet : State :=
  { line .outlet with
    eyes := State.reset.eyes.set 0 (eyeOf .outletEntry .a)
    channels := State.reset.channels.set 1 { Channel.reset with mode := .merge, owner := .divert 1 }
    dests := State.reset.dests.set 1 { Dest.reset with
      set := { Dest.reset.set with divert := some 1, xd := 50, mb := 5, ma := 10, stackSize := 3 } } }

def item : Record :=
  { tag := { origin := 20, serial := 5 }, cls := 1, lot := 255, gate := some 0, lanes := 1, nominal := 100
    measured := none, stage := .pending, basis := .a, p := 4990, h := 60, lead := none, entryB := none, dest := none
    flags := {}, order := 0 }

def withItem (s : State) (r : Record) : State := { s with train := [r] }

/-- Eye 0 with a due candidate for the given level, begun at 5000 on input A and 900 on input B. -/
def change (l : Level) : Candidate := { level := l, snapA := 5000, snapB := 900, dist := 5 }

def withChange (s : State) (l : Level) : State :=
  s.setEye 0 { s.eye 0 with candidate := some (change l), accepted := if l = .clear then .blocked else .clear }

def withEye (s : State) (f : Eye → Eye) : State := s.setEye 0 (f (s.eye 0))

def withGate (s : State) (f : Gate → Gate) : State := s.setGate 0 (f (s.gate 0))

/-- A gate with class 1 loaded. -/
def loaded (x : Gate) : Gate := { x with state := .ready, cls := some 1 }

/-- A release of the given tag that ends at 5000. -/
def releaseOf (tag : Tag) (spacer : Bool) : Release :=
  { commit := 4950, stop := 5000, tag := tag, spacer := spacer, begun := false, prevRejectNext := false, prevLast := none }

def releasing (x : Gate) : Gate :=
  { x with state := .releasing, cls := some 1, release := some (releaseOf { origin := 3, serial := 0 } false) }

def ownEntry (start : Pos) (phase : ReservationPhase) : Reservation :=
  { reserver := 3, gate := 0, lanes := 1, start := start, stop := Pos.plus start 50, own := true, phase := phase }

def peerEntry (start : Pos) : Reservation :=
  { reserver := 20, gate := 0, lanes := 1, start := start, stop := Pos.plus start 50, own := false, phase := .standing }

def sent (f : Frame) : TxFrame := { TxFrame.new f 5100 with underWay := true }

def withQueue (s : State) (q : TxFrame) : State := { s with queue := [q] }

def releaseFrom : ReleaseFrame :=
  { tag := { origin := 20, serial := 6 }, cls := 1, gate := 0, lot := 9, lanes := 1, reject := false, spacer := false
    length := 100, offset := BitVec.ofInt 13 (-50), seq := 2 }

def handoffFrom (offset : Int) : HandoffFrame :=
  { tag := { origin := 20, serial := 6 }, cls := 1, gate := none, lot := 9, lanes := 1
    flags := { reject := false, double := false, stray := false, recovered := false, unverified := false
               length := false }
    length := 100, offset := BitVec.ofInt 13 offset, seq := 2 }

def lotEntry (sources : List Source) (inFlight : Nat) : LotEntry :=
  { lot := 9, state := if sources ≠ [] then .opened else if 0 < inFlight then .closing else .closed
    inFlight := inFlight, sources := sources, incomplete := false, departed := 0, rejects := 0, noticeUnread := false }

def withLot (s : State) (e : LotEntry) : State := { s with lots := s.lots.set 0 (some e) }

def source : Source := { origin := 20, gate := 0, endMark := .absent, highest := some 5 }

def lotmarkFrom (last : Option Tag) : LotMarkFrame := { gate := 0, old := 9, new := 10, last := last }

/-- A descriptor that JOIN accepts: a FEED tracker at address 3 with a pitch on input A and gate 0 on channel 0. -/
def goodStore : Store :=
  let put := fun (st : State) (x : ItemId × BitVec 32) => after (exec (.descriptorWrite x.1 x.2) st)
  let items : List (ItemId × BitVec 32) :=
    [(⟨1, 0, 1⟩, 3), (⟨1, 0, 2⟩, 1), (⟨2, 0, 1⟩, 4096), (⟨8, 0, 1⟩, 1), (⟨8, 0, 2⟩, 1), (⟨8, 0, 5⟩, 30), (⟨8, 0, 8⟩, 40),
      (⟨8, 1, 3⟩, 8), (⟨8, 2, 3⟩, 8), (⟨8, 3, 3⟩, 8), (⟨12, 0, 2⟩, 1)] ++
    (List.range 16).map (fun c => (⟨6, BitVec.ofNat 8 c, 1⟩, 100)) ++
    (List.range 8).map (fun e => (⟨3, BitVec.ofNat 8 e, 9⟩, 300))
  ((items.foldl put State.reset).store)

def heldPulse : Pulse := { start := 100, stop := 200, refs := [item.tag], started := true }

def laterPulse : Pulse := { start := 300, stop := 400, refs := [{ origin := 20, serial := 7 }], started := false }

/-- A trigger span ahead of travel. -/
def laterOn : Pulse := { start := 5100, stop := 5150, refs := [], started := false }

/-- A lot table without an empty slot: every entry open, and the same with slot 3 closed and unread. -/
def openLots : Vector (Option LotEntry) 16 :=
  Vector.ofFn fun k => some { lotEntry [source] 0 with lot := BitVec.ofNat 8 (100 + k.val) }

def fullLots : Vector (Option LotEntry) 16 := openLots.set 3 (some { lotEntry [] 0 with lot := 103, noticeUnread := true })

/-- The last item of lot 9 at its departure position, its source marked at its own serial. -/
def departing : Record := { item with lot := 9, stage := .leaving, dest := some 1, lead := some 4840 }

def marked : LotEntry := lotEntry [{ origin := 20, gate := 0, endMark := .serial 5, highest := none }] 1

/-- The outlet as that item departs onto a stack of its lot that holds one. -/
def lastOfLot : State :=
  { withLot (withItem outlet departing) marked with
    dests := outlet.dests.set 1 { outlet.dest 1 with
      count := 1, stackLot := 9
      set := { (outlet.dest 1).set with stackChannel := some 2, stackWait := 10, stackActive := 20 } } }

/-- The same with both slots of the stack channel taken by triggers ahead. -/
def busyStack : State :=
  { lastOfLot with
    channels := outlet.channels.set 2 { Channel.reset with
      active := some laterOn, next := some { laterOn with start := 5200, stop := 5300 } } }

/-- The FEED tracker as the last item of lot 9 reaches its clearance position. -/
def clearing : State := withLot (withItem feed { item with lot := 9, stage := .inside, p := 4840 }) marked

def heldChannel : Channel := { Channel.reset with active := some heldPulse, next := some laterPulse }

/-- The FEED tracker just after gate 0 committed an item of class 1. -/
def committed : State := after (exec (.gateCommit 0) (withGate feed loaded))

/-- The same release with travel inside its pulse, from 5020 on. -/
def begun : State :=
  after (exec (.setAlertMask 0) ({ committed with travelA := travelAt 5020 }.outputsAfresh))

/-- A step on a queue that holds STOP_ASSERTED alone. -/
theorem step_stop (s : State) :
    step { s with pending := [.stopAsserted] } = .next { s with pending := [] }.onStopAsserted := rfl

/-- A full train, far ahead of the eyes, and a full queue. -/
def fullTrain : List Record :=
  (List.range 48).map fun n => { item with tag := { origin := 20, serial := BitVec.ofNat 11 n }, p := 6000, order := n }

def fullQueue : List TxFrame := List.replicate 16 (TxFrame.new (.release releaseFrom) 5100)

/-- An IRONER tracker with one entry eye on lane 0, travelling on input A. -/
def entryLine : State := { ironer with lastStep := feed.lastStep, eyes := State.reset.eyes.set 0 (eyeOf .entry .a) }

def without (s : State) (w : Waiting) : State := { s with waiting := s.waiting.filter fun v => v.tag != w.tag }

/-- What a command leaves without a waiting closure still keeps its record's window at the eye. -/
def keptAt (s : State) (cmd : Instr) (w : Waiting) (e : EyeIx) : Bool :=
  let u := after (exec cmd (without s w))
  (u.findRecord w.tag).any fun x => (u.windowOf x).any fun z => z.2.1 == e


/-! ### WellFormed: each check refuses an ill-formed term -/

theorem test_unknownCommand_with_known_code_refused : (Instr.unknownCommand 0x10).wellFormed = false := by decide
theorem test_unknownCommand_with_unknown_code_accepted : (Instr.unknownCommand 0x05).wellFormed = true := by decide
theorem test_discardedFrame_with_valid_bits_refused :
    (Instr.discardedFrame (Frame.bits 20 (.withdraw 0))).wellFormed = false := by decide +kernel
theorem test_discardedFrame_with_broken_crc_accepted :
    (Instr.discardedFrame ((Frame.bits 20 (.withdraw 0)).set 23 true)).wellFormed = true := by decide +kernel
theorem test_cut_after_last_parameter_refused : (Instr.transactionCut (.command [0x10, 0, 1])).wellFormed = false := by
  decide
theorem test_cut_of_unknown_code_refused : (Instr.transactionCut (.command [0x05])).wellFormed = false := by decide
theorem test_cut_before_last_parameter_accepted : (Instr.transactionCut (.command [0x10, 0])).wellFormed = true := by
  decide

/-! ### Decode: frames and transactions by the layouts of chapters 11 and 12 -/

/-- Chapter 11, "Worked arbitration at the ironer's feed": the payload bytes of tracker 3's RELEASE. -/
theorem test_release_payload_bytes :
    Frame.payload (.release
      { tag := { origin := 3, serial := 440 }, cls := 1, gate := 0, lot := 8, lanes := 15, reject := false
        spacer := false, length := 2900, offset := BitVec.ofInt 13 (-349), seq := 5 }) =
      [0x19, 0xB8, 0x14, 0x08, 0x0F, 0x0B, 0x54, 0xF5, 0x1D] := by decide

/-- The same frame is 37 + 72 bits long. -/
theorem test_release_frame_length :
    (Frame.bits 3 (.release
      { tag := { origin := 3, serial := 440 }, cls := 1, gate := 0, lot := 8, lanes := 15, reject := false
        spacer := false, length := 2900, offset := BitVec.ofInt 13 (-349), seq := 5 })).length = 109 := by
  decide +kernel

/-- R189: LOAD of class 3 at gate 2. -/
theorem test_port_load : portDecode [0x10, 0x02, 0x03] = some (.load 2 3) := by decide
theorem test_port_cut : portDecode [0x10, 0x02] = some (.transactionCut (.command [0x10, 0x02])) := by decide

/-! ### Chapter 01: travel and positions -/

/-- "Worked count across the wrap": the first forward step carries to position 0 and fraction 1,771. -/
theorem test_count_forward_wraps :
    let t := Travel.counted { travelAt 16777215 with pitch := 2867, fraction := 3000 } false
    (t.position, t.fraction) = (0, 1771) := by decide +kernel

/-- The last reverse step of the same example borrows across the wrap. -/
theorem test_count_reverse_wraps :
    let t := Travel.counted { travelAt 0 with pitch := 2867, fraction := 1771 } true
    (t.position, t.fraction) = (16777215, 3000) := by decide +kernel

/-- "Worked announcement, tracker 3 to the ironer". -/
theorem test_edge_offset_field : edgeOffset 2 350 = 0x1EA4 := by decide +kernel
theorem test_expected_crossing_wraps : decodedCrossing 16776000 3400 0x1EA4 = 2532 := by decide +kernel
theorem test_half_width : halfWidth 40 20 3748 false = 113 := by decide +kernel

/-- "Worked saturated announcement". -/
theorem test_offset_clamped : edgeOffset 4300 0 = 0x0FFF ∧ saturated (edgeOffset 4300 0) = true := by decide +kernel

/-- "Worked window across the wrap". -/
theorem test_window_across_wrap :
    inRange 16777210 2419 2645 = false ∧ inRange 2460 2419 2645 = true := by decide +kernel

/-- "Worked prediction and learning across the wrap". -/
theorem test_prediction : predictedTravel 4800 16384 = 4800 := by decide
theorem test_slip_lesson : learnedSlip 4800 16384 4650 16777000 = 16412 := by decide +kernel

/-- "Worked illegal transition", and the forward step that follows it. -/
theorem test_illegal_transition :
    let s := after (exec (.travelStep .b true true) (State.reset.setTravel .b (travelAt 812)))
    (s.pos .b, (s.travel .b).reference, s.faults.map (·.kind)) = (812, some (true, true), [.encoderSkip]) := by
  decide +kernel
theorem test_step_after_illegal_transition :
    let s := after (exec (.travelStep .b false true)
      (State.reset.setTravel .b { travelAt 812 with reference := some (true, true) }))
    (s.pos .b, (s.travel .b).reverse) = (813, false) := by decide +kernel

/-! ### Chapter 02: eyes -/

/-- "Worked reverse run at the ironer entry": the re-take at the first forward step after reverse travel. -/
theorem test_retake_clears_without_edge :
    let y := ({ eyeOf .entry .a with
      pinHigh := false, accepted := .blocked, blockedDist := some 262
      candidate := some { level := .clear, snapA := 90480, snapB := 0, dist := 0 } } : Eye).atForwardStep true 1
    (y.accepted, y.candidate, y.blockedDist) = (.clear, none, none) := by decide

/-! ### Chapter 03: pulse channels -/

def tagA : Tag := { origin := 4, serial := 160 }
def tagB : Tag := { origin := 4, serial := 161 }

/-- "Worked abreast diverts on a MERGE channel": the second request merges. -/
theorem test_abreast_requests_merge :
    let c : Channel := { Channel.reset with
      mode := .merge, active := some { start := 20950, stop := 21830, refs := [tagA], started := false } }
    (c.request 20042 20980 21860 (some tagB)).1.active =
      some { start := 20950, stop := 21860, refs := [tagA, tagB], started := false } := by decide +kernel

/-- "Worked stack channel through a double closure": a touching span in DISTINCT mode moves behind ACTIVE. -/
theorem test_distinct_moves_behind_active :
    let c : Channel := { Channel.reset with
      active := some { start := 60300, stop := 60500, refs := [], started := false } }
    (c.request 60000 60300 60500 none).1.next =
      some { start := 60501, stop := 60701, refs := [], started := false } := by decide +kernel

/-! ### Chapter 10: serials -/

/-- "Worked serial comparison across the wrap". -/
theorem test_serials_across_wrap :
    serialAtOrPast 1 2046 = true ∧ serialAtOrPast 1990 2046 = false := by decide +kernel


/-! ### Rules that tie two events of one step -/

/-- R43: a step from inside ACTIVE to inside NEXT crosses the gap, and the output stays high. -/
theorem test_output_stays_high_across_gap :
    let c : Channel := { Channel.reset with
      active := some { start := 4900, stop := 5001, refs := [], started := true }
      next := some { start := 5002, stop := 5100, refs := [], started := false }, output := true }
    let s := { feed.setTravel .a { travelAt 5000 with pitch := 8192 } with channels := feed.channels.set 0 c }
    ((after (exec (.travelStep .a true false) s)).channel 0).output = true := by decide +kernel

/-- R9, R115: a step of 3 mm that crosses the patience leaves the count at its setting. -/
theorem test_patience_stops_at_its_setting :
    let s := withItem (withGate feed fun x => { loaded x with patienceCount := 98 }) { item with p := 5080 }
    let t := after (exec (.travelStep .a true false) (s.setTravel .a { travelAt 5000 with pitch := 12288 }))
    ((t.gate 0).patienceCount, t.pos .a) = (100, 5003) := by decide +kernel

/-- R20, R191: a FEED_LENGTH eye whose gate is not enabled is refused at the gate's enable, the last item between them, and
one whose lane the gate does not serve at the gate's lanes. -/
theorem test_gate_that_does_not_fit_is_refused :
    let put := fun (st : State) (x : ItemId × BitVec 32) => after (exec (.descriptorWrite x.1 x.2) st)
    let eye := fun (lane gate : BitVec 32) => (([(⟨3, 0, 1⟩, 1), (⟨3, 0, 3⟩, lane), (⟨3, 0, 5⟩, gate), (⟨3, 0, 7⟩, 20)] :
      List (ItemId × BitVec 32)).foldl put { State.reset with store := goodStore }).store.validate
    (eye 0 2, eye 1 0, eye 0 0) = (some ⟨8, 2, 1⟩, some ⟨8, 0, 2⟩, none) := by decide +kernel

/-- R59: a trailing edge accepted at the step that reaches its record's clearance position gives no verdict: the record is
cleared as it is. -/
theorem test_edge_at_clearance_takes_no_verdict :
    let s := withChange (withItem feed { item with stage := .entering, p := 4840, lead := some 4860 }) .clear
    let t := after (exec (.edgeAccepted 0) s)
    (s.clearanceAt { item with p := 4840 }, t.train.map (·.measured), t.settle.train, t.faults) =
      (5000, [none], [], []) := by decide +kernel

/-- R191, R33: at an OUTLET a disabled gate's channel field is no binding. -/
theorem test_disabled_gate_binds_no_channel :
    let put := fun (st : State) (x : ItemId × BitVec 32) => after (exec (.descriptorWrite x.1 x.2) st)
    let items : List (ItemId × BitVec 32) := [(⟨1, 0, 2⟩, 3), (⟨8, 0, 1⟩, 0), (⟨10, 1, 1⟩, 0)]
    ((items.foldl put { State.reset with store := goodStore }).store.validate).all (fun x => x.sec != 8) = true := by
  decide +kernel

/-- R158, R159: a lot that ends while input A moves in reverse closes its stack and requests no span. -/
theorem test_lot_end_in_reverse_requests_no_span :
    let x := { outlet.dest 1 with
      set := { (outlet.dest 1).set with stackChannel := some 2, stackWait := 10, stackActive := 20 }
      count := 2, stackLot := 9 }
    let s := { outlet.setTravel .a { travelAt 5000 with reverse := true } with dests := outlet.dests.set 1 x }
    let t := s.lotEnd 9
    ((t.dest 1).count, (t.dest 1).owed, (t.channel 2).active) = (0, some { lot := 9, count := 2, reason := .lotEnd }, none) := by decide +kernel

/-- The first forward step then requests it at the position it reaches. -/
theorem test_owed_trigger_is_requested_forward :
    let x := { outlet.dest 1 with
      set := { (outlet.dest 1).set with stackChannel := some 2, stackWait := 10, stackActive := 20 }
      count := 0, stackLot := 9, owed := some { lot := 9, count := 2, reason := .lotEnd } }
    let s := { outlet.setTravel .a { travelAt 5000 with reverse := true } with dests := outlet.dests.set 1 x }
    let t := after (exec (.travelStep .a true false) s)
    ((t.dest 1).owed, (t.channel 2).active) =
      (none, some { start := 5011, stop := 5031, refs := [], started := false }) := by decide +kernel

/-- R117: the RESERVE of an entry that travel has made void is not sent, though RESERVATION_VOID has not been taken. -/
theorem test_void_reserve_is_not_sent :
    let s := { withQueue feed (TxFrame.new (.reserve { gate := 0, lanes := 1, lead := 0, length := 0 }) 5000) with
      busIdle := true, reservations := [ownEntry 5000 .queued] }
    (after (exec .txAttemptStart s)).queue = [] := by decide +kernel

/-- R98: a spacer whose c + W a step has passed in RUNNING is begun, so a STOP ends its release. -/
theorem test_spacer_begun_before_stop :
    let s := withGate feed fun x => { x with
      state := .releasing, release := some { releaseOf { origin := 3, serial := 0 } true with commit := 4975, stop := 5025 } }
    ((after (exec .stopAsserted s)).gate 0).state = .empty := by decide +kernel

/-- R188: SDO over LOAD's three bytes and after them. -/
theorem test_sdo_bytes : ({ feed with response := [0] } : State).sdo 3 5 = [0xFF, 0xFF, 0xFF, 0, 0] := by decide

/-- R157: the STACK_BUSY of an owed closure names its own lot and count, though another closure has been taken since. -/
theorem test_owed_closure_keeps_its_lot_and_count :
    let x := { outlet.dest 1 with
      set := { (outlet.dest 1).set with stackChannel := some 2, stackWait := 10, stackActive := 20 }
      owed := some { lot := 9, count := 2, reason := .lotEnd }, last := some { lot := 7, count := 1, reason := .full } }
    let c := { Channel.reset with active := some laterOn, next := some { laterOn with start := 5200, stop := 5300 } }
    let s := { outlet with dests := outlet.dests.set 1 x, channels := outlet.channels.set 2 c }
    (s.payTrigger 1).faults.map (fun f => (f.kind, f.lot, f.count)) = [(.stackBusy, some 9, some 2)] := by decide +kernel

/-- R8: a window that the release of STOP widens past travel is not reached by the step still acted on. -/
theorem test_widened_window_is_not_reached :
    let r := { item with p := 4850, h := 40 }
    let s := { withItem feed r with
      mode := .stopped, stopPin := true, lastStep := some { input := .a, before := 4940, forward := true } }
    let t := after (exec .stopReleased s)
    (t.train.map (·.h), t.nextDue.isNone) = ([80], true) := by decide +kernel

/-- R96: the commit that another gate's withdrawal frees is taken at the same position. -/
theorem test_withdrawal_frees_a_commit :
    let other := { loaded openGate with set := { openGate.set with channel := some 1, wait := 200 } }
    let s := { withItem (withGate feed loaded) { item with p := 5340 } with
      gates := (withGate feed loaded).gates.set 1 other
      reservations := [{ ownEntry 5170 .standing with gate := 1, stop := 5390 }] }
    ((s.gateRound.gate 0).state, (s.settle.gate 0).state) = (.ready, .releasing) := by decide +kernel

/-- R96, R116: a RESERVE that fills the queue is undone at once, and a later gate on the same lanes then has its turn. -/
theorem test_undone_reserve_frees_a_commit :
    let other := { loaded openGate with set := { openGate.set with channel := some 1, wait := 200 } }
    let line := withGate feed fun x => { loaded x with patienceCount := 100, set := { x.set with lead := 900 } }
    let s := { withItem line { item with p := 5050 } with
      gates := line.gates.set 1 other
      queue := List.replicate 11 (TxFrame.new (.withdraw 3) 0) }
    (s.lowerGateFirst 1, (s.settle.gate 0).state, (s.settle.gate 1).state, s.settle.undoneReserves) =
      (true, .ready, .releasing, [0]) := by decide +kernel

/-- R96, R106, R119: a LOTMARK that fills the queue withdraws a QUEUED entry, and the commit this frees is taken at the same
position. -/
theorem test_waiting_frame_frees_a_commit :
    let other := { loaded openGate with set := { openGate.set with channel := some 1, wait := 200 } }
    let waits := { openGate with lock := true, mark := .waiting { old := 7, new := 8, last := none } }
    let s := { withItem (withGate feed loaded) { item with p := 5050 } with
      gates := ((withGate feed loaded).gates.set 1 other).set 2 waits
      reservations := [ownEntry 5260 .queued]
      queue := List.replicate 10 (TxFrame.new (.withdraw 3) 0) ++
        [TxFrame.new (.reserve { gate := 0, lanes := 1, lead := 0, length := 0 }) 5260] }
    ((s.gateRound.gate 1).state, (s.settle.gate 1).state) = (.ready, .releasing) := by decide +kernel

/-- R176: the frame under way stands on the wire under the address in force at its start bit. -/
theorem test_frame_under_way_carries_the_address :
    let s := { withQueue feed (TxFrame.new (.withdraw 0) 0) with busIdle := true }
    (after (exec .txAttemptStart s)).onWire = some (Frame.bits 3 (.withdraw 0)) := by decide +kernel

/-! ### States and operands that meet the hypotheses of the statements -/

theorem witness_StepRunsFrontCommand :
    (∃ (s : State) (c : Instr) (rest : List Instr), s.pending = c :: rest) ∧ ∃ s : State, s.pending = [] := by
  exact ⟨⟨{ feed with pending := [.readTravel, .wrapAck] }, _, _, rfl⟩, feed, rfl⟩

theorem witness_SettingsLoadAtJoinAlone :
    ∃ (s : State) (c : Instr) (t : State), exec c s = .next t ∧ c ≠ .powerOn ∧ c ≠ .join :=
  ⟨feed, .lineHoldSet, _, rfl, by decide, by decide⟩

theorem witness_TrackerStateTransitions :
    ∃ (s : State) (c : Instr) (t : State), exec c s = .next t ∧ s.mode ≠ t.mode :=
  ⟨feed, .stopAsserted, _, rfl, by decide +kernel⟩

theorem witness_FramesAndPortCommandsReadBack :
    (Frame.payload (.withdraw 0)).length = 1 ∧ portBytes (.load 0 1) = some [0x10, 0, 1] := by
  decide

theorem witness_PinsFollowEveryStep : ∃ (s t : State), s.PinsFollow ∧ step s = .next t :=
  ⟨{ committed with pending := [.stopAsserted] }, _, by decide +kernel, step_stop committed⟩

theorem witness_TrainSoundEveryStep : ∃ (s t : State), s.TrainSound ∧ s.StagesInOrder ∧ step s = .next t :=
  ⟨{ committed with pending := [.stopAsserted] }, _, by decide +kernel, by decide +kernel, step_stop committed⟩

theorem witness_TrainOrderEveryStep : ∃ (s t : State), s.TrainSound ∧ s.StagesInOrder ∧ s.TrainInOrder ∧ s.Near ∧ step s = .next t :=
  ⟨{ committed with pending := [.stopAsserted] }, _, by decide +kernel, by decide +kernel, by decide +kernel, by decide +kernel, step_stop committed⟩

theorem witness_ChannelsAndGatesSoundEveryStep : ∃ (s t : State), s.ChannelsSound ∧ s.GatesSound ∧ step s = .next t :=
  ⟨{ committed with pending := [.stopAsserted] }, _, by decide +kernel, by decide +kernel, step_stop committed⟩

theorem witness_LotsSoundEveryStep : ∃ (s t : State), s.LotsSound ∧ s.TrainSound ∧ s.InFlightSound ∧ step s = .next t :=
  ⟨{ committed with pending := [.stopAsserted] }, _, by decide +kernel, by decide +kernel, by decide +kernel, step_stop committed⟩

theorem witness_BoundsHoldEveryStep : ∃ (s t : State), s.BoundsHold ∧ s.QueueSound ∧ step s = .next t :=
  ⟨{ committed with pending := [.stopAsserted] }, _, by decide +kernel, by decide +kernel, step_stop committed⟩

theorem witness_CountedStepMovesTheCount :
    ∃ (s : State) (i : TravelInput) (ch1 : Bool) (ch2 : Bool) (ref : Bool × Bool),
    (s.travel i).pitch ≠ 0 ∧
      (s.travel i).reference = some ref ∧
      ((ch1 != ref.1) != (ch2 != ref.2)) = true :=
  ⟨feed, TravelInput.a, true, false, (false, false), by decide +kernel⟩

theorem witness_CountedStepMovesTheCount_back :
    ∃ (s : State) (i : TravelInput) (ch1 : Bool) (ch2 : Bool) (ref : Bool × Bool),
    (s.travel i).pitch ≠ 0 ∧
      (s.travel i).reference = some ref ∧
      ((ch1 != ref.1) != (ch2 != ref.2)) = true :=
  ⟨feed, TravelInput.b, false, true, (false, false), by decide +kernel⟩

theorem witness_QuietStepCountsDistance_forward :
    ∃ (s : State) (i : TravelInput) (ch1 : Bool) (ch2 : Bool) (ref : Bool × Bool),
    s.PinsFollow ∧
      s.settle = s ∧
      s.waiting = [] ∧
      (∀ d, (s.dest d).owed = none) ∧
      ((s.role = some .outlet → ∀ r ∈ s.train, r.unrouted = false)) ∧
      (s.travel i).pitch ≠ 0 ∧
      (s.travel i).reference = some ref ∧
      ((ch1 != ref.1) != (ch2 != ref.2)) = true ∧
      (i = .a ∧ decide ((ch1, ch2) = leadNext ref) = true) :=
  ⟨(withItem (withGate feed loaded) { item with p := 5080 }),
    TravelInput.a,
    true,
    false,
    (false, false),
    by decide +kernel⟩

theorem witness_QuietStepCountsDistance_other :
    ∃ (s : State) (i : TravelInput) (ch1 : Bool) (ch2 : Bool) (ref : Bool × Bool),
    s.PinsFollow ∧
      s.settle = s ∧
      s.waiting = [] ∧
      (∀ d, (s.dest d).owed = none) ∧
      ((s.role = some .outlet → ∀ r ∈ s.train, r.unrouted = false)) ∧
      (s.travel i).pitch ≠ 0 ∧
      (s.travel i).reference = some ref ∧
      ((ch1 != ref.1) != (ch2 != ref.2)) = true ∧
      (i = .b ∧ (s.travel i).reverse = false) :=
  ⟨feed, TravelInput.b, true, false, (false, false), by decide +kernel⟩

theorem witness_QuietStepCountsDistance_reverse :
    ∃ (s : State) (i : TravelInput) (ch1 : Bool) (ch2 : Bool) (ref : Bool × Bool),
    s.PinsFollow ∧
      s.settle = s ∧
      s.waiting = [] ∧
      (∀ d, (s.dest d).owed = none) ∧
      ((s.role = some .outlet → ∀ r ∈ s.train, r.unrouted = false)) ∧
      (s.travel i).pitch ≠ 0 ∧
      (s.travel i).reference = some ref ∧
      ((ch1 != ref.1) != (ch2 != ref.2)) = true ∧
      i = .a ∧
      decide ((ch1, ch2) = leadNext ref) = false ∧
      ((s.ownReservation 0).any fun x => x.phase == .standing) = true :=
  ⟨{ feed with reservations := [ownEntry 5030 .standing] },
    TravelInput.a,
    false,
    true,
    (false, false),
    by decide +kernel⟩

theorem witness_SamplesThatCountNothing_unused : ∃ (s : State) (i : TravelInput),
    s.PinsFollow ∧
      (s.travel i).pitch = 0 :=
  ⟨State.reset, TravelInput.a, by decide +kernel⟩

theorem witness_SamplesThatCountNothing_first : ∃ (s : State) (i : TravelInput),
    s.PinsFollow ∧
      (s.travel i).pitch ≠ 0 ∧
      (s.travel i).reference = none :=
  ⟨(feed.setTravel .a { travelAt 5000 with reference := none }), TravelInput.a, by decide +kernel⟩

theorem witness_SamplesThatCountNothing_same :
    ∃ (s : State) (i : TravelInput) (ch1 : Bool) (ch2 : Bool) (ref : Bool × Bool),
    s.PinsFollow ∧
      (s.travel i).reference = some (ch1, ch2) ∧
      (s.travel i).pitch ≠ 0 ∧
      (s.travel i).reference = some ref :=
  ⟨feed, TravelInput.a, false, false, (false, false), by decide +kernel⟩

theorem witness_OffsetWindowAndSlipArithmetic :
    ironer.ironer.isSome = true ∧ (ironer.ironer.all fun x => 500 ≤ x.pathLength && x.pathLength ≤ 20000) = true ∧
      15360 ≤ ironer.slip ∧ ironer.slip ≤ 17408 ∧ -4096 ≤ diff 0 4096 ∧ diff 0 4096 = -4096 ∧ diff 4094 0 = 4094 ∧
      (500 : Nat) ≠ 0 ∧ (15360 : Nat) ≤ 15360 ∧ (17408 : Nat) ≤ 17408 ∧ diff 900 900 ≤ 0 ∧ 0 < diff 901 900 := by
  decide +kernel

theorem witness_EyeSampleIsFiltered_idle : ∃ (s : State) (e : EyeIx),
    s.PinsFollow ∧
      (s.eye e).acceptDue = false ∧
      s.eyeRuns e = false :=
  ⟨State.reset, (0 : EyeIx), by decide +kernel⟩

theorem witness_EyeSampleIsFiltered_kept : ∃ (s : State) (e : EyeIx) (high : Bool),
    s.PinsFollow ∧
      (s.eye e).acceptDue = false ∧
      (s.eye e).candidate.isSome = (({ s.eye e with pinHigh := high } : Eye).raw != (s.eye e).accepted) :=
  ⟨feed, (0 : EyeIx), (feed.eye 0).pinHigh, by decide +kernel⟩

theorem witness_EyeSampleIsFiltered_ends : ∃ (s : State) (e : EyeIx) (high : Bool),
    s.PinsFollow ∧
      (s.eye e).acceptDue = false ∧
      s.eyeRuns e = true ∧
      ({ s.eye e with pinHigh := high } : Eye).raw = (s.eye e).accepted ∧
      (s.eye e).candidate.isSome = true ∧
      (∀ w ∈ s.waiting, w.eye ≠ e) :=
  ⟨(withItem (withEye feed fun x => { x with candidate := some { change .blocked with dist := 2 } }) item),
    (0 : EyeIx),
    (feed.eye 0).pinHigh,
    by decide +kernel⟩

theorem witness_EyeSampleIsFiltered_begins : ∃ (s : State) (e : EyeIx) (high : Bool),
    s.PinsFollow ∧
      (s.eye e).acceptDue = false ∧
      s.eyeRuns e = true ∧
      ({ s.eye e with pinHigh := high } : Eye).raw ≠ (s.eye e).accepted ∧
      (s.eye e).candidate = none ∧
      (s.eye e).set.filter ≠ 0 :=
  ⟨feed, (0 : EyeIx), (!(feed.eye 0).pinHigh), by decide +kernel⟩

theorem witness_EyeSampleIsFiltered_unfiltered : ∃ (s : State) (e : EyeIx) (high : Bool),
    s.PinsFollow ∧
      (s.eye e).acceptDue = false ∧
      s.eyeRuns e = true ∧
      ({ s.eye e with pinHigh := high } : Eye).raw ≠ (s.eye e).accepted ∧
      (s.eye e).candidate = none ∧
      (s.eye e).set.filter = 0 :=
  ⟨(withEye feed fun x => { x with set := { x.set with filter := 0 } }),
    (0 : EyeIx),
    (!(feed.eye 0).pinHigh),
    by decide +kernel⟩

theorem witness_UndeliveredEdgeSetsTheLevel_levelHold : ∃ (s : State) (e : EyeIx) (c : Candidate),
    s.PinsFollow ∧
      ((∀ w ∈ s.waiting, w.eye ≠ e) ∨ s.live = false) ∧
      s.eyeRuns e = true ∧
      (s.eye e).candidate = some c ∧
      (s.eye e).set.filter ≤ c.dist ∧
      (s.eye e).set.function = .levelHold :=
  ⟨(withEye (withChange feed .blocked) fun x => { x with set := { x.set with function := .levelHold } }),
    (0 : EyeIx),
    (change .blocked),
    by decide +kernel⟩

theorem witness_UndeliveredEdgeSetsTheLevel_joining : ∃ (s : State) (e : EyeIx) (c : Candidate),
    s.PinsFollow ∧
      ((∀ w ∈ s.waiting, w.eye ≠ e) ∨ s.live = false) ∧
      s.eyeRuns e = true ∧
      (s.eye e).candidate = some c ∧
      (s.eye e).set.filter ≤ c.dist ∧
      s.live = false :=
  ⟨{ withChange feed .blocked with mode := .joining }, (0 : EyeIx), (change .blocked), by decide +kernel⟩

theorem witness_UndeliveredEdgeSetsTheLevel_reverse : ∃ (s : State) (e : EyeIx) (c : Candidate),
    s.PinsFollow ∧
      ((∀ w ∈ s.waiting, w.eye ≠ e) ∨ s.live = false) ∧
      s.eyeRuns e = true ∧
      (s.eye e).candidate = some c ∧
      (s.eye e).set.filter ≤ c.dist ∧
      (s.travel (s.eye e).set.input).reverse = true :=
  ⟨(after (exec (.setAlertMask 0) ((withChange feed .clear).setTravel .a { travelAt 5000 with reverse := true }))),
    (0 : EyeIx),
    (change .clear),
    by decide +kernel⟩

theorem witness_LeadingEdgeIsMatchedOrAbsorbed_feed :
    ∃ (s : State) (e : EyeIx) (c : Candidate) (r : Record) (k : Checkpoint),
    s.PinsFollow ∧
      s.TrainSound ∧
      s.EdgeDue e c k ∧
      c.level = .blocked ∧
      (s.train.find? fun y => y.awaitsLead k && y.lane == (s.eye e).set.lane && s.inWindow y k (c.edge e)) = some r ∧
      ((∀ w ∈ s.waiting, w.eye = e → w.tag = r.tag)) ∧
      k = .feed ∧
      s.role = some .feed ∧
      atOrPast (s.pos .a) (s.clearanceAt { r with stage := .entering, lead := some 5000, p := 4980 }) = false :=
  ⟨{ withChange (withItem feed item) .blocked with waiting := [{ eye := 0, tag := item.tag, widened := false }] },
    (0 : EyeIx),
    (change .blocked),
    item,
    Checkpoint.feed,
    by decide +kernel⟩

theorem witness_LeadingEdgeIsMatchedOrAbsorbed_cleared :
    ∃ (s : State) (e : EyeIx) (c : Candidate) (r : Record) (k : Checkpoint),
    s.PinsFollow ∧
      s.TrainSound ∧
      s.EdgeDue e c k ∧
      c.level = .blocked ∧
      (s.train.find? fun y => y.awaitsLead k && y.lane == (s.eye e).set.lane && s.inWindow y k (c.edge e)) = some r ∧
      ((∀ w ∈ s.waiting, w.eye = e → w.tag = r.tag)) ∧
      k = .feed ∧
      s.role = some .feed ∧
      s.clearanceAt { r with stage := .entering, lead := some 4815, p := 4795 } ≠ s.clearanceAt r ∧
      atOrPast (s.pos .a) (s.clearanceAt { r with stage := .entering, lead := some 4815, p := 4795 }) = true :=
  ⟨(withEye (withItem feed { item with p := 4850 }) fun x => { x with candidate := some { change .blocked with snapA := 4815 } }),
    (0 : EyeIx),
    ({ change .blocked with snapA := 4815 } : Candidate),
    ({ item with p := 4850 } : Record),
    Checkpoint.feed,
    by decide +kernel⟩

theorem witness_LeadingEdgeIsMatchedOrAbsorbed_entry :
    ∃ (s : State) (e : EyeIx) (c : Candidate) (r : Record) (k : Checkpoint),
    s.PinsFollow ∧
      s.TrainSound ∧
      s.EdgeDue e c k ∧
      c.level = .blocked ∧
      (s.train.find? fun y => y.awaitsLead k && y.lane == (s.eye e).set.lane && s.inWindow y k (c.edge e)) = some r ∧
      ((∀ w ∈ s.waiting, w.eye = e → w.tag = r.tag)) ∧
      k = .entry ∧
      s.role = some .ironer :=
  ⟨(withChange (withItem { ironer with eyes := State.reset.eyes.set 0 (eyeOf .entry .a) } item) .blocked),
    (0 : EyeIx),
    (change .blocked),
    item,
    Checkpoint.entry,
    by decide +kernel⟩

theorem witness_LeadingEdgeIsMatchedOrAbsorbed_repeat : ∃ (s : State) (e : EyeIx) (c : Candidate) (k : Checkpoint),
    s.PinsFollow ∧
      s.TrainSound ∧
      s.EdgeDue e c k ∧
      c.level = .blocked ∧
      (s.train.any fun y => y.awaitsLead k && y.lane == (s.eye e).set.lane && s.inWindow y k (c.edge e)) = false ∧
      (∀ w ∈ s.waiting, w.eye ≠ e) ∧
      (s.train.any fun y => y.awaitsTrail k && y.lane == (s.eye e).set.lane && s.inFootprint y k (c.edge e)) = true :=
  ⟨(withChange (withItem feed { item with stage := .entering, lead := some 4950, p := 4930 }) .blocked),
    (0 : EyeIx),
    (change .blocked),
    Checkpoint.feed,
    by decide +kernel⟩

theorem witness_LeadingEdgeIsMatchedOrAbsorbed_shadow : ∃ (s : State) (e : EyeIx) (c : Candidate) (k : Checkpoint),
    s.PinsFollow ∧
      s.TrainSound ∧
      s.EdgeDue e c k ∧
      c.level = .blocked ∧
      (s.train.any fun y => y.awaitsLead k && y.lane == (s.eye e).set.lane && s.inWindow y k (c.edge e)) = false ∧
      (∀ w ∈ s.waiting, w.eye ≠ e) ∧
      (s.train.any fun y => y.present k && hasLane y.lanes (s.eye e).set.lane && y.lane != (s.eye e).set.lane &&
      s.inFootprint y k (c.edge e)) = true :=
  ⟨(withEye (withChange (withItem feed { item with stage := .entering, lanes := 3, lead := some 4950, p := 4930 }) .blocked) fun x => { x with set := { x.set with lane := 1 } }),
    (0 : EyeIx),
    (change .blocked),
    Checkpoint.feed,
    by decide +kernel⟩

theorem witness_TrailingEdgeMeasuresAtFirstCheckpoint_right :
    ∃ (s : State) (e : EyeIx) (c : Candidate) (r : Record) (k : Checkpoint) (m : Nat),
    s.PinsFollow ∧
      s.TrainSound ∧
      s.EdgeDue e c k ∧
      c.level = .clear ∧
      (∀ w ∈ s.waiting, w.eye ≠ e) ∧
      ((k = .feed ∧ s.role = some .feed) ∨ (k = .entry ∧ s.role = some .ironer ∧ (s.eyeAt .exit (s.eye e).set.lane).isSome = true)) ∧
      (s.train.find? fun x => x.awaitsTrail k && x.lane == (s.eye e).set.lane &&
        !(k == .feed && atOrPast (s.pos .a) (s.clearanceAt x))) = some r ∧
      k = .feed ∧
      r.lead.map (fun a => diff 5000 a) = some (m : Int) ∧
      0 < m ∧
      atOrPast (s.pos .a) (s.clearanceAt { r with stage := .inside, measured := some m }) = false :=
  ⟨(withChange (withItem feed { item with stage := .entering, lead := some 4900, p := 4880 }) .clear),
    (0 : EyeIx),
    (change .clear),
    ({ item with stage := .entering, lead := some 4900, p := 4880 } : Record),
    Checkpoint.feed,
    (100 : Nat),
    by decide +kernel⟩

theorem witness_TrailingEdgeMeasuresAtFirstCheckpoint_wrong :
    ∃ (s : State) (e : EyeIx) (c : Candidate) (r : Record) (k : Checkpoint) (m : Nat),
    s.PinsFollow ∧
      s.TrainSound ∧
      s.EdgeDue e c k ∧
      c.level = .clear ∧
      (∀ w ∈ s.waiting, w.eye ≠ e) ∧
      ((k = .feed ∧ s.role = some .feed) ∨ (k = .entry ∧ s.role = some .ironer ∧ (s.eyeAt .exit (s.eye e).set.lane).isSome = true)) ∧
      (s.train.find? fun x => x.awaitsTrail k && x.lane == (s.eye e).set.lane &&
        !(k == .feed && atOrPast (s.pos .a) (s.clearanceAt x))) = some r ∧
      k = .feed ∧
      r.lead.map (fun a => diff 5000 a) = some (m : Int) ∧
      0 < m ∧
      atOrPast (s.pos .a) (s.clearanceAt { r with stage := .inside, measured := some m }) = false :=
  ⟨(withChange (withItem feed { item with stage := .entering, lead := some 4870, p := 4850 }) .clear),
    (0 : EyeIx),
    (change .clear),
    ({ item with stage := .entering, lead := some 4870, p := 4850 } : Record),
    Checkpoint.feed,
    (130 : Nat),
    by decide +kernel⟩

theorem witness_TrailingEdgeMeasuresAtFirstCheckpoint_pair :
    ∃ (s : State) (e : EyeIx) (c : Candidate) (r : Record) (k : Checkpoint),
    s.PinsFollow ∧
      s.TrainSound ∧
      s.EdgeDue e c k ∧
      c.level = .clear ∧
      (∀ w ∈ s.waiting, w.eye ≠ e) ∧
      ((k = .feed ∧ s.role = some .feed) ∨ (k = .entry ∧ s.role = some .ironer ∧ (s.eyeAt .exit (s.eye e).set.lane).isSome = true)) ∧
      (s.train.find? fun x => x.awaitsTrail k && x.lane == (s.eye e).set.lane &&
        !(k == .feed && atOrPast (s.pos .a) (s.clearanceAt x))) = some r ∧
      r.flags.double = true ∧
      atOrPast (s.pos .a) (s.clearanceAt { r with stage := .inside, measured := some 100 }) = false :=
  ⟨{ withChange feed .clear with train := [{ item with stage := .entering, flags := { double := true }, lead := some 4900, p := 4880 }, { item with tag := { origin := 20, serial := 6 }, order := 1, stage := .entering, flags := { double := true }, lead := some 4890, p := 4870 }] },
    (0 : EyeIx),
    (change .clear),
    ({ item with stage := .entering, flags := { double := true }, lead := some 4900, p := 4880 } : Record),
    Checkpoint.feed,
    by decide +kernel⟩

theorem witness_TrailingEdgeMeasuresAtFirstCheckpoint_entry :
    ∃ (s : State) (e : EyeIx) (c : Candidate) (r : Record) (k : Checkpoint),
    s.PinsFollow ∧
      s.TrainSound ∧
      s.EdgeDue e c k ∧
      c.level = .clear ∧
      (∀ w ∈ s.waiting, w.eye ≠ e) ∧
      ((k = .feed ∧ s.role = some .feed) ∨ (k = .entry ∧ s.role = some .ironer ∧ (s.eyeAt .exit (s.eye e).set.lane).isSome = true)) ∧
      (s.train.find? fun x => x.awaitsTrail k && x.lane == (s.eye e).set.lane &&
        !(k == .feed && atOrPast (s.pos .a) (s.clearanceAt x))) = some r ∧
      k = .entry :=
  ⟨(withChange (withItem { ironer with eyes := (State.reset.eyes.set 0 (eyeOf .entry .a)).set 1 (eyeOf .exit .b) } { item with stage := .entering, basis := .b, p := 1300, lead := some 800, entryB := some 800 }) .clear),
    (0 : EyeIx),
    (change .clear),
    ({ item with stage := .entering, basis := .b, p := 1300, lead := some 800, entryB := some 800 } : Record),
    Checkpoint.entry,
    by decide +kernel⟩

theorem witness_TrailingEdgePassesExitAndOutlet_exit :
    ∃ (s : State) (e : EyeIx) (c : Candidate) (r : Record) (k : Checkpoint),
    s.PinsFollow ∧
      s.TrainSound ∧
      s.EdgeDue e c k ∧
      c.level = .clear ∧
      (∀ w ∈ s.waiting, w.eye ≠ e) ∧
      (s.train.find? fun x => x.awaitsTrail k && x.lane == (s.eye e).set.lane &&
        !(k == .feed && atOrPast (s.pos .a) (s.clearanceAt x))) = some r ∧
      k = .exit ∧
      s.role = some .ironer :=
  ⟨(withChange (withItem ironer { item with stage := .leaving, basis := .b, p := 780, lead := some 800, entryB := some 300 }) .clear),
    (0 : EyeIx),
    (change .clear),
    ({ item with stage := .leaving, basis := .b, p := 780, lead := some 800, entryB := some 300 } : Record),
    Checkpoint.exit,
    by decide +kernel⟩

theorem witness_TrailingEdgePassesExitAndOutlet_outlet :
    ∃ (s : State) (e : EyeIx) (c : Candidate) (r : Record) (k : Checkpoint),
    s.PinsFollow ∧
      s.TrainSound ∧
      s.EdgeDue e c k ∧
      c.level = .clear ∧
      (∀ w ∈ s.waiting, w.eye ≠ e) ∧
      (s.train.find? fun x => x.awaitsTrail k && x.lane == (s.eye e).set.lane &&
        !(k == .feed && atOrPast (s.pos .a) (s.clearanceAt x))) = some r ∧
      k = .outlet ∧
      s.role = some .outlet ∧
      (s.eye e).set.input = .a ∧
      (s.departureAt { r with stage := .leaving, measured := some 100 }).any (fun y => atOrPast (s.pos .a) y) = false :=
  ⟨(withChange (withItem outlet { item with stage := .entering, dest := some 1, nominal := 100, lead := some 4900, p := 4880 }) .clear),
    (0 : EyeIx),
    (change .clear),
    ({ item with stage := .entering, dest := some 1, nominal := 100, lead := some 4900, p := 4880 } : Record),
    Checkpoint.outlet,
    by decide +kernel⟩

theorem witness_TrailingEdgePassesExitAndOutlet_gone :
    ∃ (s : State) (e : EyeIx) (c : Candidate) (r : Record) (k : Checkpoint),
    s.PinsFollow ∧
      s.TrainSound ∧
      s.EdgeDue e c k ∧
      c.level = .clear ∧
      (∀ w ∈ s.waiting, w.eye ≠ e) ∧
      (s.train.find? fun x => x.awaitsTrail k && x.lane == (s.eye e).set.lane &&
        !(k == .feed && atOrPast (s.pos .a) (s.clearanceAt x))) = some r ∧
      k = .outlet ∧
      s.role = some .outlet ∧
      (s.eye e).set.input = .a ∧
      (s.departureAt { r with stage := .leaving, measured := some 100 }).any (fun y => atOrPast (s.pos .a) y) = false ∧
      max 1 r.nominal < 100 ∧
      (s.channel 1).active = none :=
  ⟨(withChange (withItem outlet { item with stage := .entering, dest := some 1, nominal := 90, lead := some 4900, p := 4880 }) .clear),
    (0 : EyeIx),
    (change .clear),
    ({ item with stage := .entering, dest := some 1, nominal := 90, lead := some 4900, p := 4880 } : Record),
    Checkpoint.outlet,
    by decide +kernel⟩

theorem witness_TrailingEdgePassesExitAndOutlet_extended :
    ∃ (s : State) (e : EyeIx) (c : Candidate) (r : Record) (k : Checkpoint),
    s.PinsFollow ∧
      s.TrainSound ∧
      s.EdgeDue e c k ∧
      c.level = .clear ∧
      (∀ w ∈ s.waiting, w.eye ≠ e) ∧
      (s.train.find? fun x => x.awaitsTrail k && x.lane == (s.eye e).set.lane &&
        !(k == .feed && atOrPast (s.pos .a) (s.clearanceAt x))) = some r ∧
      k = .outlet ∧
      s.role = some .outlet ∧
      (s.eye e).set.input = .a ∧
      (s.departureAt { r with stage := .leaving, measured := some 100 }).any (fun y => atOrPast (s.pos .a) y) = false ∧
      max 1 r.nominal < 100 ∧
      ((s.channel 1).active.any fun q => q.refs == [r.tag]) = true :=
  ⟨(withChange (withItem { outlet with channels := outlet.channels.set 1 { outlet.channel 1 with active := some { start := 5010, stop := 5045, refs := [item.tag], started := false } } } { item with stage := .entering, dest := some 1, nominal := 90, lead := some 4900, p := 4880 }) .clear),
    (0 : EyeIx),
    (change .clear),
    ({ item with stage := .entering, dest := some 1, nominal := 90, lead := some 4900, p := 4880 } : Record),
    Checkpoint.outlet,
    by decide +kernel⟩

theorem witness_TrailingEdgePassesExitAndOutlet_departs :
    ∃ (s : State) (e : EyeIx) (c : Candidate) (r : Record) (k : Checkpoint),
    s.PinsFollow ∧
      s.TrainSound ∧
      s.EdgeDue e c k ∧
      c.level = .clear ∧
      (∀ w ∈ s.waiting, w.eye ≠ e) ∧
      (s.train.find? fun x => x.awaitsTrail k && x.lane == (s.eye e).set.lane &&
        !(k == .feed && atOrPast (s.pos .a) (s.clearanceAt x))) = some r ∧
      k = .outlet ∧
      s.role = some .outlet ∧
      (s.eye e).set.input = .a ∧
      s.departureAt { r with stage := .leaving, measured := some 100 } ≠ s.departureAt r ∧
      ((s.departureAt { r with stage := .leaving, measured := some 100 }).any fun y => atOrPast (s.pos .a) y) = true :=
  ⟨(withEye (withItem outlet { item with stage := .entering, dest := some 1, nominal := 300, lead := some 4800, p := 4780 }) fun x => { x with accepted := .blocked, candidate := some { change .clear with snapA := 4900 } }),
    (0 : EyeIx),
    ({ change .clear with snapA := 4900 } : Candidate),
    ({ item with stage := .entering, dest := some 1, nominal := 300, lead := some 4800, p := 4780 } : Record),
    Checkpoint.outlet,
    by decide +kernel⟩

theorem witness_TrailingEdgePassesExitAndOutlet_none : ∃ (s : State) (e : EyeIx) (c : Candidate) (k : Checkpoint),
    s.PinsFollow ∧
      s.TrainSound ∧
      s.EdgeDue e c k ∧
      c.level = .clear ∧
      (∀ w ∈ s.waiting, w.eye ≠ e) ∧
      (s.train.find? fun x => x.awaitsTrail k && x.lane == (s.eye e).set.lane &&
        !(k == .feed && atOrPast (s.pos .a) (s.clearanceAt x))) = none :=
  ⟨(withChange feed .clear), (0 : EyeIx), (change .clear), Checkpoint.feed, by decide +kernel⟩

theorem witness_TrailingEdgePassesExitAndOutlet_none_outlet :
    ∃ (s : State) (e : EyeIx) (c : Candidate) (k : Checkpoint),
    s.PinsFollow ∧
      s.TrainSound ∧
      s.EdgeDue e c k ∧
      c.level = .clear ∧
      (∀ w ∈ s.waiting, w.eye ≠ e) ∧
      (s.train.find? fun x => x.awaitsTrail k && x.lane == (s.eye e).set.lane &&
        !(k == .feed && atOrPast (s.pos .a) (s.clearanceAt x))) = none :=
  ⟨(withChange (withItem outlet item) .clear),
    (0 : EyeIx),
    (change .clear),
    Checkpoint.outlet,
    by decide +kernel⟩

theorem witness_TrailingEdgePassesExitAndOutlet_reached : ∃ (s : State) (e : EyeIx) (c : Candidate) (k : Checkpoint),
    s.PinsFollow ∧
      s.TrainSound ∧
      s.EdgeDue e c k ∧
      c.level = .clear ∧
      (∀ w ∈ s.waiting, w.eye ≠ e) ∧
      (s.train.find? fun x => x.awaitsTrail k && x.lane == (s.eye e).set.lane &&
        !(k == .feed && atOrPast (s.pos .a) (s.clearanceAt x))) = none :=
  ⟨(withChange (withItem feed { item with stage := .entering, p := 4000, lead := some 4020 }) .clear),
    (0 : EyeIx),
    (change .clear),
    Checkpoint.feed,
    by decide +kernel⟩

theorem witness_TrailingEdgeMeasuresAtFirstCheckpoint_moved :
    ∃ (s : State) (e : EyeIx) (c : Candidate) (r : Record) (k : Checkpoint),
    s.PinsFollow ∧
      s.TrainSound ∧
      s.EdgeDue e c k ∧
      c.level = .clear ∧
      (∀ w ∈ s.waiting, w.eye ≠ e) ∧
      ((k = .feed ∧ s.role = some .feed) ∨ (k = .entry ∧ s.role = some .ironer ∧ (s.eyeAt .exit (s.eye e).set.lane).isSome = true)) ∧
      (s.train.find? fun x => x.awaitsTrail k && x.lane == (s.eye e).set.lane &&
        !(k == .feed && atOrPast (s.pos .a) (s.clearanceAt x))) = some r ∧
      k = .feed ∧
      s.clearanceAt { r with stage := .inside, measured := some 100 } ≠ s.clearanceAt r ∧
      atOrPast (s.pos .a) (s.clearanceAt { r with stage := .inside, measured := some 100 }) = true :=
  ⟨(withChange (withItem feed { item with stage := .entering, nominal := 300, p := 4840, lead := some 4900 }) .clear),
    (0 : EyeIx),
    (change .clear),
    ({ item with stage := .entering, nominal := 300, p := 4840, lead := some 4900 } : Record),
    Checkpoint.feed,
    by decide +kernel⟩

theorem witness_StrayEdgeMakesARecord_none : ∃ (s : State) (e : EyeIx) (c : Candidate) (k : Checkpoint),
    s.PinsFollow ∧
      s.EdgeDue e c k ∧
      c.level = .blocked ∧
      (∀ w ∈ s.waiting, w.eye ≠ e) ∧
      (s.train.all fun y =>
      !(y.awaitsLead k && y.lane == (s.eye e).set.lane && s.inWindow y k (c.edge e)) &&
        !(y.awaitsTrail k && y.lane == (s.eye e).set.lane && s.inFootprint y k (c.edge e)) &&
        !(y.present k && hasLane y.lanes (s.eye e).set.lane && y.lane != (s.eye e).set.lane &&
          s.inFootprint y k (c.edge e))) = true ∧
      k = .feed ∧
      s.role = some .feed ∧
      s.trainFull = false ∧
      (creditIndex s.watch).isSome = false ∧
      atOrPast (s.pos .a) (Pos.plus 4980 (1 + 60)) = false ∧
      (s.classOf 15).gap = 60 ∧
      s.findRecord s.allocate.1 = none :=
  ⟨(withChange feed .blocked), (0 : EyeIx), (change .blocked), Checkpoint.feed, by decide +kernel⟩

theorem witness_StrayEdgeMakesARecord_credit : ∃ (s : State) (e : EyeIx) (c : Candidate) (k : Checkpoint),
    s.PinsFollow ∧
      s.EdgeDue e c k ∧
      c.level = .blocked ∧
      (∀ w ∈ s.waiting, w.eye ≠ e) ∧
      (s.train.all fun y =>
      !(y.awaitsLead k && y.lane == (s.eye e).set.lane && s.inWindow y k (c.edge e)) &&
        !(y.awaitsTrail k && y.lane == (s.eye e).set.lane && s.inFootprint y k (c.edge e)) &&
        !(y.present k && hasLane y.lanes (s.eye e).set.lane && y.lane != (s.eye e).set.lane &&
          s.inFootprint y k (c.edge e))) = true ∧
      k = .feed ∧
      s.role = some .feed ∧
      s.trainFull = false ∧
      (creditIndex s.watch).isSome = true ∧
      atOrPast (s.pos .a) (Pos.plus 4980 (1 + 60)) = false ∧
      (s.classOf 15).gap = 60 ∧
      s.findRecord s.allocate.1 = none :=
  ⟨(withChange { feed with watch := feed.watch.map fun w => { w with credits := 1 } } .blocked),
    (0 : EyeIx),
    (change .blocked),
    Checkpoint.feed,
    by decide +kernel⟩

theorem witness_StrayEdgeMakesARecord_entry : ∃ (s : State) (e : EyeIx) (c : Candidate) (k : Checkpoint),
    s.PinsFollow ∧
      s.EdgeDue e c k ∧
      c.level = .blocked ∧
      (∀ w ∈ s.waiting, w.eye ≠ e) ∧
      (s.train.all fun y =>
      !(y.awaitsLead k && y.lane == (s.eye e).set.lane && s.inWindow y k (c.edge e)) &&
        !(y.awaitsTrail k && y.lane == (s.eye e).set.lane && s.inFootprint y k (c.edge e)) &&
        !(y.present k && hasLane y.lanes (s.eye e).set.lane && y.lane != (s.eye e).set.lane &&
          s.inFootprint y k (c.edge e))) = true ∧
      k = .entry ∧
      s.role = some .ironer ∧
      s.trainFull = false ∧
      s.findRecord s.allocate.1 = none ∧
      (after (exec (.edgeAccepted e) s)).train.map (fun y => (y.basis, y.entryB)) = [(.b, some 900)] :=
  ⟨(withChange { ironer with eyes := State.reset.eyes.set 0 (eyeOf .entry .a) } .blocked),
    (0 : EyeIx),
    (change .blocked),
    Checkpoint.entry,
    by decide +kernel⟩

theorem witness_StrayEdgeMakesARecord_outlet : ∃ (s : State) (e : EyeIx) (c : Candidate) (k : Checkpoint),
    s.PinsFollow ∧
      s.EdgeDue e c k ∧
      c.level = .blocked ∧
      (∀ w ∈ s.waiting, w.eye ≠ e) ∧
      (s.train.all fun y =>
      !(y.awaitsLead k && y.lane == (s.eye e).set.lane && s.inWindow y k (c.edge e)) &&
        !(y.awaitsTrail k && y.lane == (s.eye e).set.lane && s.inFootprint y k (c.edge e)) &&
        !(y.present k && hasLane y.lanes (s.eye e).set.lane && y.lane != (s.eye e).set.lane &&
          s.inFootprint y k (c.edge e))) = true ∧
      k = .outlet ∧
      s.role = some .outlet ∧
      (s.eye e).set.input = .a ∧
      s.trainFull = false ∧
      s.findRecord s.allocate.1 = none ∧
      (after (exec (.edgeAccepted e) s)).train.map (·.dest) = [some s.rejectDest] :=
  ⟨(withChange outlet .blocked), (0 : EyeIx), (change .blocked), Checkpoint.outlet, by decide +kernel⟩

theorem witness_StrayEdgeMakesARecord_full : ∃ (s : State) (e : EyeIx) (c : Candidate) (k : Checkpoint),
    s.PinsFollow ∧
      s.EdgeDue e c k ∧
      c.level = .blocked ∧
      (∀ w ∈ s.waiting, w.eye ≠ e) ∧
      (s.train.all fun y =>
      !(y.awaitsLead k && y.lane == (s.eye e).set.lane && s.inWindow y k (c.edge e)) &&
        !(y.awaitsTrail k && y.lane == (s.eye e).set.lane && s.inFootprint y k (c.edge e)) &&
        !(y.present k && hasLane y.lanes (s.eye e).set.lane && y.lane != (s.eye e).set.lane &&
          s.inFootprint y k (c.edge e))) = true ∧
      k ≠ .exit ∧
      s.trainFull = true :=
  ⟨{ withChange feed .blocked with train := fullTrain },
    (0 : EyeIx),
    (change .blocked),
    Checkpoint.feed,
    by decide +kernel⟩

theorem witness_StrayEdgeMakesARecord_exit : ∃ (s : State) (e : EyeIx) (c : Candidate) (k : Checkpoint),
    s.PinsFollow ∧
      s.EdgeDue e c k ∧
      c.level = .blocked ∧
      (∀ w ∈ s.waiting, w.eye ≠ e) ∧
      (s.train.all fun y =>
      !(y.awaitsLead k && y.lane == (s.eye e).set.lane && s.inWindow y k (c.edge e)) &&
        !(y.awaitsTrail k && y.lane == (s.eye e).set.lane && s.inFootprint y k (c.edge e)) &&
        !(y.present k && hasLane y.lanes (s.eye e).set.lane && y.lane != (s.eye e).set.lane &&
          s.inFootprint y k (c.edge e))) = true ∧
      k = .exit :=
  ⟨(withChange ironer .blocked), (0 : EyeIx), (change .blocked), Checkpoint.exit, by decide +kernel⟩

theorem witness_ExitEdgeHandsItemOn_clean :
    ∃ (s : State) (e : EyeIx) (c : Candidate) (r : Record) (x : IronerSettings) (b : Pos),
    s.PinsFollow ∧
      s.TrainSound ∧
      s.EdgeDue e c .exit ∧
      s.role = some .ironer ∧
      c.level = .blocked ∧
      (s.train.find? fun y => y.awaitsLead .exit && y.lane == (s.eye e).set.lane && s.inWindow y .exit (c.edge e)) = some r ∧
      ((∀ w ∈ s.waiting, w.eye = e → w.tag = r.tag)) ∧
      s.ironer = some x ∧
      r.entryB = some b ∧
      s.queue.length < 16 :=
  ⟨(withChange (withItem ironer { item with stage := .inside, basis := .b, p := 880, lead := some 300, entryB := some 300 }) .blocked),
    (0 : EyeIx),
    (change .blocked),
    ({ item with stage := .inside, basis := .b, p := 880, lead := some 300, entryB := some 300 } : Record),
    { pathLength := 500, slipInitial := 16384, learning := true, reload := false },
    (300 : Pos),
    by decide +kernel⟩

theorem witness_ExitEdgeHandsItemOn_dirty :
    ∃ (s : State) (e : EyeIx) (c : Candidate) (r : Record) (x : IronerSettings) (b : Pos),
    s.PinsFollow ∧
      s.TrainSound ∧
      s.EdgeDue e c .exit ∧
      s.role = some .ironer ∧
      c.level = .blocked ∧
      (s.train.find? fun y => y.awaitsLead .exit && y.lane == (s.eye e).set.lane && s.inWindow y .exit (c.edge e)) = some r ∧
      ((∀ w ∈ s.waiting, w.eye = e → w.tag = r.tag)) ∧
      s.ironer = some x ∧
      r.entryB = some b ∧
      s.queue.length < 16 :=
  ⟨(withChange (withItem ({ ironer with exitRejectNext := true }) { item with stage := .inside, flags := { double := true }, basis := .b, p := 880, lead := some 300, entryB := some 300 }) .blocked),
    (0 : EyeIx),
    (change .blocked),
    ({ item with stage := .inside, flags := { double := true }, basis := .b, p := 880, lead := some 300, entryB := some 300 } : Record),
    { pathLength := 500, slipInitial := 16384, learning := true, reload := false },
    (300 : Pos),
    by decide +kernel⟩

theorem witness_ExitEdgeHandsItemOn_overrun :
    ∃ (s : State) (e : EyeIx) (c : Candidate) (r : Record) (x : IronerSettings) (b : Pos),
    s.PinsFollow ∧
      s.TrainSound ∧
      s.EdgeDue e c .exit ∧
      s.role = some .ironer ∧
      c.level = .blocked ∧
      (s.train.find? fun y => y.awaitsLead .exit && y.lane == (s.eye e).set.lane && s.inWindow y .exit (c.edge e)) = some r ∧
      ((∀ w ∈ s.waiting, w.eye = e → w.tag = r.tag)) ∧
      s.ironer = some x ∧
      r.entryB = some b ∧
      s.queue.length = 16 :=
  ⟨(withChange (withItem ({ ironer with queue := fullQueue }) { item with stage := .inside, basis := .b, p := 880, lead := some 300, entryB := some 300 }) .blocked),
    (0 : EyeIx),
    (change .blocked),
    ({ item with stage := .inside, basis := .b, p := 880, lead := some 300, entryB := some 300 } : Record),
    { pathLength := 500, slipInitial := 16384, learning := true, reload := false },
    (300 : Pos),
    by decide +kernel⟩

theorem witness_OutletEdgeRoutesItem_class : ∃ (s : State) (e : EyeIx) (c : Candidate) (r : Record),
    s.PinsFollow ∧
      s.TrainSound ∧
      s.EdgeDue e c .outlet ∧
      s.role = some .outlet ∧
      (s.eye e).set.input = .a ∧
      c.level = .blocked ∧
      (s.train.find? fun y => y.awaitsLead .outlet && y.lane == (s.eye e).set.lane && s.inWindow y .outlet (c.edge e)) = some r ∧
      ((∀ w ∈ s.waiting, w.eye = e → w.tag = r.tag)) ∧
      atOrPast (s.pos .a) 5160 = false :=
  ⟨(withChange (withItem (outlet) ({ item with lot := 9 })) .blocked),
    (0 : EyeIx),
    (change .blocked),
    ({ item with lot := 9 } : Record),
    by decide +kernel⟩

theorem witness_OutletEdgeRoutesItem_reject : ∃ (s : State) (e : EyeIx) (c : Candidate) (r : Record),
    s.PinsFollow ∧
      s.TrainSound ∧
      s.EdgeDue e c .outlet ∧
      s.role = some .outlet ∧
      (s.eye e).set.input = .a ∧
      c.level = .blocked ∧
      (s.train.find? fun y => y.awaitsLead .outlet && y.lane == (s.eye e).set.lane && s.inWindow y .outlet (c.edge e)) = some r ∧
      ((∀ w ∈ s.waiting, w.eye = e → w.tag = r.tag)) ∧
      atOrPast (s.pos .a) 5100 = false :=
  ⟨(withChange (withItem (outlet) (item)) .blocked), (0 : EyeIx), (change .blocked), (item), by decide +kernel⟩

theorem witness_OutletEdgeRoutesItem_busy : ∃ (s : State) (e : EyeIx) (c : Candidate) (r : Record),
    s.PinsFollow ∧
      s.TrainSound ∧
      s.EdgeDue e c .outlet ∧
      s.role = some .outlet ∧
      (s.eye e).set.input = .a ∧
      c.level = .blocked ∧
      (s.train.find? fun y => y.awaitsLead .outlet && y.lane == (s.eye e).set.lane && s.inWindow y .outlet (c.edge e)) = some r ∧
      ((∀ w ∈ s.waiting, w.eye = e → w.tag = r.tag)) ∧
      atOrPast (s.pos .a) 5100 = false :=
  ⟨(withChange (withItem ({ outlet with channels := outlet.channels.set 1 { outlet.channel 1 with active := some { start := 5030, stop := 5035, refs := [], started := false }, next := some { start := 5060, stop := 5070, refs := [], started := false }, mode := .distinct } }) ({ item with lot := 9 })) .blocked),
    (0 : EyeIx),
    (change .blocked),
    ({ item with lot := 9 } : Record),
    by decide +kernel⟩

theorem witness_OutletEdgeRoutesItem_late : ∃ (s : State) (e : EyeIx) (c : Candidate) (r : Record),
    s.PinsFollow ∧
      s.TrainSound ∧
      s.EdgeDue e c .outlet ∧
      s.role = some .outlet ∧
      (s.eye e).set.input = .a ∧
      c.level = .blocked ∧
      (s.train.find? fun y => y.awaitsLead .outlet && y.lane == (s.eye e).set.lane && s.inWindow y .outlet (c.edge e)) = some r ∧
      ((∀ w ∈ s.waiting, w.eye = e → w.tag = r.tag)) ∧
      atOrPast (s.pos .a) 5110 = false :=
  ⟨(withChange (withItem ({ outlet with dests := outlet.dests.set 1 { outlet.dest 1 with set := { (outlet.dest 1).set with xd := 0 } } }) ({ item with lot := 9 })) .blocked),
    (0 : EyeIx),
    (change .blocked),
    ({ item with lot := 9 } : Record),
    by decide +kernel⟩

theorem witness_JamIsRecordedOnce : ∃ (s : State) (e : EyeIx) (n : Nat),
    s.eyeRuns e = true ∧
      (s.eye e).jammed = false ∧
      (s.eye e).blockedDist = some n ∧
      (s.eye e).set.jamLength < n :=
  ⟨(withEye feed fun x => { x with accepted := .blocked, blockedDist := some 301 }),
    (0 : EyeIx),
    (301 : Nat),
    by decide +kernel⟩

theorem witness_PulseRetiresAtItsEnd : ∃ (s : State) (c : ChannelIx) (a : Pulse),
    s.PinsFollow ∧
      s.joined = true ∧
      (s.channel c).active = some a ∧
      s.reached (s.channel c).input a.stop = true :=
  ⟨(feed.setChannel 0 { feed.channel 0 with active := some { start := 4900, stop := 5000, refs := [{ origin := 3, serial := 0 }], started := true } }),
    (0 : ChannelIx),
    { start := 4900, stop := 5000, refs := [{ origin := 3, serial := 0 }], started := true },
    by decide +kernel⟩

theorem witness_ChannelOperationsAnswer_request :
    heldChannel.Sound ∧ diff 250 250 ≤ 0 ∧
      (0 < diff 260 250 ∧ 0 ≤ diff 260 260) ∧ (0 < diff 260 250 ∧ diff 259 260 < 0) ∧ (0 < diff 261 250 ∧ diff 250 261 < 0) := by
  decide +kernel

theorem witness_ChannelOperationsAnswer_gone :
    heldChannel.Sound ∧ heldChannel.active = some heldPulse ∧ { origin := 9, serial := 9 } ∉ heldPulse.refs ∧
      ({ origin := 9, serial := 9 } : Tag) ∉ laterPulse.refs ∧ heldChannel.next = some laterPulse := by
  decide +kernel

theorem witness_ChannelOperationsAnswer_active :
    { heldChannel with next := none }.Sound ∧ item.tag ∈ heldPulse.refs ∧
      { heldChannel with next := none }.active = some heldPulse ∧ diff 200 heldPulse.stop ≤ 0 ∧ 0 < diff 201 heldPulse.stop := by
  decide +kernel

theorem witness_ChannelOperationsAnswer_next :
    heldChannel.Sound ∧ heldChannel.active = some heldPulse ∧ heldChannel.next = some laterPulse ∧
      ({ origin := 20, serial := 7 } : Tag) ∉ heldPulse.refs ∧ { origin := 20, serial := 7 } ∈ laterPulse.refs := by
  decide +kernel

theorem witness_ChannelOperationsAnswer_first :
    Channel.reset.Sound ∧ Channel.reset.active = none ∧
      0 < diff 300 250 ∧ diff 240 300 < 0 := by
  decide +kernel

theorem witness_ChannelOperationsAnswer_before :
    { heldChannel with next := none }.Sound ∧ { heldChannel with next := none }.active = some heldPulse ∧
      ¬(diff 50 heldPulse.stop ≤ 0 ∧ diff heldPulse.start 90 ≤ 0) ∧ 0 < diff heldPulse.start 90 ∧ diff 40 90 < 0 := by
  decide +kernel

theorem witness_ChannelOperationsAnswer_moved :
    { heldChannel with next := none }.Sound ∧ { heldChannel with next := none }.active = some heldPulse ∧
      diff 150 heldPulse.stop ≤ 0 ∧ diff heldPulse.start 250 ≤ 0 ∧ { heldChannel with next := none }.mode = .distinct ∧ diff 120 250 < 0 := by
  decide +kernel

theorem witness_ChannelOperationsAnswer_merged :
    { heldChannel with mode := .merge }.Sound ∧ { heldChannel with mode := .merge }.active = some heldPulse ∧ { heldChannel with mode := .merge }.next = some laterPulse ∧
      diff 150 heldPulse.stop ≤ 0 ∧ diff heldPulse.start 250 ≤ 0 ∧ { heldChannel with mode := .merge }.mode = .merge ∧
      ¬(diff 100 laterPulse.stop ≤ 0 ∧ diff laterPulse.start 250 ≤ 0) := by
  decide +kernel

theorem witness_ChannelOperationsAnswer_joined :
    { heldChannel with mode := .merge }.Sound ∧ { heldChannel with mode := .merge }.active = some heldPulse ∧ { heldChannel with mode := .merge }.next = some laterPulse ∧
      diff 150 heldPulse.stop ≤ 0 ∧ diff heldPulse.start 320 ≤ 0 ∧ { heldChannel with mode := .merge }.mode = .merge ∧
      (diff 100 laterPulse.stop ≤ 0 ∧ diff laterPulse.start 320 ≤ 0) := by
  decide +kernel

theorem witness_ChannelOperationsAnswer_behind :
    { heldChannel with mode := .merge }.Sound ∧ { heldChannel with mode := .merge }.active = some heldPulse ∧ { heldChannel with mode := .merge }.next = some laterPulse ∧
      ¬(diff 310 heldPulse.stop ≤ 0 ∧ diff heldPulse.start 420 ≤ 0) ∧ diff heldPulse.start 420 ≤ 0 ∧
      (diff 310 laterPulse.stop ≤ 0 ∧ diff laterPulse.start 420 ≤ 0) := by
  decide +kernel

theorem witness_ChannelOperationsAnswer_limited :
    heldChannel.Sound ∧ heldChannel.active = some heldPulse ∧ heldChannel.next = some laterPulse ∧
      item.tag ∈ heldPulse.refs ∧ 0 < diff 350 heldPulse.stop ∧ heldChannel.mode = .distinct ∧ 0 ≤ diff 350 laterPulse.start := by
  decide +kernel

theorem witness_ChannelOperationsAnswer_extended :
    { heldChannel with mode := .merge }.Sound ∧ { heldChannel with mode := .merge }.active = some heldPulse ∧ { heldChannel with mode := .merge }.next = some laterPulse ∧
      item.tag ∈ heldPulse.refs ∧ 0 < diff 350 heldPulse.stop ∧ { heldChannel with mode := .merge }.mode = .merge ∧
      (diff heldPulse.start laterPulse.stop ≤ 0 ∧ diff laterPulse.start 350 ≤ 0) := by
  decide +kernel

theorem witness_ClosureOnClearEyeIsMiss_missed :
    ∃ (s : State) (tag : Tag) (r : Record) (k : Checkpoint) (e : EyeIx) (closing : Pos),
    s.dueRecord .closure tag = some r ∧
      s.windowOf r = some (k, e, closing) ∧
      (s.eye e).accepted = .clear ∧
      (s.eye e).holdsBefore r.basis closing = false :=
  ⟨(withItem feed { item with p := 4920 }),
    item.tag,
    ({ item with p := 4920 } : Record),
    Checkpoint.feed,
    (0 : EyeIx),
    (5000 : Pos),
    by decide +kernel⟩

theorem witness_ClosureOnClearEyeIsMiss_cleared :
    ∃ (s : State) (tag : Tag) (r : Record) (k : Checkpoint) (e : EyeIx) (closing : Pos),
    s.dueRecord .closure tag = some r ∧
      s.windowOf r = some (k, e, closing) ∧
      (s.eye e).accepted = .clear ∧
      (s.eye e).holdsBefore r.basis closing = false :=
  ⟨(withItem feed { item with p := 4920, flags := { unverified := true } }),
    item.tag,
    ({ item with p := 4920, flags := { unverified := true } } : Record),
    Checkpoint.feed,
    (0 : EyeIx),
    (5000 : Pos),
    by decide +kernel⟩

theorem witness_ClosureOnClearEyeIsMiss_release :
    ∃ (s : State) (tag : Tag) (r : Record) (k : Checkpoint) (e : EyeIx) (closing : Pos),
    s.dueRecord .closure tag = some r ∧
      s.windowOf r = some (k, e, closing) ∧
      (s.eye e).accepted = .clear ∧
      (s.eye e).holdsBefore r.basis closing = false :=
  ⟨(withItem feed { item with p := 4920, flags := { own := true } }),
    item.tag,
    ({ item with p := 4920, flags := { own := true } } : Record),
    Checkpoint.feed,
    (0 : EyeIx),
    (5000 : Pos),
    by decide +kernel⟩

theorem witness_ClosureOnClearEyeIsMiss_wrap :
    ∃ (s : State) (tag : Tag) (r : Record) (k : Checkpoint) (e : EyeIx) (closing : Pos),
    s.dueRecord .closure tag = some r ∧
      s.windowOf r = some (k, e, closing) ∧
      (s.eye e).accepted = .clear ∧
      (s.eye e).holdsBefore r.basis closing = false :=
  ⟨(withItem ironer { item with stage := .inside, basis := .b, p := 820 }),
    item.tag,
    ({ item with stage := .inside, basis := .b, p := 820 } : Record),
    Checkpoint.exit,
    (0 : EyeIx),
    (900 : Pos),
    by decide +kernel⟩

theorem witness_ClosureOnClearEyeIsMiss_full :
    ∃ (s : State) (tag : Tag) (r : Record) (k : Checkpoint) (e : EyeIx) (closing : Pos),
    s.dueRecord .closure tag = some r ∧
      s.windowOf r = some (k, e, closing) ∧
      (s.eye e).accepted = .clear ∧
      (s.eye e).holdsBefore r.basis closing = false ∧
      s.queueRoom = false :=
  ⟨{ withItem feed { item with p := 4920 } with queue := fullQueue },
    item.tag,
    ({ item with p := 4920 } : Record),
    Checkpoint.feed,
    (0 : EyeIx),
    (5000 : Pos),
    by decide +kernel⟩

theorem witness_ClosureOnBlockedEyePasses_entry :
    ∃ (s : State) (tag : Tag) (r : Record) (k : Checkpoint) (e : EyeIx) (closing : Pos),
    s.PinsFollow ∧
      s.TrainSound ∧
      s.dueRecord .closure tag = some r ∧
      s.windowOf r = some (k, e, closing) ∧
      (s.eye e).holdsBefore r.basis closing = false ∧
      (s.eye e).accepted = .blocked ∧
      k = .entry ∧
      (after (exec (.windowClosure tag) s)).train.map (·.entryB) = [some 840] :=
  ⟨(withItem (withEye { ironer with lastStep := feed.lastStep, eyes := State.reset.eyes.set 0 (eyeOf .entry .a) } (fun x => { x with accepted := .blocked })) { item with p := 4920 }),
    item.tag,
    ({ item with p := 4920 } : Record),
    Checkpoint.entry,
    (0 : EyeIx),
    (5000 : Pos),
    by decide +kernel⟩

theorem witness_ClosureOnBlockedEyePasses_exit :
    ∃ (s : State) (tag : Tag) (r : Record) (k : Checkpoint) (e : EyeIx) (closing : Pos),
    s.PinsFollow ∧
      s.TrainSound ∧
      s.dueRecord .closure tag = some r ∧
      s.windowOf r = some (k, e, closing) ∧
      (s.eye e).holdsBefore r.basis closing = false ∧
      (s.eye e).accepted = .blocked ∧
      k = .exit ∧
      (after (exec (.windowClosure tag) s)).queue.length = 1 :=
  ⟨(withItem (withEye ironer (fun x => { x with accepted := .blocked })) { item with stage := .inside, basis := .b, p := 820 }),
    item.tag,
    ({ item with stage := .inside, basis := .b, p := 820 } : Record),
    Checkpoint.exit,
    (0 : EyeIx),
    (900 : Pos),
    by decide +kernel⟩

theorem witness_ClosureOnBlockedEyePasses_marked :
    ∃ (s : State) (tag : Tag) (r : Record) (k : Checkpoint) (e : EyeIx) (closing : Pos),
    s.PinsFollow ∧
      s.TrainSound ∧
      s.dueRecord .closure tag = some r ∧
      s.windowOf r = some (k, e, closing) ∧
      (s.eye e).holdsBefore r.basis closing = false ∧
      (s.eye e).accepted = .blocked ∧
      k = .exit ∧
      ((after (exec (.windowClosure tag) s)).queue.map (·.frame)).head? = some (.mark { origin := 20, serial := 4 } 1) :=
  ⟨{ withEye ironer (fun x => { x with accepted := .blocked }) with train := [{ item with tag := { origin := 20, serial := 4 }, stage := .leaving, basis := .b, p := 825, lead := some 845 }, { item with stage := .inside, basis := .b, p := 820 }] },
    item.tag,
    ({ item with stage := .inside, basis := .b, p := 820 } : Record),
    Checkpoint.exit,
    (0 : EyeIx),
    (900 : Pos),
    by decide +kernel⟩

theorem witness_ClosureOnBlockedEyePasses_dropped :
    ∃ (s : State) (tag : Tag) (r : Record) (k : Checkpoint) (e : EyeIx) (closing : Pos),
    s.PinsFollow ∧
      s.TrainSound ∧
      s.dueRecord .closure tag = some r ∧
      s.windowOf r = some (k, e, closing) ∧
      (s.eye e).holdsBefore r.basis closing = false ∧
      (s.eye e).accepted = .blocked ∧
      k = .exit ∧
      (after (exec (.windowClosure tag) s)).passageSeq = s.passageSeq + 1 :=
  ⟨{ withItem (withEye ironer (fun x => { x with accepted := .blocked })) { item with stage := .inside, basis := .b, p := 820 } with queue := fullQueue },
    item.tag,
    ({ item with stage := .inside, basis := .b, p := 820 } : Record),
    Checkpoint.exit,
    (0 : EyeIx),
    (900 : Pos),
    by decide +kernel⟩

theorem witness_ClosureOnBlockedEyePasses_outlet :
    ∃ (s : State) (tag : Tag) (r : Record) (k : Checkpoint) (e : EyeIx) (closing : Pos),
    s.PinsFollow ∧
      s.TrainSound ∧
      s.dueRecord .closure tag = some r ∧
      s.windowOf r = some (k, e, closing) ∧
      (s.eye e).holdsBefore r.basis closing = false ∧
      (s.eye e).accepted = .blocked ∧
      k = .outlet ∧
      s.travelA.reverse = false ∧
      (after (exec (.windowClosure tag) s)).train.map (·.dest) = [some s.rejectDest] :=
  ⟨(withItem (withEye outlet (fun x => { x with accepted := .blocked })) { item with p := 4920 }),
    item.tag,
    ({ item with p := 4920 } : Record),
    Checkpoint.outlet,
    (0 : EyeIx),
    (5000 : Pos),
    by decide +kernel⟩

theorem witness_ClosureOnBlockedEyePasses_waits :
    ∃ (s : State) (tag : Tag) (r : Record) (k : Checkpoint) (e : EyeIx) (closing : Pos),
    s.PinsFollow ∧
      s.TrainSound ∧
      s.dueRecord .closure tag = some r ∧
      s.windowOf r = some (k, e, closing) ∧
      (s.eye e).holdsBefore r.basis closing = true :=
  ⟨{ withEye feed (fun x => { x with candidate := some (change .blocked) }) with train := [{ item with p := 4920 }] },
    item.tag,
    ({ item with p := 4920 } : Record),
    Checkpoint.feed,
    (0 : EyeIx),
    (5000 : Pos),
    by decide +kernel⟩

theorem witness_ClosureOnBlockedEyePasses_pass :
    ∃ (s : State) (tag : Tag) (r : Record) (k : Checkpoint) (e : EyeIx) (closing : Pos),
    s.PinsFollow ∧
      s.TrainSound ∧
      s.dueRecord .closure tag = some r ∧
      s.windowOf r = some (k, e, closing) ∧
      (s.eye e).holdsBefore r.basis closing = false ∧
      (s.eye e).accepted = .blocked :=
  ⟨{ withEye feed (fun x => { x with accepted := .blocked }) with train := [{ item with p := 4920 }] },
    item.tag,
    ({ item with p := 4920 } : Record),
    Checkpoint.feed,
    (0 : EyeIx),
    (5000 : Pos),
    by decide +kernel⟩

theorem witness_ClosureOnBlockedEyePasses_double :
    ∃ (s : State) (tag : Tag) (r : Record) (k : Checkpoint) (e : EyeIx) (closing : Pos),
    s.PinsFollow ∧
      s.TrainSound ∧
      s.dueRecord .closure tag = some r ∧
      s.windowOf r = some (k, e, closing) ∧
      (s.eye e).holdsBefore r.basis closing = false ∧
      (s.eye e).accepted = .blocked ∧
      (s.train.find? fun y => y.stage == .entering && y.lane == r.lane && y.tag != tag).isSome = true :=
  ⟨{ withEye feed (fun x => { x with accepted := .blocked }) with train := [{ item with tag := { origin := 20, serial := 4 }, stage := .entering, p := 4925, lead := some 4945 }, { item with p := 4920 }] },
    item.tag,
    ({ item with p := 4920 } : Record),
    Checkpoint.feed,
    (0 : EyeIx),
    (5000 : Pos),
    by decide +kernel⟩

theorem witness_WaitingClosuresAreDecided_clear :
    ∃ (s : State) (e : EyeIx) (high : Bool) (c : Candidate) (cmd : Instr) (y : Eye),
    s.PinsFollow ∧
      s.TrainSound ∧
      s.live = true ∧
      s.eyeRuns e = true ∧
      (s.eye e).candidate = some c ∧
      cmd = .eyeRawChange e high ∧ c.dist < (s.eye e).set.filter ∧
        y = { s.eye e with pinHigh := high, candidate := none } ∧ y.raw = y.accepted ∧
      s.role = some .feed ∧
      (s.eye e).set.function = .feedLength ∧
      y.accepted = .clear ∧
      ((s.waiting.filter fun x => x.eye == e).map (·.tag)).Nodup ∧
      s.queue.length + (s.waiting.filter fun x => x.eye == e).length ≤ 16 ∧
      (∀ v ∈ s.waiting.filter fun x => x.eye == e, ((s.findRecord v.tag).any fun x =>
      (s.windowOf x).any fun z => z.2.1 == e && !(v.widened && !atOrPast (s.pos x.basis) z.2.2)) = true) :=
  ⟨{ withEye (feed) (fun x => { x with accepted := .clear, candidate := some { change .blocked with dist := 2 } }) with train := [{ item with p := 4920 }, { item with tag := { origin := 20, serial := 6 }, order := 1, p := 4921 }], waiting := [{ eye := 0, tag := item.tag, widened := false }, { eye := 0, tag := { origin := 20, serial := 6 }, widened := false }] },
    (0 : EyeIx),
    (feed.eye 0).pinHigh,
    ({ change .blocked with dist := 2 } : Candidate),
    (Instr.eyeRawChange 0 (feed.eye 0).pinHigh),
    { (({ withEye (feed) (fun x => { x with accepted := .clear, candidate := some { change .blocked with dist := 2 } }) with train := [{ item with p := 4920 }, { item with tag := { origin := 20, serial := 6 }, order := 1, p := 4921 }], waiting := [{ eye := 0, tag := item.tag, widened := false }, { eye := 0, tag := { origin := 20, serial := 6 }, widened := false }] }).eye 0) with pinHigh := (feed.eye 0).pinHigh, candidate := none },
    by decide +kernel⟩

theorem witness_WaitingClosuresAreDecided_taken : ∃ (s : State) (e : EyeIx) (c : Candidate) (cmd : Instr) (y : Eye),
    s.PinsFollow ∧
      s.TrainSound ∧
      s.live = true ∧
      s.eyeRuns e = true ∧
      (s.eye e).candidate = some c ∧
      (s.travel (s.eye e).set.input).reverse = true ∧
      cmd = .edgeAccepted e ∧ (s.eye e).set.filter ≤ c.dist ∧ y = (s.eye e).become c.level ∧
      s.role = some .feed ∧
      (s.eye e).set.function = .feedLength ∧
      y.accepted = .clear ∧
      ((s.waiting.filter fun x => x.eye == e).map (·.tag)).Nodup ∧
      s.queue.length + (s.waiting.filter fun x => x.eye == e).length ≤ 16 ∧
      (∀ v ∈ s.waiting.filter fun x => x.eye == e, ((s.findRecord v.tag).any fun x =>
      (s.windowOf x).any fun z => z.2.1 == e && !(v.widened && !atOrPast (s.pos x.basis) z.2.2)) = true) :=
  ⟨{ withEye (feed.setTravel .a { travelAt 5000 with reverse := true }) (fun x => { x with accepted := .blocked, candidate := some (change .clear), pinHigh := !x.pinHigh }) with train := [{ item with p := 4920 }], waiting := [{ eye := 0, tag := item.tag, widened := false }] },
    (0 : EyeIx),
    ((change .clear) : Candidate),
    (Instr.edgeAccepted 0),
    ((({ withEye (feed.setTravel .a { travelAt 5000 with reverse := true }) (fun x => { x with accepted := .blocked, candidate := some (change .clear), pinHigh := !x.pinHigh }) with train := [{ item with p := 4920 }], waiting := [{ eye := 0, tag := item.tag, widened := false }] }).eye 0).become .clear),
    by decide +kernel⟩

theorem witness_WaitingClosuresAreDecided_widened :
    ∃ (s : State) (e : EyeIx) (high : Bool) (c : Candidate) (cmd : Instr) (y : Eye) (w : Waiting) (r : Record) (closing : Pos),
    s.PinsFollow ∧
      s.TrainSound ∧
      s.live = true ∧
      s.eyeRuns e = true ∧
      (s.eye e).candidate = some c ∧
      cmd = .eyeRawChange e high ∧ c.dist < (s.eye e).set.filter ∧
        y = { s.eye e with pinHigh := high, candidate := none } ∧ y.raw = y.accepted ∧
      s.role = some .feed ∧
      (s.eye e).set.function = .feedLength ∧
      (s.waiting.filter fun x => x.eye == e) = [w] ∧
      s.findRecord w.tag = some r ∧
      s.windowOf r = some (.feed, e, closing) ∧
      w.widened = true ∧
      atOrPast (s.pos r.basis) closing = false :=
  ⟨{ withEye (feed) (fun x => { x with accepted := .clear, candidate := some { change .blocked with dist := 2 } }) with train := [{ { item with p := 4920 } with h := 120 }], waiting := [{ eye := 0, tag := item.tag, widened := true }] },
    (0 : EyeIx),
    (feed.eye 0).pinHigh,
    ({ change .blocked with dist := 2 } : Candidate),
    (Instr.eyeRawChange 0 (feed.eye 0).pinHigh),
    { (({ withEye (feed) (fun x => { x with accepted := .clear, candidate := some { change .blocked with dist := 2 } }) with train := [{ { item with p := 4920 } with h := 120 }], waiting := [{ eye := 0, tag := item.tag, widened := true }] }).eye 0) with pinHigh := (feed.eye 0).pinHigh, candidate := none },
    ({ eye := 0, tag := item.tag, widened := true } : Waiting),
    ({ { item with p := 4920 } with h := 120 } : Record),
    (5060 : Pos),
    by decide +kernel⟩

theorem witness_WaitingClosuresAreDecided_blocked :
    ∃ (s : State) (e : EyeIx) (high : Bool) (c : Candidate) (cmd : Instr) (y : Eye) (w : Waiting) (r : Record) (closing : Pos),
    s.PinsFollow ∧
      s.TrainSound ∧
      s.live = true ∧
      s.eyeRuns e = true ∧
      (s.eye e).candidate = some c ∧
      cmd = .eyeRawChange e high ∧ c.dist < (s.eye e).set.filter ∧
        y = { s.eye e with pinHigh := high, candidate := none } ∧ y.raw = y.accepted ∧
      s.role = some .feed ∧
      (s.eye e).set.function = .feedLength ∧
      (s.waiting.filter fun x => x.eye == e) = [w] ∧
      s.findRecord w.tag = some r ∧
      s.windowOf r = some (.feed, e, closing) ∧
      w.widened = false ∧
      y.accepted = .blocked ∧
      (s.train.all fun x => !(x.stage == .entering && x.lane == r.lane)) = true :=
  ⟨{ withEye (feed) (fun x => { x with accepted := .blocked, candidate := some { change .clear with dist := 2 }, pinHigh := !x.pinHigh }) with train := [{ item with p := 4920 }], waiting := [{ eye := 0, tag := item.tag, widened := false }] },
    (0 : EyeIx),
    (!(feed.eye 0).pinHigh),
    ({ change .clear with dist := 2 } : Candidate),
    (Instr.eyeRawChange 0 (!(feed.eye 0).pinHigh)),
    { (({ withEye (feed) (fun x => { x with accepted := .blocked, candidate := some { change .clear with dist := 2 }, pinHigh := !x.pinHigh }) with train := [{ item with p := 4920 }], waiting := [{ eye := 0, tag := item.tag, widened := false }] }).eye 0) with pinHigh := (!(feed.eye 0).pinHigh), candidate := none },
    ({ eye := 0, tag := item.tag, widened := false } : Waiting),
    ({ item with p := 4920 } : Record),
    (5000 : Pos),
    by decide +kernel⟩

theorem witness_DeadReckoningAdvances_feed : ∃ (s : State) (tag : Tag) (r : Record),
    s.PinsFollow ∧
      s.TrainSound ∧
      s.dueRecord .reckoning tag = some r ∧
      s.role = some .feed ∧
      r.stage = .pending :=
  ⟨(withItem feed { item with lanes := 2, p := 5000 }),
    item.tag,
    ({ item with lanes := 2, p := 5000 } : Record),
    by decide +kernel⟩

theorem witness_DeadReckoningAdvances_entry : ∃ (s : State) (tag : Tag) (r : Record),
    s.PinsFollow ∧
      s.TrainSound ∧
      s.dueRecord .reckoning tag = some r ∧
      s.role = some .ironer ∧
      r.stage = .pending ∧
      (s.eyeAt .exit r.lane).isSome = true :=
  ⟨(withItem { ironer with lastStep := feed.lastStep } { item with p := 5000 }),
    item.tag,
    ({ item with p := 5000 } : Record),
    by decide +kernel⟩

theorem witness_DeadReckoningAdvances_exit : ∃ (s : State) (tag : Tag) (r : Record),
    s.PinsFollow ∧
      s.TrainSound ∧
      s.dueRecord .reckoning tag = some r ∧
      s.role = some .ironer ∧
      r.stage = .inside ∧
      s.queue.length < 16 :=
  ⟨(withItem ironer { item with stage := .inside, basis := .b, lanes := 2, p := 900, lead := some 400, entryB := some 400 }),
    item.tag,
    ({ item with stage := .inside, basis := .b, lanes := 2, p := 900, lead := some 400, entryB := some 400 } : Record),
    by decide +kernel⟩

theorem witness_DeadReckoningAdvances_outlet : ∃ (s : State) (tag : Tag) (r : Record),
    s.PinsFollow ∧
      s.TrainSound ∧
      s.dueRecord .reckoning tag = some r ∧
      s.role = some .outlet ∧
      r.stage = .pending ∧
      r.lot = 255 ∧
      s.travelA.reverse = false ∧
      (s.dest s.rejectDest).set.divert = none ∧
      ((s.departureAt { r with stage := .entering, lead := some r.p, dest := some s.rejectDest }).all fun y =>
      !atOrPast (s.pos .a) y) = true :=
  ⟨(withItem outlet { item with lanes := 2, p := 5000 }),
    item.tag,
    ({ item with lanes := 2, p := 5000 } : Record),
    by decide +kernel⟩

theorem witness_RecordsLeaveAtTheirPositions_cleared : ∃ (s : State) (tag : Tag) (r : Record),
    s.PinsFollow ∧
      s.TrainSound ∧
      (r.lot = 255 ∨ s.LotsSound) ∧
      s.dueRecord .clearance tag = some r ∧
      r.lot = 255 :=
  ⟨(withItem feed { item with stage := .inside, p := 4840 }),
    item.tag,
    ({ item with stage := .inside, p := 4840 } : Record),
    by decide +kernel⟩

theorem witness_RecordsLeaveAtTheirPositions_first : ∃ (s : State) (tag : Tag) (r : Record) (d : DestIx),
    s.PinsFollow ∧
      s.TrainSound ∧
      (r.lot = 255 ∨ s.LotsSound) ∧
      s.dueRecord .departure tag = some r ∧
      s.travelA.reverse = false ∧
      r.dest = some d ∧
      r.lot = 255 :=
  ⟨{ withItem outlet { item with stage := .leaving, dest := some 1, lead := some 4840 } with dests := outlet.dests.set 1 { outlet.dest 1 with count := 0, stackLot := 255 } },
    item.tag,
    ({ item with stage := .leaving, dest := some 1, lead := some 4840 } : Record),
    (1 : DestIx),
    by decide +kernel⟩

theorem witness_RecordsLeaveAtTheirPositions_switched : ∃ (s : State) (tag : Tag) (r : Record) (d : DestIx),
    s.PinsFollow ∧
      s.TrainSound ∧
      (r.lot = 255 ∨ s.LotsSound) ∧
      s.dueRecord .departure tag = some r ∧
      s.travelA.reverse = false ∧
      r.dest = some d ∧
      r.lot = 255 :=
  ⟨{ withItem outlet { item with stage := .leaving, dest := some 1, lead := some 4840 } with dests := outlet.dests.set 1 { outlet.dest 1 with count := 2, stackLot := 7 } },
    item.tag,
    ({ item with stage := .leaving, dest := some 1, lead := some 4840 } : Record),
    (1 : DestIx),
    by decide +kernel⟩

theorem witness_RecordsLeaveAtTheirPositions_full : ∃ (s : State) (tag : Tag) (r : Record) (d : DestIx),
    s.PinsFollow ∧
      s.TrainSound ∧
      (r.lot = 255 ∨ s.LotsSound) ∧
      s.dueRecord .departure tag = some r ∧
      s.travelA.reverse = false ∧
      r.dest = some d ∧
      r.lot = 255 :=
  ⟨{ withItem outlet { item with stage := .leaving, dest := some 1, lead := some 4840 } with dests := outlet.dests.set 1 { outlet.dest 1 with count := 2, stackLot := 255 } },
    item.tag,
    ({ item with stage := .leaving, dest := some 1, lead := some 4840 } : Record),
    (1 : DestIx),
    by decide +kernel⟩

theorem witness_RecordsLeaveAtTheirPositions_lotEnd : ∃ (s : State) (tag : Tag) (r : Record) (d : DestIx),
    s.PinsFollow ∧
      s.TrainSound ∧
      s.dueRecord .departure tag = some r ∧
      s.travelA.reverse = false ∧
      r.dest = some d ∧
      s.LotsSound ∧
      (after (exec (.departed tag) s)).closureList = [0] ∧
      ((after (exec (.departed tag) s)).channel 2).active =
        some { start := 5010, stop := 5030, refs := [], started := false } :=
  ⟨lastOfLot, item.tag, departing, (1 : DestIx), by decide +kernel⟩

theorem witness_RecordsLeaveAtTheirPositions_busy : ∃ (s : State) (tag : Tag) (r : Record) (d : DestIx),
    s.PinsFollow ∧
      s.TrainSound ∧
      s.dueRecord .departure tag = some r ∧
      s.travelA.reverse = false ∧
      r.dest = some d ∧
      s.LotsSound ∧
      (after (exec (.departed tag) s)).faults.map (·.count) = [some 2] :=
  ⟨busyStack, item.tag, departing, (1 : DestIx), by decide +kernel⟩

theorem witness_RecordsLeaveAtTheirPositions_clearedLot : ∃ (s : State) (tag : Tag) (r : Record),
    s.PinsFollow ∧
      s.TrainSound ∧
      s.dueRecord .clearance tag = some r ∧
      s.LotsSound ∧
      (∀ k, (s.dest k).count = 0) ∧
      ((after (exec (.cleared tag) s)).lotSlot 0).map (·.departed) = some 1 :=
  ⟨clearing, item.tag, { item with lot := 9, stage := .inside, p := 4840 }, by decide +kernel⟩

theorem witness_ReleaseIsAdmitted_feed : ∃ (s : State) (sender : Addr) (f : ReleaseFrame) (w : WatchEntry),
    s.live = true ∧
      (s.role = some .feed ∨ (s.role = some .ironer ∧ f.spacer = false)) ∧
      s.attempting = false ∧
      s.address ≠ some sender ∧
      s.watchOf sender = some w ∧
      w.expected = some f.seq ∧
      0 < w.offset ∧
      f.lanes ≠ 0 ∧
      s.findRecord f.tag = none ∧
      s.trainFull = false ∧
      atOrPast (s.pos .a) (Pos.plus 5350 (100 + 60)) = false ∧
      (s.train.all fun _ => false) = true ∧
      atOrPast (s.pos .a) (Pos.plus 5350 20) = false :=
  ⟨feed,
    (20 : Addr),
    releaseFrom,
    { place := 0, address := 20, offset := 300, expected := some 2, credits := 0 },
    by decide +kernel⟩

theorem witness_ReleaseIsAdmitted_ironer : ∃ (s : State) (sender : Addr) (f : ReleaseFrame) (w : WatchEntry),
    s.live = true ∧
      (s.role = some .feed ∨ (s.role = some .ironer ∧ f.spacer = false)) ∧
      s.attempting = false ∧
      s.address ≠ some sender ∧
      s.watchOf sender = some w ∧
      w.expected = some f.seq ∧
      0 < w.offset ∧
      f.lanes ≠ 0 ∧
      s.findRecord f.tag = none ∧
      s.trainFull = false ∧
      atOrPast (s.pos .a) (Pos.plus 5350 (100 + 60)) = false ∧
      (s.train.all fun _ => false) = true ∧
      atOrPast (s.pos .a) (Pos.plus 5350 20) = false :=
  ⟨ironer,
    (20 : Addr),
    releaseFrom,
    { place := 0, address := 20, offset := 300, expected := some 2, credits := 0 },
    by decide +kernel⟩

theorem witness_ReleaseIsAdmitted_late : ∃ (s : State) (sender : Addr) (f : ReleaseFrame) (w : WatchEntry),
    s.live = true ∧
      (s.role = some .feed ∨ (s.role = some .ironer ∧ f.spacer = false)) ∧
      s.attempting = false ∧
      s.address ≠ some sender ∧
      s.watchOf sender = some w ∧
      w.expected = some f.seq ∧
      0 < w.offset ∧
      f.lanes ≠ 0 ∧
      s.findRecord f.tag = none ∧
      s.trainFull = false ∧
      f.offset.toInt = 4095 ∧
      (after (exec (.release sender f) s)).faults.map (·.kind) = [.lateAnnounce] :=
  ⟨feed,
    (22 : Addr),
    { releaseFrom with offset := 4095 },
    { place := 2, address := 22, offset := 6000, expected := some 2, credits := 0 },
    by decide +kernel⟩

theorem witness_ReleaseIsAdmitted_missed : ∃ (s : State) (sender : Addr) (f : ReleaseFrame) (w : WatchEntry),
    s.live = true ∧
      (s.role = some .feed ∨ (s.role = some .ironer ∧ f.spacer = false)) ∧
      s.attempting = false ∧
      s.address ≠ some sender ∧
      s.watchOf sender = some w ∧
      w.expected = some f.seq ∧
      0 < w.offset ∧
      f.lanes ≠ 0 ∧
      s.findRecord f.tag = none ∧
      s.trainFull = false ∧
      (after (exec (.release sender f) s)).queue.map (·.frame) = [.lost f.tag 1] ∧
      (after (exec (.release sender f) s)).faults.map (·.kind) = [.missed] :=
  ⟨feed,
    (20 : Addr),
    { releaseFrom with offset := 400 },
    { place := 0, address := 20, offset := 300, expected := some 2, credits := 0 },
    by decide +kernel⟩

theorem witness_ReleaseIsAdmitted_reckoned : ∃ (s : State) (sender : Addr) (f : ReleaseFrame) (w : WatchEntry),
    s.live = true ∧
      (s.role = some .feed ∨ (s.role = some .ironer ∧ f.spacer = false)) ∧
      s.attempting = false ∧
      s.address ≠ some sender ∧
      s.watchOf sender = some w ∧
      w.expected = some f.seq ∧
      0 < w.offset ∧
      f.lanes ≠ 0 ∧
      s.findRecord f.tag = none ∧
      s.trainFull = false ∧
      (after (exec (.release sender f) s)).train.map (·.stage) = [.inside] :=
  ⟨feed,
    (20 : Addr),
    { releaseFrom with lanes := 2, offset := 310 },
    { place := 0, address := 20, offset := 300, expected := some 2, credits := 0 },
    by decide +kernel⟩

theorem witness_ReleaseIsAdmitted_source : ∃ (s : State) (sender : Addr) (f : ReleaseFrame) (w : WatchEntry),
    s.live = true ∧
      (s.role = some .feed ∨ (s.role = some .ironer ∧ f.spacer = false)) ∧
      s.attempting = false ∧
      s.address ≠ some sender ∧
      s.watchOf sender = some w ∧
      w.expected = some f.seq ∧
      0 < w.offset ∧
      f.lanes ≠ 0 ∧
      s.findRecord f.tag = none ∧
      s.trainFull = false ∧
      s.LotsSound ∧
      ((after (exec (.release sender f) s)).lotSlot 0).map (fun e => (e.inFlight, e.sources.length)) = some (1, 2) :=
  ⟨(withLot feed (lotEntry [{ source with gate := 1 }] 0)),
    (20 : Addr),
    releaseFrom,
    { place := 0, address := 20, offset := 300, expected := some 2, credits := 0 },
    by decide +kernel⟩

theorem witness_ReleaseIsAdmitted_reopened : ∃ (s : State) (sender : Addr) (f : ReleaseFrame) (w : WatchEntry),
    s.live = true ∧
      (s.role = some .feed ∨ (s.role = some .ironer ∧ f.spacer = false)) ∧
      s.attempting = false ∧
      s.address ≠ some sender ∧
      s.watchOf sender = some w ∧
      w.expected = some f.seq ∧
      0 < w.offset ∧
      f.lanes ≠ 0 ∧
      s.findRecord f.tag = none ∧
      s.trainFull = false ∧
      s.LotsSound ∧
      (after (exec (.release sender f) s)).faults.map (·.kind) = [.lotReopened] :=
  ⟨{ withLot feed (lotEntry [] 0) with closureList := [0] },
    (20 : Addr),
    releaseFrom,
    { place := 0, address := 20, offset := 300, expected := some 2, credits := 0 },
    by decide +kernel⟩

theorem witness_ReleaseIsAdmitted_noticeLost : ∃ (s : State) (sender : Addr) (f : ReleaseFrame) (w : WatchEntry),
    s.live = true ∧
      (s.role = some .feed ∨ (s.role = some .ironer ∧ f.spacer = false)) ∧
      s.attempting = false ∧
      s.address ≠ some sender ∧
      s.watchOf sender = some w ∧
      w.expected = some f.seq ∧
      0 < w.offset ∧
      f.lanes ≠ 0 ∧
      s.findRecord f.tag = none ∧
      s.trainFull = false ∧
      s.LotsSound ∧
      (after (exec (.release sender f) s)).faults.map (fun x => (x.kind, x.lot)) = [(.noticeLost, some 103)] :=
  ⟨{ feed with lots := fullLots, closureList := [3] },
    (20 : Addr),
    releaseFrom,
    { place := 0, address := 20, offset := 300, expected := some 2, credits := 0 },
    by decide +kernel⟩

theorem witness_ReleaseIsAdmitted_untracked : ∃ (s : State) (sender : Addr) (f : ReleaseFrame) (w : WatchEntry),
    s.live = true ∧
      (s.role = some .feed ∨ (s.role = some .ironer ∧ f.spacer = false)) ∧
      s.attempting = false ∧
      s.address ≠ some sender ∧
      s.watchOf sender = some w ∧
      w.expected = some f.seq ∧
      0 < w.offset ∧
      f.lanes ≠ 0 ∧
      s.findRecord f.tag = none ∧
      s.trainFull = false ∧
      s.LotsSound ∧
      (after (exec (.release sender f) s)).train.map (·.flags.lotUntracked) = [true] :=
  ⟨{ feed with lots := openLots },
    (20 : Addr),
    releaseFrom,
    { place := 0, address := 20, offset := 300, expected := some 2, credits := 0 },
    by decide +kernel⟩

theorem witness_HandoffIsAdmitted_prompt : ∃ (s : State) (sender : Addr) (f : HandoffFrame) (w : WatchEntry),
    s.live = true ∧
      s.role = some .outlet ∧
      s.attempting = false ∧
      s.address ≠ some sender ∧
      s.watchOf sender = some w ∧
      w.expected = some f.seq ∧
      0 < w.offset ∧
      f.lanes ≠ 0 ∧
      s.findRecord f.tag = none ∧
      s.trainFull = false ∧
      atOrPast (s.pos .a) (Pos.plus 5350 20) = false :=
  ⟨outlet,
    (20 : Addr),
    (handoffFrom (-50)),
    { place := 0, address := 20, offset := 300, expected := some 2, credits := 0 },
    by decide +kernel⟩

theorem witness_HandoffIsAdmitted_late : ∃ (s : State) (sender : Addr) (f : HandoffFrame) (w : WatchEntry),
    s.live = true ∧
      s.role = some .outlet ∧
      s.attempting = false ∧
      s.address ≠ some sender ∧
      s.watchOf sender = some w ∧
      w.expected = some f.seq ∧
      0 < w.offset ∧
      f.lanes ≠ 0 ∧
      s.findRecord f.tag = none ∧
      s.trainFull = false ∧
      f.offset.toInt = 4095 ∧
      atOrPast (s.pos .a) (Pos.plus (Pos.plus (s.pos .a) (w.offset - 4095)) 20) = false :=
  ⟨outlet,
    (22 : Addr),
    (handoffFrom 4095),
    { place := 2, address := 22, offset := 6000, expected := some 2, credits := 0 },
    by decide +kernel⟩

theorem witness_HandoffIsAdmitted_missed : ∃ (s : State) (sender : Addr) (f : HandoffFrame) (w : WatchEntry),
    s.live = true ∧
      s.role = some .outlet ∧
      s.attempting = false ∧
      s.address ≠ some sender ∧
      s.watchOf sender = some w ∧
      w.expected = some f.seq ∧
      0 < w.offset ∧
      f.lanes ≠ 0 ∧
      s.findRecord f.tag = none ∧
      s.trainFull = false ∧
      (after (exec (.handoff sender f) s)).queue.map (·.frame) = [.lost f.tag 1] :=
  ⟨outlet,
    (20 : Addr),
    { handoffFrom 400 with flags := { (handoffFrom 0).flags with unverified := false } },
    { place := 0, address := 20, offset := 300, expected := some 2, credits := 0 },
    by decide +kernel⟩

theorem witness_HandoffIsAdmitted_clearedMiss : ∃ (s : State) (sender : Addr) (f : HandoffFrame) (w : WatchEntry),
    s.live = true ∧
      s.role = some .outlet ∧
      s.attempting = false ∧
      s.address ≠ some sender ∧
      s.watchOf sender = some w ∧
      w.expected = some f.seq ∧
      0 < w.offset ∧
      f.lanes ≠ 0 ∧
      s.findRecord f.tag = none ∧
      s.trainFull = false ∧
      (after (exec (.handoff sender f) s)).queue.map (·.frame) = [.lost f.tag 2] :=
  ⟨outlet,
    (20 : Addr),
    { handoffFrom 400 with flags := { (handoffFrom 0).flags with unverified := true } },
    { place := 0, address := 20, offset := 300, expected := some 2, credits := 0 },
    by decide +kernel⟩

theorem witness_HandoffIsAdmitted_reverse : ∃ (s : State) (sender : Addr) (f : HandoffFrame) (w : WatchEntry),
    s.live = true ∧
      s.role = some .outlet ∧
      s.attempting = false ∧
      s.address ≠ some sender ∧
      s.watchOf sender = some w ∧
      w.expected = some f.seq ∧
      0 < w.offset ∧
      f.lanes ≠ 0 ∧
      s.findRecord f.tag = none ∧
      s.trainFull = false ∧
      s.eyeAt .outlet 0 = none ∧
      atOrPast (s.pos .a) (Pos.plus (s.pos .a) (w.offset - f.offset.toInt)) = true ∧
      s.travelA.reverse = true :=
  ⟨(after (exec (.setAlertMask 0) ({ outlet with eyes := State.reset.eyes }.setTravel .a { travelAt 5000 with reverse := true }))),
    (20 : Addr),
    (handoffFrom 400),
    { place := 0, address := 20, offset := 300, expected := some 2, credits := 0 },
    by decide +kernel⟩

theorem witness_AnnouncementsAreChecked_gap : ∃ (s : State) (sender : Addr) (w : WatchEntry),
    s.PinsFollow ∧
      s.attempting = false ∧
      s.serving = true ∧
      s.address ≠ some sender ∧
      s.watchOf sender = some w ∧
      s.mode = .joining :=
  ⟨{ feed with mode := .joining },
    (20 : Addr),
    { place := 0, address := 20, offset := 300, expected := some 2, credits := 0 },
    by decide +kernel⟩

theorem witness_AnnouncementsAreChecked_lanes : ∃ (s : State) (sender : Addr) (f : ReleaseFrame) (w : WatchEntry),
    s.PinsFollow ∧
      s.attempting = false ∧
      s.serving = true ∧
      s.address ≠ some sender ∧
      s.watchOf sender = some w ∧
      f.lanes = 0 :=
  ⟨feed,
    (20 : Addr),
    { releaseFrom with lanes := 0 },
    { place := 0, address := 20, offset := 300, expected := some 2, credits := 0 },
    by decide +kernel⟩

theorem witness_AnnouncementsAreChecked_downstream :
    ∃ (s : State) (sender : Addr) (f : ReleaseFrame) (w : WatchEntry),
    s.PinsFollow ∧
      s.attempting = false ∧
      s.serving = true ∧
      s.address ≠ some sender ∧
      s.watchOf sender = some w ∧
      w.offset ≤ 0 ∧
      s.findRecord f.tag = none ∧
      s.trainFull = false :=
  ⟨feed,
    (21 : Addr),
    releaseFrom,
    { place := 1, address := 21, offset := -200, expected := none, credits := 0 },
    by decide +kernel⟩

theorem witness_AnnouncementsAreChecked_duplicate : ∃ (s : State) (sender : Addr) (f : ReleaseFrame) (w : WatchEntry),
    s.PinsFollow ∧
      s.attempting = false ∧
      s.serving = true ∧
      s.address ≠ some sender ∧
      s.watchOf sender = some w ∧
      s.live = true ∧
      s.role = some .feed ∧
      f.lanes ≠ 0 ∧
      (s.findRecord f.tag).isSome = true :=
  ⟨(withItem feed { item with tag := releaseFrom.tag }),
    (20 : Addr),
    releaseFrom,
    { place := 0, address := 20, offset := 300, expected := some 2, credits := 0 },
    by decide +kernel⟩

theorem witness_AnnouncementsAreChecked_full : ∃ (s : State) (sender : Addr) (f : ReleaseFrame) (w : WatchEntry),
    s.PinsFollow ∧
      s.attempting = false ∧
      s.serving = true ∧
      s.address ≠ some sender ∧
      s.watchOf sender = some w ∧
      s.live = true ∧
      s.role = some .feed ∧
      f.lanes ≠ 0 ∧
      s.findRecord f.tag = none ∧
      s.trainFull = true :=
  ⟨{ feed with train := fullTrain },
    (20 : Addr),
    { releaseFrom with tag := { origin := 20, serial := 100 } },
    { place := 0, address := 20, offset := 300, expected := some 2, credits := 0 },
    by decide +kernel⟩

theorem witness_AnnouncementsAreChecked_handoffRole : ∃ (s : State) (sender : Addr) (w : WatchEntry),
    s.PinsFollow ∧
      s.attempting = false ∧
      s.serving = true ∧
      s.address ≠ some sender ∧
      s.watchOf sender = some w ∧
      s.role ≠ some .outlet :=
  ⟨feed,
    (20 : Addr),
    { place := 0, address := 20, offset := 300, expected := some 2, credits := 0 },
    by decide +kernel⟩

theorem witness_AnnouncementsAreChecked_handoffLanes :
    ∃ (s : State) (sender : Addr) (h : HandoffFrame) (w : WatchEntry),
    s.PinsFollow ∧
      s.attempting = false ∧
      s.serving = true ∧
      s.address ≠ some sender ∧
      s.watchOf sender = some w ∧
      h.lanes = 0 :=
  ⟨outlet,
    (20 : Addr),
    { handoffFrom 0 with lanes := 0 },
    { place := 0, address := 20, offset := 300, expected := some 2, credits := 0 },
    by decide +kernel⟩

theorem witness_AnnouncementsAreChecked_handoffDownstream :
    ∃ (s : State) (sender : Addr) (h : HandoffFrame) (w : WatchEntry),
    s.PinsFollow ∧
      s.attempting = false ∧
      s.serving = true ∧
      s.address ≠ some sender ∧
      s.watchOf sender = some w ∧
      w.offset ≤ 0 ∧
      s.findRecord h.tag = none ∧
      s.trainFull = false :=
  ⟨outlet,
    (21 : Addr),
    (handoffFrom 0),
    { place := 1, address := 21, offset := -200, expected := none, credits := 0 },
    by decide +kernel⟩

theorem witness_AnnouncementsAreChecked_handoffDuplicate :
    ∃ (s : State) (sender : Addr) (h : HandoffFrame) (w : WatchEntry),
    s.PinsFollow ∧
      s.attempting = false ∧
      s.serving = true ∧
      s.address ≠ some sender ∧
      s.watchOf sender = some w ∧
      s.live = true ∧
      s.role = some .outlet ∧
      h.lanes ≠ 0 ∧
      (s.findRecord h.tag).isSome = true :=
  ⟨(withItem outlet { item with tag := releaseFrom.tag }),
    (20 : Addr),
    (handoffFrom 0),
    { place := 0, address := 20, offset := 300, expected := some 2, credits := 0 },
    by decide +kernel⟩

theorem witness_AnnouncementsAreChecked_handoffFull :
    ∃ (s : State) (sender : Addr) (h : HandoffFrame) (w : WatchEntry),
    s.PinsFollow ∧
      s.attempting = false ∧
      s.serving = true ∧
      s.address ≠ some sender ∧
      s.watchOf sender = some w ∧
      s.live = true ∧
      s.role = some .outlet ∧
      h.lanes ≠ 0 ∧
      s.findRecord h.tag = none ∧
      s.trainFull = true :=
  ⟨{ outlet with train := fullTrain },
    (20 : Addr),
    { handoffFrom 0 with tag := { origin := 20, serial := 100 } },
    { place := 0, address := 20, offset := 300, expected := some 2, credits := 0 },
    by decide +kernel⟩

theorem witness_LostMarkHoldAndJoinFromPeers_held : ∃ (s : State) (sender : Addr) (tag : Tag),
    s.PinsFollow ∧
      s.attempting = false ∧
      s.address ≠ some sender ∧
      s.TrainSound ∧
      s.live = true ∧
      ((s.findRecord tag).any fun r => r.stage == .pending) = true :=
  ⟨(withItem feed item), (20 : Addr), item.tag, by decide +kernel⟩

theorem witness_LostMarkHoldAndJoinFromPeers_later : ∃ (s : State) (sender : Addr) (tag : Tag),
    s.PinsFollow ∧
      s.attempting = false ∧
      s.address ≠ some sender ∧
      s.TrainSound ∧
      s.live = true ∧
      ((s.findRecord tag).all fun r => r.stage != .pending) = true :=
  ⟨(withItem feed { item with stage := .inside }), (20 : Addr), item.tag, by decide +kernel⟩

theorem witness_PeerReservationsAreKept_passed : ∃ (s : State) (sender : Addr) (w : WatchEntry),
    s.PinsFollow ∧
      s.attempting = false ∧
      s.live = true ∧
      s.role = some .feed ∧
      s.address ≠ some sender ∧
      s.watchOf sender = some w ∧
      0 ≤ diff (s.pos .a) (Pos.plus (Pos.plus (s.pos .a) ((100 : BitVec 16).toNat + w.offset)) (100 : BitVec 16).toNat) :=
  ⟨feed,
    (21 : Addr),
    { place := 1, address := 21, offset := -200, expected := none, credits := 0 },
    by decide +kernel⟩

theorem witness_PeerReservationsAreKept_ahead : ∃ (s : State) (sender : Addr) (w : WatchEntry),
    s.PinsFollow ∧
      s.attempting = false ∧
      s.live = true ∧
      s.role = some .feed ∧
      s.address ≠ some sender ∧
      s.watchOf sender = some w ∧
      diff (s.pos .a) (Pos.plus (Pos.plus (s.pos .a) ((100 : BitVec 16).toNat + w.offset)) (50 : BitVec 16).toNat) < 0 ∧
      s.reservations = [] ∧
      s.segmentHitsRecord 1 5400 5450 = false :=
  ⟨feed,
    (20 : Addr),
    { place := 0, address := 20, offset := 300, expected := some 2, credits := 0 },
    by decide +kernel⟩

theorem witness_PeerReservationsAreKept_voids : ∃ (s : State) (sender : Addr) (w : WatchEntry),
    s.PinsFollow ∧
      s.attempting = false ∧
      s.live = true ∧
      s.role = some .feed ∧
      s.address ≠ some sender ∧
      s.watchOf sender = some w ∧
      (s.reservations.all fun r => r.own && r.phase == .queued && overlaps 5400 5450 r.start r.stop) = true ∧
      s.segmentHitsRecord 1 5400 5450 = false ∧
      s.reservations.length < 8 :=
  ⟨{ feed with reservations := [ownEntry 5420 .queued] },
    (20 : Addr),
    { place := 0, address := 20, offset := 300, expected := some 2, credits := 0 },
    by decide +kernel⟩

theorem witness_LotmarkEndsSource_closed :
    ∃ (s : State) (sender : Addr) (f : LotMarkFrame) (k : Fin 16) (e : LotEntry),
    s.LotsSound ∧
      s.attempting = false ∧
      s.serving = true ∧
      s.address ≠ some sender ∧
      s.lotSlotOf f.old = some k ∧
      s.lotSlot k = some e :=
  ⟨(withLot feed (lotEntry [source] 0)),
    (20 : Addr),
    (lotmarkFrom (some { origin := 20, serial := 5 })),
    (0 : Fin 16),
    (lotEntry [source] 0),
    by decide +kernel⟩

theorem witness_LotmarkEndsSource_kept : ∃ (s : State) (sender : Addr) (f : LotMarkFrame) (k : Fin 16) (e : LotEntry),
    s.LotsSound ∧
      s.attempting = false ∧
      s.serving = true ∧
      s.address ≠ some sender ∧
      s.lotSlotOf f.old = some k ∧
      s.lotSlot k = some e :=
  ⟨(withLot feed (lotEntry [source] 0)),
    (20 : Addr),
    (lotmarkFrom (some { origin := 20, serial := 8 })),
    (0 : Fin 16),
    (lotEntry [source] 0),
    by decide +kernel⟩

theorem witness_LotmarkEndsSource_none : ∃ (s : State) (sender : Addr) (f : LotMarkFrame) (k : Fin 16) (e : LotEntry),
    s.LotsSound ∧
      s.attempting = false ∧
      s.serving = true ∧
      s.address ≠ some sender ∧
      s.lotSlotOf f.old = some k ∧
      s.lotSlot k = some e :=
  ⟨(withLot feed (lotEntry [source] 1)),
    (20 : Addr),
    (lotmarkFrom none),
    (0 : Fin 16),
    (lotEntry [source] 1),
    by decide +kernel⟩

theorem witness_LostMarkHoldAndJoinFromPeers_join : ∃ (s : State) (sender : Addr),
    s.PinsFollow ∧
      s.attempting = false ∧
      s.address ≠ some sender ∧
      s.mode ≠ .config :=
  ⟨{ feed with reservations := [peerEntry 5200] }, (20 : Addr), by decide +kernel⟩

theorem witness_LostMarkHoldAndJoinFromPeers_joining : ∃ (s : State) (sender : Addr),
    s.PinsFollow ∧
      s.attempting = false ∧
      s.address ≠ some sender ∧
      s.mode ≠ .config ∧
      s.mode = .joining :=
  ⟨{ feed with mode := .joining }, (20 : Addr), by decide +kernel⟩

theorem witness_LostMarkHoldAndJoinFromPeers_conflict : ∃ (s : State) (sender : Addr),
    s.PinsFollow ∧
      s.attempting = false ∧
      s.address ≠ some sender ∧
      s.mode ≠ .config ∧
      s.mode = .conflict :=
  ⟨{ feed with mode := .conflict }, (20 : Addr), by decide +kernel⟩

theorem witness_WaitingClosuresAreDecided_matched :
    ∃ (s : State) (e : EyeIx) (c : Candidate) (cmd : Instr) (y : Eye) (w : Waiting),
    s.PinsFollow ∧
      s.TrainSound ∧
      s.live = true ∧
      s.eyeRuns e = true ∧
      (s.eye e).candidate = some c ∧
      cmd = .edgeAccepted e ∧ (s.eye e).set.filter ≤ c.dist ∧ y = (s.eye e).become c.level ∧
      (s.waiting.filter fun x => x.eye == e).getLast? = some w ∧
      (s.waiting.filter fun v => v.tag == w.tag) = [w] ∧
      ((s.findRecord w.tag).any fun x => (s.windowOf x).any fun z => z.2.1 == e) = true ∧
      keptAt s cmd w e = false :=
  ⟨{ withEye (feed) (fun x => { x with accepted := .clear, candidate := some (change .blocked) }) with train := [{ item with p := 4975 }], waiting := [{ eye := 0, tag := item.tag, widened := false }] },
    (0 : EyeIx),
    ((change .blocked) : Candidate),
    (Instr.edgeAccepted 0),
    ((({ withEye (feed) (fun x => { x with accepted := .clear, candidate := some (change .blocked) }) with train := [{ item with p := 4975 }], waiting := [{ eye := 0, tag := item.tag, widened := false }] }).eye 0).become .blocked),
    ({ eye := 0, tag := item.tag, widened := false } : Waiting),
    by decide +kernel⟩

theorem witness_WaitingClosuresAreDecided_trailed :
    ∃ (s : State) (e : EyeIx) (c : Candidate) (cmd : Instr) (y : Eye) (w : Waiting),
    s.PinsFollow ∧
      s.TrainSound ∧
      s.live = true ∧
      s.eyeRuns e = true ∧
      (s.eye e).candidate = some c ∧
      cmd = .edgeAccepted e ∧ (s.eye e).set.filter ≤ c.dist ∧ y = (s.eye e).become c.level ∧
      (s.waiting.filter fun x => x.eye == e).getLast? = some w ∧
      (s.waiting.filter fun v => v.tag == w.tag) = [w] ∧
      ((s.findRecord w.tag).any fun x => (s.windowOf x).any fun z => z.2.1 == e) = true ∧
      keptAt s cmd w e = true ∧
      y.accepted = .clear ∧
      (after (exec cmd (without s w))).train.length = 2 :=
  ⟨{ withEye (feed) (fun x => { x with accepted := .blocked, candidate := some (change .clear), pinHigh := !x.pinHigh }) with train := [{ item with tag := { origin := 20, serial := 4 }, stage := .entering, p := 4925, lead := some 4945 }, { item with p := 4920 }], waiting := [{ eye := 0, tag := item.tag, widened := false }] },
    (0 : EyeIx),
    ((change .clear) : Candidate),
    (Instr.edgeAccepted 0),
    ((({ withEye (feed) (fun x => { x with accepted := .blocked, candidate := some (change .clear), pinHigh := !x.pinHigh }) with train := [{ item with tag := { origin := 20, serial := 4 }, stage := .entering, p := 4925, lead := some 4945 }, { item with p := 4920 }], waiting := [{ eye := 0, tag := item.tag, widened := false }] }).eye 0).become .clear),
    ({ eye := 0, tag := item.tag, widened := false } : Waiting),
    by decide +kernel⟩

theorem witness_WaitingClosuresAreDecided_second :
    ∃ (s : State) (e : EyeIx) (high : Bool) (c : Candidate) (cmd : Instr) (y : Eye) (w : Waiting),
    s.PinsFollow ∧
      s.TrainSound ∧
      s.live = true ∧
      s.eyeRuns e = true ∧
      (s.eye e).candidate = some c ∧
      cmd = .eyeRawChange e high ∧ c.dist < (s.eye e).set.filter ∧
        y = { s.eye e with pinHigh := high, candidate := none } ∧ y.raw = y.accepted ∧
      (s.waiting.filter fun x => x.eye == e).getLast? = some w ∧
      (s.waiting.filter fun v => v.tag == w.tag) = [w] ∧
      ((s.findRecord w.tag).any fun x => (s.windowOf x).any fun z => z.2.1 == e) = true ∧
      keptAt s cmd w e = true ∧
      y.accepted = .blocked ∧
      ((after (exec cmd s)).train.all fun x => x.flags.double) = true :=
  ⟨{ withEye (feed) (fun x => { x with accepted := .blocked, candidate := some { change .clear with dist := 2 }, pinHigh := !x.pinHigh }) with train := [{ item with p := 4920 }, { item with tag := { origin := 20, serial := 6 }, order := 1, p := 4921 }], waiting := [{ eye := 0, tag := { origin := 20, serial := 6 }, widened := false }, { eye := 0, tag := item.tag, widened := false }] },
    (0 : EyeIx),
    (!(feed.eye 0).pinHigh),
    ({ change .clear with dist := 2 } : Candidate),
    (Instr.eyeRawChange 0 (!(feed.eye 0).pinHigh)),
    { (({ withEye (feed) (fun x => { x with accepted := .blocked, candidate := some { change .clear with dist := 2 }, pinHigh := !x.pinHigh }) with train := [{ item with p := 4920 }, { item with tag := { origin := 20, serial := 6 }, order := 1, p := 4921 }], waiting := [{ eye := 0, tag := { origin := 20, serial := 6 }, widened := false }, { eye := 0, tag := item.tag, widened := false }] }).eye 0) with pinHigh := (!(feed.eye 0).pinHigh), candidate := none },
    ({ eye := 0, tag := item.tag, widened := false } : Waiting),
    by decide +kernel⟩

theorem witness_WaitingClosuresAreDecided_exit :
    ∃ (s : State) (e : EyeIx) (high : Bool) (c : Candidate) (cmd : Instr) (y : Eye) (w : Waiting),
    s.PinsFollow ∧
      s.TrainSound ∧
      s.live = true ∧
      s.eyeRuns e = true ∧
      (s.eye e).candidate = some c ∧
      cmd = .eyeRawChange e high ∧ c.dist < (s.eye e).set.filter ∧
        y = { s.eye e with pinHigh := high, candidate := none } ∧ y.raw = y.accepted ∧
      (s.waiting.filter fun x => x.eye == e).getLast? = some w ∧
      (s.waiting.filter fun v => v.tag == w.tag) = [w] ∧
      ((s.findRecord w.tag).any fun x => (s.windowOf x).any fun z => z.2.1 == e) = true ∧
      keptAt s cmd w e = true ∧
      y.accepted = .blocked ∧
      ((after (exec cmd s)).train.all fun x => x.flags.double) = true :=
  ⟨{ withEye (ironer) (fun x => { x with accepted := .blocked, candidate := some { change .clear with dist := 2 }, pinHigh := !x.pinHigh }) with train := [{ item with tag := { origin := 20, serial := 4 }, stage := .leaving, basis := .b, p := 825, lead := some 845 }, { item with stage := .inside, basis := .b, p := 820 }], waiting := [{ eye := 0, tag := item.tag, widened := false }] },
    (0 : EyeIx),
    (!(feed.eye 0).pinHigh),
    ({ change .clear with dist := 2 } : Candidate),
    (Instr.eyeRawChange 0 (!(feed.eye 0).pinHigh)),
    { (({ withEye (ironer) (fun x => { x with accepted := .blocked, candidate := some { change .clear with dist := 2 }, pinHigh := !x.pinHigh }) with train := [{ item with tag := { origin := 20, serial := 4 }, stage := .leaving, basis := .b, p := 825, lead := some 845 }, { item with stage := .inside, basis := .b, p := 820 }], waiting := [{ eye := 0, tag := item.tag, widened := false }] }).eye 0) with pinHigh := (!(feed.eye 0).pinHigh), candidate := none },
    ({ eye := 0, tag := item.tag, widened := false } : Waiting),
    by decide +kernel⟩

theorem witness_WaitingClosuresAreDecided_entry :
    ∃ (s : State) (e : EyeIx) (high : Bool) (c : Candidate) (cmd : Instr) (y : Eye) (w : Waiting),
    s.PinsFollow ∧
      s.TrainSound ∧
      s.live = true ∧
      s.eyeRuns e = true ∧
      (s.eye e).candidate = some c ∧
      cmd = .eyeRawChange e high ∧ c.dist < (s.eye e).set.filter ∧
        y = { s.eye e with pinHigh := high, candidate := none } ∧ y.raw = y.accepted ∧
      (s.waiting.filter fun x => x.eye == e).getLast? = some w ∧
      (s.waiting.filter fun v => v.tag == w.tag) = [w] ∧
      ((s.findRecord w.tag).any fun x => (s.windowOf x).any fun z => z.2.1 == e) = true ∧
      keptAt s cmd w e = true ∧
      y.accepted = .blocked ∧
      (after (exec cmd s)).train.map (·.stage) = [.entering] :=
  ⟨{ withEye (entryLine) (fun x => { x with accepted := .blocked, candidate := some { change .clear with dist := 2 }, pinHigh := !x.pinHigh }) with train := [{ item with p := 4920 }], waiting := [{ eye := 0, tag := item.tag, widened := false }] },
    (0 : EyeIx),
    (!(feed.eye 0).pinHigh),
    ({ change .clear with dist := 2 } : Candidate),
    (Instr.eyeRawChange 0 (!(feed.eye 0).pinHigh)),
    { (({ withEye (entryLine) (fun x => { x with accepted := .blocked, candidate := some { change .clear with dist := 2 }, pinHigh := !x.pinHigh }) with train := [{ item with p := 4920 }], waiting := [{ eye := 0, tag := item.tag, widened := false }] }).eye 0) with pinHigh := (!(feed.eye 0).pinHigh), candidate := none },
    ({ eye := 0, tag := item.tag, widened := false } : Waiting),
    by decide +kernel⟩

theorem witness_WaitingClosuresAreDecided_outlet :
    ∃ (s : State) (e : EyeIx) (high : Bool) (c : Candidate) (cmd : Instr) (y : Eye) (w : Waiting),
    s.PinsFollow ∧
      s.TrainSound ∧
      s.live = true ∧
      s.eyeRuns e = true ∧
      (s.eye e).candidate = some c ∧
      cmd = .eyeRawChange e high ∧ c.dist < (s.eye e).set.filter ∧
        y = { s.eye e with pinHigh := high, candidate := none } ∧ y.raw = y.accepted ∧
      (s.waiting.filter fun x => x.eye == e).getLast? = some w ∧
      (s.waiting.filter fun v => v.tag == w.tag) = [w] ∧
      ((s.findRecord w.tag).any fun x => (s.windowOf x).any fun z => z.2.1 == e) = true ∧
      keptAt s cmd w e = true ∧
      y.accepted = .blocked ∧
      (after (exec cmd s)).train.map (·.dest) = [some s.rejectDest] :=
  ⟨{ withEye (outlet) (fun x => { x with accepted := .blocked, candidate := some { change .clear with dist := 2 }, pinHigh := !x.pinHigh }) with train := [{ item with p := 4920 }], waiting := [{ eye := 0, tag := item.tag, widened := false }] },
    (0 : EyeIx),
    (!(feed.eye 0).pinHigh),
    ({ change .clear with dist := 2 } : Candidate),
    (Instr.eyeRawChange 0 (!(feed.eye 0).pinHigh)),
    { (({ withEye (outlet) (fun x => { x with accepted := .blocked, candidate := some { change .clear with dist := 2 }, pinHigh := !x.pinHigh }) with train := [{ item with p := 4920 }], waiting := [{ eye := 0, tag := item.tag, widened := false }] }).eye 0) with pinHigh := (!(feed.eye 0).pinHigh), candidate := none },
    ({ eye := 0, tag := item.tag, widened := false } : Waiting),
    by decide +kernel⟩

theorem witness_WaitingClosuresAreDecided_reverse :
    ∃ (s : State) (e : EyeIx) (high : Bool) (c : Candidate) (cmd : Instr) (y : Eye) (w : Waiting),
    s.PinsFollow ∧
      s.TrainSound ∧
      s.live = true ∧
      s.eyeRuns e = true ∧
      (s.eye e).candidate = some c ∧
      cmd = .eyeRawChange e high ∧ c.dist < (s.eye e).set.filter ∧
        y = { s.eye e with pinHigh := high, candidate := none } ∧ y.raw = y.accepted ∧
      (s.waiting.filter fun x => x.eye == e).getLast? = some w ∧
      (s.waiting.filter fun v => v.tag == w.tag) = [w] ∧
      ((s.findRecord w.tag).any fun x => (s.windowOf x).any fun z => z.2.1 == e) = true ∧
      keptAt s cmd w e = true ∧
      y.accepted = .blocked ∧
      s.travelA.reverse = true ∧
      (after (exec cmd s)).train.map (·.dest) = [none] :=
  ⟨{ withEye (outlet.setTravel .a { travelAt 5000 with reverse := true }) (fun x => { x with accepted := .blocked, candidate := some { change .clear with dist := 2 }, pinHigh := !x.pinHigh }) with train := [{ item with p := 4920 }], waiting := [{ eye := 0, tag := item.tag, widened := false }] },
    (0 : EyeIx),
    (!(feed.eye 0).pinHigh),
    ({ change .clear with dist := 2 } : Candidate),
    (Instr.eyeRawChange 0 (!(feed.eye 0).pinHigh)),
    { (({ withEye (outlet.setTravel .a { travelAt 5000 with reverse := true }) (fun x => { x with accepted := .blocked, candidate := some { change .clear with dist := 2 }, pinHigh := !x.pinHigh }) with train := [{ item with p := 4920 }], waiting := [{ eye := 0, tag := item.tag, widened := false }] }).eye 0) with pinHigh := (!(feed.eye 0).pinHigh), candidate := none },
    ({ eye := 0, tag := item.tag, widened := false } : Waiting),
    by decide +kernel⟩

theorem witness_FramesThatReachNoOwner_crc : ∃ (s : State) (bits : List Bool),
    s.attempting = false ∧
      (wordMsb 4 ((bits.drop 10).take 4)).toNat = 1 ∧
      wordMsb 16 ((bits.drop (14 + 8 * 1)).take 16) ≠ crc ((bits.drop 1).take (13 + 8 * 1)) :=
  ⟨feed, ((Frame.bits 20 (.withdraw 0)).set 23 true : List Bool), by decide +kernel⟩

theorem witness_FramesThatReachNoOwner_end : ∃ (s : State) (bits : List Bool),
    s.attempting = false ∧
      (wordMsb 4 ((bits.drop 10).take 4)).toNat = 1 ∧
      false ∈ bits.drop (30 + 8 * 1) :=
  ⟨feed, ((Frame.bits 20 (.withdraw 0)).set 41 false : List Bool), by decide +kernel⟩

theorem witness_FramesThatReachNoOwner_kind : ∃ (s : State) (bits : List Bool),
    s.attempting = false ∧
      (wordMsb 4 ((bits.drop 10).take 4)).toNat = 1 ∧
      payloadLength (wordMsb 4 ((bits.drop 1).take 4)) ≠ some 1 :=
  ⟨feed, ((Frame.bits 20 (.withdraw 0)).set 2 false : List Bool), by decide +kernel⟩

theorem witness_FramesThatReachNoOwner_config : ∃ (s : State),
    s.attempting = false ∧
      s.mode = .config :=
  ⟨State.reset, by decide +kernel⟩

theorem witness_FramesThatReachNoOwner_clash : ∃ (s : State) (sender : Addr),
    s.attempting = false ∧
      s.serving = true ∧
      s.address = some sender :=
  ⟨committed, (3 : Addr), by decide +kernel⟩

theorem witness_AttemptStartsAtIdle_busy : ∃ (s : State),
    s.attempting = false ∧
      s.busIdle = false :=
  ⟨(withQueue feed (TxFrame.new (.release releaseFrom) 5100)), by decide +kernel⟩

theorem witness_AttemptStartsAtIdle_idle : ∃ (s : State) (q : TxFrame) (rest : List TxFrame),
    s.attempting = false ∧
      s.busIdle = true ∧
      s.mode ≠ .conflict ∧
      (∀ g, s.voidDue g = false) ∧
      s.voidReached.queue = q :: rest :=
  ⟨{ withQueue feed (TxFrame.new (.release releaseFrom) 5100) with busIdle := true },
    (TxFrame.new (.release releaseFrom) 5100),
    ([] : List TxFrame),
    by decide +kernel⟩

theorem witness_AttemptStartsAtIdle_unannounced : ∃ (s : State) (q : TxFrame) (rest : List TxFrame),
    s.attempting = false ∧
      s.busIdle = true ∧
      s.mode ≠ .conflict ∧
      s.voidReached.queue = q :: rest ∧
      (s.voidReached.ownReservation 0).isNone = true :=
  ⟨{ withQueue feed (TxFrame.new (.reserve { gate := 0, lanes := 1, lead := 0, length := 0 }) 5100) with busIdle := true },
    (TxFrame.new (.reserve { gate := 0, lanes := 1, lead := 0, length := 0 }) 5100),
    ([] : List TxFrame),
    by decide +kernel⟩

theorem witness_AttemptStartsAtIdle_empty : ∃ (s : State),
    s.attempting = false ∧
      s.busIdle = true ∧
      s.mode ≠ .conflict ∧
      s.voidReached.queue = [] :=
  ⟨{ feed with busIdle := true }, by decide +kernel⟩

theorem witness_AttemptStartsAtIdle_void : ∃ (s : State) (g : GateIx),
    s.attempting = false ∧
      s.voidDue g = true :=
  ⟨{ feed with busIdle := true, reservations := [ownEntry 5000 .queued] }, (0 : GateIx), by decide +kernel⟩

theorem witness_FailedAttemptsAreCounted_void : ∃ (s : State) (q : TxFrame) (rest : List TxFrame),
    s.PinsFollow ∧
      s.queue = q :: rest ∧
      q.underWay = true ∧
      q.orphan = false ∧
      q.void = true :=
  ⟨(withQueue feed { sent (.reserve { gate := 0, lanes := 1, lead := 0, length := 0 }) with void := true }),
    ({ sent (.reserve { gate := 0, lanes := 1, lead := 0, length := 0 }) with void := true } : TxFrame),
    ([] : List TxFrame),
    by decide +kernel⟩

theorem witness_FailedAttemptsAreCounted_orphan : ∃ (s : State) (q : TxFrame) (rest : List TxFrame),
    s.PinsFollow ∧
      s.queue = q :: rest ∧
      q.underWay = true ∧
      q.orphan = true ∧
      isHold q = true :=
  ⟨(withQueue feed { sent (.hold true 1) with orphan := true }),
    ({ sent (.hold true 1) with orphan := true } : TxFrame),
    ([] : List TxFrame),
    by decide +kernel⟩

theorem witness_FailedAttemptsAreCounted_counted : ∃ (s : State) (q : TxFrame) (rest : List TxFrame),
    s.PinsFollow ∧
      s.queue = q :: rest ∧
      q.underWay = true ∧
      q.orphan = false ∧
      q.void = false ∧
      q.failed + 1 < 16 :=
  ⟨(withQueue feed { sent (.withdraw 0) with failed := 14 }),
    ({ sent (.withdraw 0) with failed := 14 } : TxFrame),
    ([] : List TxFrame),
    by decide +kernel⟩

theorem witness_FailedAttemptsAreCounted_abandoned : ∃ (s : State) (q : TxFrame) (rest : List TxFrame),
    s.PinsFollow ∧
      s.queue = q :: rest ∧
      q.underWay = true ∧
      q.orphan = false ∧
      q.void = false ∧
      16 ≤ q.failed + 1 :=
  ⟨(withQueue feed { sent (.withdraw 0) with failed := 15 }),
    ({ sent (.withdraw 0) with failed := 15 } : TxFrame),
    ([] : List TxFrame),
    by decide +kernel⟩

theorem witness_FailedAttemptsAreCounted_lotmark : ∃ (s : State) (q : TxFrame) (rest : List TxFrame),
    s.PinsFollow ∧
      s.queue = q :: rest ∧
      q.underWay = true ∧
      q.orphan = false ∧
      q.void = false ∧
      16 ≤ q.failed + 1 ∧
      (s.gate 0).mark = .queued { old := 9, new := 10, last := none } ∧
      q.frame = .lotmark (lotmarkFrom none) ∧
      rest.length < 16 ∧
      (rest.countP fun y => feedClass y.frame) < 12 ∧
      ((∀ k : GateIx, k < 0 → ((s.gate k).mark matches .waiting _) = false)) :=
  ⟨(withQueue (withGate feed fun x => { x with lot := some 10, lock := true, mark := .queued { old := 9, new := 10, last := none } }) { sent (.lotmark (lotmarkFrom none)) with failed := 15 }),
    ({ sent (.lotmark (lotmarkFrom none)) with failed := 15 } : TxFrame),
    ([] : List TxFrame),
    by decide +kernel⟩

theorem witness_FailedAttemptsAreCounted_reserve : ∃ (s : State) (q : TxFrame) (rest : List TxFrame),
    s.PinsFollow ∧
      s.queue = q :: rest ∧
      q.underWay = true ∧
      q.orphan = false ∧
      q.void = false ∧
      16 ≤ q.failed + 1 ∧
      ((s.ownReservation 0).any fun x => x.phase == .queued) = true ∧
      q.frame = .reserve { gate := 0, lanes := 1, lead := 100, length := 50 } :=
  ⟨(withQueue ({ feed with reservations := [ownEntry 5100 .queued] }) { sent (.reserve { gate := 0, lanes := 1, lead := 100, length := 50 }) with failed := 15 }),
    ({ sent (.reserve { gate := 0, lanes := 1, lead := 100, length := 50 }) with failed := 15 } : TxFrame),
    ([] : List TxFrame),
    by decide +kernel⟩

theorem witness_FailedAttemptsAreCounted_hold : ∃ (s : State) (q : TxFrame) (rest : List TxFrame),
    s.PinsFollow ∧
      s.queue = q :: rest ∧
      q.underWay = true ∧
      q.orphan = false ∧
      q.void = false ∧
      16 ≤ q.failed + 1 ∧
      q.frame = .hold true 1 :=
  ⟨(withQueue (feed) { sent (.hold true 1) with failed := 15 }),
    ({ sent (.hold true 1) with failed := 15 } : TxFrame),
    ([] : List TxFrame),
    by decide +kernel⟩

theorem witness_FailedAttemptsAreCounted_join : ∃ (s : State) (q : TxFrame) (rest : List TxFrame),
    s.PinsFollow ∧
      s.queue = q :: rest ∧
      q.underWay = true ∧
      q.orphan = false ∧
      q.void = false ∧
      16 ≤ q.failed + 1 ∧
      q.frame = .join 1 1 ∧
      s.mode = .joining :=
  ⟨(withQueue ({ feed with mode := .joining }) { sent (.join 1 1) with failed := 15 }),
    ({ sent (.join 1 1) with failed := 15 } : TxFrame),
    ([] : List TxFrame),
    by decide +kernel⟩

theorem witness_CompletedFrameIsHeard_silent : ∃ (s : State) (q : TxFrame) (rest : List TxFrame),
    s.PinsFollow ∧
      s.queue = q :: rest ∧
      q.underWay = true ∧
      s.mode ≠ .config :=
  ⟨(withQueue (feed) (sent (.withdraw 0))),
    (sent (.withdraw 0) : TxFrame),
    ([] : List TxFrame),
    by decide +kernel⟩

theorem witness_CompletedFrameIsHeard_orphan : ∃ (s : State) (q : TxFrame) (rest : List TxFrame),
    s.PinsFollow ∧
      s.queue = q :: rest ∧
      q.underWay = true ∧
      q.orphan = true ∧
      s.mode = .config :=
  ⟨(withQueue (State.reset) ({ sent (.withdraw 0) with orphan := true })),
    ({ sent (.withdraw 0) with orphan := true } : TxFrame),
    ([] : List TxFrame),
    by decide +kernel⟩

theorem witness_CompletedFrameIsHeard_lotmark : ∃ (s : State) (q : TxFrame) (rest : List TxFrame),
    s.PinsFollow ∧
      s.queue = q :: rest ∧
      q.underWay = true ∧
      q.orphan = false ∧
      s.mode ≠ .config ∧
      q.frame = .lotmark (lotmarkFrom none) ∧
      (s.gate 0).mark = .queued { old := 9, new := 10, last := none } ∧
      (s.gate 0).lot = some 10 :=
  ⟨(withQueue (withGate feed fun x => { x with lot := some 10, lock := true, mark := .queued { old := 9, new := 10, last := none } }) (sent (.lotmark (lotmarkFrom none)))),
    (sent (.lotmark (lotmarkFrom none)) : TxFrame),
    ([] : List TxFrame),
    by decide +kernel⟩

theorem witness_CompletedFrameIsHeard_reserve : ∃ (s : State) (q : TxFrame) (rest : List TxFrame) (x : Reservation),
    s.PinsFollow ∧
      s.queue = q :: rest ∧
      q.underWay = true ∧
      q.orphan = false ∧
      q.frame = .reserve { gate := 0, lanes := 1, lead := 100, length := 50 } ∧
      s.role = some .feed ∧
      s.mode ≠ .config ∧
      s.ownReservation 0 = some x ∧
      x.phase = .queued ∧
      s.segmentHitsEntry x.lanes x.start x.stop (fun y => !y.isOwn 0) = false ∧
      s.segmentHitsRecord x.lanes x.start x.stop = false ∧
      atOrPast (s.pos .a) (s.alignment 0 x) = false :=
  ⟨(withQueue ({ feed with reservations := [ownEntry 5100 .queued] }) (sent (.reserve { gate := 0, lanes := 1, lead := 100, length := 50 }))),
    (sent (.reserve { gate := 0, lanes := 1, lead := 100, length := 50 }) : TxFrame),
    ([] : List TxFrame),
    (ownEntry 5100 .queued),
    by decide +kernel⟩

theorem witness_CompletedFrameIsHeard_lost :
    ∃ (s : State) (q : TxFrame) (rest : List TxFrame) (tag : Tag) (cause : Byte),
    s.PinsFollow ∧
      s.queue = q :: rest ∧
      q.underWay = true ∧
      q.orphan = false ∧
      s.mode ≠ .config ∧
      q.frame = .lost tag cause ∧
      s.live = true ∧
      s.TrainSound ∧
      ((s.findRecord tag).any fun r => r.stage == .pending) = true :=
  ⟨(withQueue (withItem feed item) (sent (.lost item.tag 1))),
    (sent (.lost item.tag 1) : TxFrame),
    ([] : List TxFrame),
    item.tag,
    (1 : Byte),
    by decide +kernel⟩

theorem witness_CompletedFrameIsHeard_mark :
    ∃ (s : State) (q : TxFrame) (rest : List TxFrame) (tag : Tag) (mark : Byte),
    s.PinsFollow ∧
      s.queue = q :: rest ∧
      q.underWay = true ∧
      q.orphan = false ∧
      s.mode ≠ .config ∧
      q.frame = .mark tag mark ∧
      (after (exec .txComplete s)).train.map (·.flags.reject) = [true] :=
  ⟨(withQueue (withItem feed item) (sent (.mark item.tag 1))),
    (sent (.mark item.tag 1) : TxFrame),
    ([] : List TxFrame),
    item.tag,
    (1 : Byte),
    by decide +kernel⟩

theorem witness_CompletedFrameIsHeard_ownSource :
    ∃ (s : State) (q : TxFrame) (rest : List TxFrame) (a : Addr) (k : Fin 16) (e : LotEntry),
    s.PinsFollow ∧
      s.queue = q :: rest ∧
      q.underWay = true ∧
      q.orphan = false ∧
      s.mode ≠ .config ∧
      q.frame = .lotmark (lotmarkFrom none) ∧
      s.serving = true ∧
      s.LotsSound ∧
      s.address = some a ∧
      s.lotSlotOf 9 = some k ∧
      s.lotSlot k = some e ∧
      (after (exec .txComplete s)).closureList = [k] :=
  ⟨(withQueue (withLot feed (lotEntry [{ source with origin := 3 }] 0)) (sent (.lotmark (lotmarkFrom none)))),
    (sent (.lotmark (lotmarkFrom none)) : TxFrame),
    ([] : List TxFrame),
    (3 : Addr),
    (0 : Fin 16),
    (lotEntry [{ source with origin := 3 }] 0),
    by decide +kernel⟩

theorem witness_CompletedFrameIsHeard_unmatched :
    ∃ (s : State) (q : TxFrame) (rest : List TxFrame) (f : ReserveFrame),
    s.PinsFollow ∧
      s.queue = q :: rest ∧
      q.underWay = true ∧
      q.orphan = false ∧
      s.mode ≠ .config ∧
      q.frame = .reserve f ∧
      s.role = some .feed ∧
      ((s.ownReservation 0).all fun y => y.phase != .queued) = true ∧
      (after (exec .txComplete s)).queue.map (·.frame) = [.withdraw 0] :=
  ⟨(withQueue (feed) (sent (.reserve { gate := 0, lanes := 1, lead := 100, length := 50 }))),
    (sent (.reserve { gate := 0, lanes := 1, lead := 100, length := 50 }) : TxFrame),
    ([] : List TxFrame),
    { gate := 0, lanes := 1, lead := 100, length := 50 },
    by decide +kernel⟩

theorem witness_CompletedFrameIsHeard_overlapped :
    ∃ (s : State) (q : TxFrame) (rest : List TxFrame) (f : ReserveFrame) (x : Reservation),
    s.PinsFollow ∧
      s.queue = q :: rest ∧
      q.underWay = true ∧
      q.orphan = false ∧
      s.mode ≠ .config ∧
      q.frame = .reserve f ∧
      s.role = some .feed ∧
      s.ownReservation 0 = some x ∧
      x.phase = .queued ∧
      s.segmentHitsEntry x.lanes x.start x.stop (fun y => !y.isOwn 0) = true ∧
      (after (exec .txComplete s)).queue.map (·.frame) = [.withdraw 0] :=
  ⟨(withQueue ({ feed with reservations := [ownEntry 5100 .queued, peerEntry 5120] }) (sent (.reserve { gate := 0, lanes := 1, lead := 100, length := 50 }))),
    (sent (.reserve { gate := 0, lanes := 1, lead := 100, length := 50 }) : TxFrame),
    ([] : List TxFrame),
    { gate := 0, lanes := 1, lead := 100, length := 50 },
    (ownEntry 5100 .queued),
    by decide +kernel⟩

theorem witness_CompletedFrameIsHeard_join : ∃ (s : State) (q : TxFrame) (rest : List TxFrame),
    s.PinsFollow ∧
      s.queue = q :: rest ∧
      q.underWay = true ∧
      q.orphan = false ∧
      s.mode = .joining ∧
      q.frame = .join 1 1 ∧
      s.settling.isSome = true :=
  ⟨(withQueue ({ feed with mode := .joining, settling := some { expired := true, heard := false } }) (sent (.join 1 1))),
    (sent (.join 1 1) : TxFrame),
    ([] : List TxFrame),
    by decide +kernel⟩

theorem witness_CompletedFrameIsHeard_joining : ∃ (s : State) (q : TxFrame) (rest : List TxFrame),
    s.PinsFollow ∧
      s.queue = q :: rest ∧
      q.underWay = true ∧
      q.orphan = false ∧
      s.mode = .joining ∧
      q.frame = .join 1 1 ∧
      s.settling.isSome = true :=
  ⟨(withQueue ({ feed with mode := .joining, settling := some { expired := false, heard := false } }) (sent (.join 1 1))),
    (sent (.join 1 1) : TxFrame),
    ([] : List TxFrame),
    by decide +kernel⟩

theorem witness_WaitingFramesAreQueued_mark : ∃ (s : State) (g : GateIx) (m : LotMark),
    s.PinsFollow ∧
      s.GatesSound ∧
      s.markDue g = true ∧
      (s.gate g).mark = .waiting m :=
  ⟨(withGate feed fun x => { x with lot := some 10, lock := true, mark := .waiting { old := 9, new := 10, last := none } }),
    (0 : GateIx),
    { old := 9, new := 10, last := none },
    by decide +kernel⟩

theorem witness_WaitingFramesAreQueued_withdraw : ∃ (s : State) (g : GateIx),
    s.PinsFollow ∧
      s.GatesSound ∧
      s.withdrawDue g = true ∧
      (s.ownReservation g = none ∨ s.feedCount < 11) :=
  ⟨(withGate feed fun x => { x with withdrawPending := true }), (0 : GateIx), by decide +kernel⟩

theorem witness_WaitingFramesAreQueued_hold : ∃ (s : State),
    s.PinsFollow ∧
      s.GatesSound ∧
      s.holdDue = true :=
  ⟨{ feed with lineHold := true }, by decide +kernel⟩

theorem witness_GateCommitsItem : ∃ (s : State) (g : GateIx) (cls : Cls),
    s.canCommit g = true ∧
      s.lowerGateFirst g = false ∧
      (s.gate g).cls = some cls ∧
      s.PinsFollow ∧
      s.LotsSound ∧
      s.findRecord s.allocate.1 = none :=
  ⟨(withGate feed loaded), (0 : GateIx), (1 : Cls), by decide +kernel⟩

theorem witness_SpacerCommits_commit : ∃ (s : State) (g : GateIx),
    s.canSpacer g = true ∧
      s.lowerGateFirst g = false ∧
      s.findRecord s.allocate.1 = none ∧
      s.PinsFollow :=
  ⟨(withGate feed fun x => { x with gapRequest := true }), (0 : GateIx), by decide +kernel⟩

theorem witness_SpacerCommits_begun : ∃ (s : State) (g : GateIx),
    s.spacerBeginDue g = true :=
  ⟨(withGate feed fun x => { releasing x with cls := none, release := some (releaseOf { origin := 3, serial := 0 } true) }),
    (0 : GateIx),
    by decide +kernel⟩

theorem witness_ReleaseEndsInOrder : ∃ (s : State) (g : GateIx) (r : Release),
    s.releaseEndDue g = true ∧
      (s.gate g).release = some r :=
  ⟨(withGate feed fun x => { releasing x with holdPending := true, lotPending := some 8 }),
    (0 : GateIx),
    (releaseOf { origin := 3, serial := 0 } false),
    by decide +kernel⟩

theorem witness_PatienceReservesSpace_reached : ∃ (s : State) (g : GateIx),
    s.PinsFollow ∧
      (s.gate g).state = .ready ∧
      (s.gate g).set.patience ≠ 0 ∧
      (s.gate g).set.patience ≤ (s.gate g).patienceCount ∧
      s.canReserve g = true ∧
      s.lowerGateFirst g = false ∧
      s.feedCount < 11 :=
  ⟨(withGate feed fun x => { loaded x with patienceCount := 100 }), (0 : GateIx), by decide +kernel⟩

theorem witness_PatienceReservesSpace_full : ∃ (s : State) (g : GateIx),
    s.PinsFollow ∧
      s.canReserve g = true ∧
      s.lowerGateFirst g = false ∧
      s.feedCount = 11 ∧
      ((s.ownReservation 1).any fun x => x.phase == .standing) = true :=
  ⟨{ withGate feed fun x => { loaded x with patienceCount := 100 } with queue := List.replicate 11 (TxFrame.new (.withdraw 3) 0), reservations := [{ ownEntry 9000 .standing with gate := 1 }] },
    (0 : GateIx),
    by decide +kernel⟩

theorem witness_ReservationsEnd_void : ∃ (s : State) (g : GateIx),
    s.PinsFollow ∧
      s.voidDue g = true :=
  ⟨{ feed with reservations := [ownEntry 5000 .queued] }, (0 : GateIx), by decide +kernel⟩

theorem witness_ReservationsEnd_missed : ∃ (s : State) (g : GateIx),
    s.PinsFollow ∧
      s.alignmentMissed g = true :=
  ⟨{ feed with reservations := [ownEntry 5050 .standing] }, (0 : GateIx), by decide +kernel⟩

theorem witness_ReservationsEnd_peer : ∃ (s : State) (g : GateIx) (a : Addr) (x : Reservation),
    s.PinsFollow ∧
      s.expired a g = some x ∧
      x.own = false :=
  ⟨{ feed with reservations := [peerEntry 4950] },
    (0 : GateIx),
    (20 : Addr),
    (peerEntry 4950),
    by decide +kernel⟩

theorem witness_ReservationsEnd_own : ∃ (s : State) (g : GateIx) (a : Addr) (x : Reservation),
    s.PinsFollow ∧
      s.expired a g = some x ∧
      x.own = true :=
  ⟨{ feed with reservations := [ownEntry 4950 .standing] },
    (0 : GateIx),
    (3 : Addr),
    (ownEntry 4950 .standing),
    by decide +kernel⟩

theorem witness_StopSettlesReleases_outside : ∃ (s : State),
    s.mode ≠ .running :=
  ⟨{ feed with mode := .joining }, by decide +kernel⟩

theorem witness_StopSettlesReleases_cancelled :
    ∃ (s : State) (g : GateIx) (r : Release) (ch : ChannelIx) (started : Bool),
    s.mode = .running ∧
      ((∀ k : GateIx, k ≠ g → (s.gate k).state ≠ .releasing)) ∧
      (s.gate g).state = .releasing ∧
      (s.gate g).release = some r ∧
      s.TrainSound ∧
      s.LotsSound ∧
      r.spacer = false ∧
      (s.gate g).set.channel = some ch ∧
      (s.abort ch r.tag).2 = .aborted started ∧
      s.faults.length < 8 ∧
      s.queue.length < 16 :=
  ⟨committed,
    (0 : GateIx),
    { commit := 5000, stop := 5050, tag := { origin := 3, serial := 0 }, spacer := false, begun := false, prevRejectNext := false, prevLast := none },
    (0 : ChannelIx),
    false,
    by decide +kernel⟩

theorem witness_StopSettlesReleases_begun :
    ∃ (s : State) (g : GateIx) (r : Release) (ch : ChannelIx) (started : Bool),
    s.mode = .running ∧
      ((∀ k : GateIx, k ≠ g → (s.gate k).state ≠ .releasing)) ∧
      (s.gate g).state = .releasing ∧
      (s.gate g).release = some r ∧
      s.TrainSound ∧
      s.LotsSound ∧
      r.spacer = false ∧
      (s.gate g).set.channel = some ch ∧
      (s.abort ch r.tag).2 = .aborted started ∧
      s.faults.length < 8 ∧
      s.queue.length < 16 :=
  ⟨begun,
    (0 : GateIx),
    { commit := 5000, stop := 5050, tag := { origin := 3, serial := 0 }, spacer := false, begun := false, prevRejectNext := false, prevLast := none },
    (0 : ChannelIx),
    true,
    by decide +kernel⟩

theorem witness_StopSettlesReleases_rest_feed : ∃ (s : State),
    s.mode = .running ∧
      s.GatesSound ∧
      (∀ k : GateIx, (s.gate k).state ≠ .releasing) :=
  ⟨feed, by decide +kernel⟩

theorem witness_StopSettlesReleases_rest_ironer : ∃ (s : State),
    s.mode = .running ∧
      s.GatesSound ∧
      (∀ k : GateIx, (s.gate k).state ≠ .releasing) :=
  ⟨ironer, by decide +kernel⟩

theorem witness_StopSettlesReleases_rest_outlet : ∃ (s : State),
    s.mode = .running ∧
      s.GatesSound ∧
      (∀ k : GateIx, (s.gate k).state ≠ .releasing) :=
  ⟨outlet, by decide +kernel⟩

theorem witness_StopSettlesReleases_standing : ∃ (s : State) (g : GateIx),
    s.mode = .running ∧
      (∀ k : GateIx, (s.gate k).state ≠ .releasing) ∧
      ((s.ownReservation g).any fun x => x.phase == .standing) = true :=
  ⟨{ feed with reservations := [ownEntry 5200 .standing] }, (0 : GateIx), by decide +kernel⟩

theorem witness_StopSettlesReleases_releasing : ∃ (s : State) (g : GateIx),
    s.mode = .running ∧
      s.GatesSound ∧
      (s.gate g).state = .releasing :=
  ⟨committed, (0 : GateIx), by decide +kernel⟩

theorem witness_StopSettlesReleases_gone : ∃ (s : State) (g : GateIx) (r : Release) (ch : ChannelIx),
    s.mode = .running ∧
      ((∀ k : GateIx, k ≠ g → (s.gate k).state ≠ .releasing)) ∧
      (s.gate g).state = .releasing ∧
      (s.gate g).release = some r ∧
      s.TrainSound ∧
      s.LotsSound ∧
      r.spacer = false ∧
      (s.gate g).set.channel = some ch ∧
      (s.abort ch r.tag).2 = .gone :=
  ⟨{ committed with channels := State.reset.channels },
    (0 : GateIx),
    { commit := 5000, stop := 5050, tag := { origin := 3, serial := 0 }, spacer := false, begun := false, prevRejectNext := false, prevLast := none },
    (0 : ChannelIx),
    by decide +kernel⟩

theorem witness_StopSettlesReleases_spacer_begun : ∃ (s : State) (g : GateIx) (r : Release),
    s.mode = .running ∧
      ((∀ k : GateIx, k ≠ g → (s.gate k).state ≠ .releasing)) ∧
      (s.gate g).state = .releasing ∧
      (s.gate g).release = some r ∧
      s.TrainSound ∧
      s.LotsSound ∧
      r.spacer = true ∧
      (r.begun || atOrPast (s.pos .a) (Pos.plus r.commit (s.gate g).set.wait)) = true :=
  ⟨(withGate feed fun x => { releasing x with cls := none, gapRequest := true, release := some { releaseOf { origin := 3, serial := 0 } true with commit := 4950 } }),
    (0 : GateIx),
    ({ releaseOf { origin := 3, serial := 0 } true with commit := 4950 } : Release),
    by decide +kernel⟩

theorem witness_StopSettlesReleases_spacer_ahead : ∃ (s : State) (g : GateIx) (r : Release),
    s.mode = .running ∧
      ((∀ k : GateIx, k ≠ g → (s.gate k).state ≠ .releasing)) ∧
      (s.gate g).state = .releasing ∧
      (s.gate g).release = some r ∧
      s.TrainSound ∧
      s.LotsSound ∧
      r.spacer = true ∧
      (r.begun || atOrPast (s.pos .a) (Pos.plus r.commit (s.gate g).set.wait)) = false :=
  ⟨(withGate feed fun x => { releasing x with cls := none, gapRequest := true, release := some { releaseOf { origin := 3, serial := 0 } true with commit := 5000 } }),
    (0 : GateIx),
    ({ releaseOf { origin := 3, serial := 0 } true with commit := 5000 } : Release),
    by decide +kernel⟩

theorem witness_StopReleaseAndSettleTimer_running : ∃ (s : State),
    s.PinsFollow ∧
      s.mode ≠ .stopped ∧
      s.mode ≠ .joining :=
  ⟨feed, by decide +kernel⟩

theorem witness_StopReleaseAndSettleTimer_stopped : ∃ (s : State),
    s.PinsFollow ∧
      s.mode = .stopped ∧
      ((∀ e, s.eyeRuns e = false ∨ (s.eye e).acceptDue = false)) ∧
      s.nextDue = none :=
  ⟨{ withItem feed item with mode := .stopped, stopPin := true }, by decide +kernel⟩

theorem witness_StopReleaseAndSettleTimer_noted : ∃ (s : State) (x : Settling),
    s.PinsFollow ∧
      s.mode = .joining ∧
      s.settling = some x ∧
      ({ expired := false, heard := false } : Settling).expired = false :=
  ⟨{ feed with mode := .joining, settling := some { expired := false, heard := false } },
    { expired := false, heard := false },
    by decide +kernel⟩

theorem witness_StopReleaseAndSettleTimer_ends : ∃ (s : State) (x : Settling),
    s.PinsFollow ∧
      s.mode = .joining ∧
      s.settling = some x ∧
      ({ expired := false, heard := true } : Settling).expired = false :=
  ⟨{ feed with mode := .joining, settling := some { expired := false, heard := true } },
    { expired := false, heard := true },
    by decide +kernel⟩

theorem witness_JoinValidatesAndLoads_state : ∃ (s : State),
    s.PinsFollow ∧
      s.mode ≠ .config :=
  ⟨feed, by decide +kernel⟩

theorem witness_JoinValidatesAndLoads_refused : ∃ (s : State) (item : ItemId),
    s.PinsFollow ∧
      s.mode = .config ∧
      s.store.validate = some item :=
  ⟨State.reset, ⟨1, 0, 2⟩, by decide +kernel⟩

theorem witness_JoinValidatesAndLoads_loaded : ∃ (s : State),
    s.PinsFollow ∧
      s.mode = .config ∧
      s.store.validate = none ∧
      s.announced = false ∧
      s.queue.length < 15 :=
  ⟨{ State.reset with store := goodStore }, by decide +kernel⟩

theorem witness_JoinValidatesAndLoads_holding : ∃ (s : State),
    s.PinsFollow ∧
      s.mode = .config ∧
      s.store.validate = none ∧
      s.announced = false ∧
      s.queue.length < 15 :=
  ⟨{ State.reset with store := goodStore, lineHold := true }, by decide +kernel⟩

theorem witness_DescriptorIsValidated :
    goodStore.validate = none ∧ State.reset.store.validate = some ⟨1, 0, 2⟩ ∧ ItemId.slot ⟨1, 0, 2⟩ = some 1 := by
  decide +kernel

theorem witness_LeaveResets :
    State.reset.mode = .config ∧ { committed with announced := true }.mode ≠ .config ∧
      (∀ q ∈ { committed with announced := true }.queue.tail, q.underWay = false) := by
  decide +kernel

theorem witness_LoadUnloadAndLotChange_empty : ∃ (s : State) (g : Byte) (cls : Byte) (lot : Byte) (i : GateIx),
    s.PinsFollow ∧
      s.serving = true ∧
      s.namedGate g = some i ∧
      (s.gate i).state = .empty ∧
      (s.gate i).lock = false ∧
      (s.gate i).lot ≠ some 8 ∧
      (s.gate i).lot = some 7 ∧
      cls.toNat ≤ 14 ∧
      lot ≠ 255 :=
  ⟨feed, (0 : Byte), (3 : Byte), (8 : Byte), (0 : GateIx), by decide +kernel⟩

theorem witness_LoadUnloadAndLotChange_class : ∃ (s : State) (g : Byte) (cls : Byte) (lot : Byte) (i : GateIx),
    s.PinsFollow ∧
      s.serving = true ∧
      s.namedGate g = some i ∧
      14 < cls.toNat ∧
      lot = 255 :=
  ⟨feed, (0 : Byte), (15 : Byte), (255 : Byte), (0 : GateIx), by decide +kernel⟩

theorem witness_LoadUnloadAndLotChange_same : ∃ (s : State) (g : Byte) (lot : Byte) (i : GateIx),
    s.PinsFollow ∧
      s.serving = true ∧
      s.namedGate g = some i ∧
      (s.gate i).lot = some lot ∧
      lot ≠ 255 :=
  ⟨feed, (0 : Byte), (7 : Byte), (0 : GateIx), by decide +kernel⟩

theorem witness_LoadUnloadAndLotChange_locked : ∃ (s : State) (g : Byte) (i : GateIx),
    s.PinsFollow ∧
      s.serving = true ∧
      s.namedGate g = some i ∧
      (s.gate i).state = .empty ∧
      (s.gate i).lock = true ∧
      (s.gate i).lot ≠ some 8 :=
  ⟨(withGate feed fun x => { x with lock := true }), (0 : Byte), (0 : GateIx), by decide +kernel⟩

theorem witness_LoadUnloadAndLotChange_ready : ∃ (s : State) (g : Byte) (i : GateIx),
    s.PinsFollow ∧
      s.serving = true ∧
      s.namedGate g = some i ∧
      (s.gate i).state = .ready ∧
      (s.gate i).lot ≠ some 8 :=
  ⟨(withGate feed fun x => { loaded x with lotPending := some 8 }), (0 : Byte), (0 : GateIx), by decide +kernel⟩

theorem witness_LoadUnloadAndLotChange_releasing : ∃ (s : State) (g : Byte) (i : GateIx),
    s.PinsFollow ∧
      s.serving = true ∧
      s.namedGate g = some i ∧
      (s.gate i).state = .releasing ∧
      (s.gate i).lot ≠ some 8 :=
  ⟨(withGate feed releasing), (0 : Byte), (0 : GateIx), by decide +kernel⟩

theorem witness_GateCommandsSetFlags_config : ∃ (s : State),
    s.PinsFollow ∧
      s.serving = false :=
  ⟨State.reset, by decide +kernel⟩

theorem witness_GateCommandsSetFlags_unnamed : ∃ (s : State) (g : Byte),
    s.PinsFollow ∧
      s.serving = true ∧
      s.namedGate g = none :=
  ⟨feed, (1 : Byte), by decide +kernel⟩

theorem witness_GateCommandsSetFlags_ready : ∃ (s : State) (g : Byte) (i : GateIx),
    s.PinsFollow ∧
      s.serving = true ∧
      s.namedGate g = some i ∧
      (s.gate i).state ≠ .releasing :=
  ⟨(withGate feed loaded), (0 : Byte), (0 : GateIx), by decide +kernel⟩

theorem witness_GateCommandsSetFlags_releasing : ∃ (s : State) (g : Byte) (i : GateIx),
    s.PinsFollow ∧
      s.serving = true ∧
      s.namedGate g = some i ∧
      (s.gate i).state = .releasing :=
  ⟨(withGate feed releasing), (0 : Byte), (0 : GateIx), by decide +kernel⟩

theorem witness_WrapAckClearsTheAlarm : ∃ (s : State),
    s.PinsFollow ∧
      s.wrapAlarm = false :=
  ⟨feed, by decide +kernel⟩

theorem witness_HoldsRejectsMaskAndFaults : ∃ (s : State),
    s.PinsFollow ∧
      s.serving = true ∧
      s.faults = [] :=
  ⟨feed, by decide +kernel⟩

theorem witness_HoldsRejectsMaskAndFaults_fault : ∃ (s : State) (f : FaultRecord),
    s.PinsFollow ∧
      s.serving = false ∧
      s.faults = [f] :=
  ⟨{ State.reset with faults := [{ kind := .jam, position := 5000, input := .a }] },
    { kind := .jam, position := 5000, input := .a },
    by decide +kernel⟩

theorem witness_ReadsReportTheState : ∃ (s : State),
    s.PinsFollow ∧
      (47 : Byte).toNat ≤ 47 ∧
      s.train.length ≤ (47 : Byte).toNat ∧
      (0 : Byte).toNat < s.train.length ∧
      (s.findRecord item.tag).isSome = true ∧
      s.lotSlot 15 = none ∧
      s.firstNotice = some 0 :=
  ⟨{ withItem (withLot feed { lotEntry [] 0 with noticeUnread := true }) item with closureList := [0] },
    by decide +kernel⟩

theorem witness_ReadsReportTheState_none : ∃ (s : State),
    s.PinsFollow ∧
      47 < (48 : Byte).toNat ∧
      15 < (16 : Byte).toNat ∧
      s.firstNotice = none ∧
      (s.findRecord item.tag).isNone = true :=
  ⟨feed, by decide +kernel⟩

theorem witness_DescriptorAndBrokenTransactions :
    feed.mode ≠ .config ∧ State.reset.mode = .config ∧ ItemId.slot ⟨13, 0, 1⟩ = none ∧ ItemId.slot ⟨1, 0, 1⟩ = some 0 ∧
      ItemId.slot ⟨12, 7, 2⟩ = some 263 ∧ commandParams 0x05 = none := by
  decide +kernel

end Sys2Proof.Tests
end

section
/-! PROOFS. Position arithmetic of R7: signed differences add up modulo 2^24, and never grow by more than the move. -/

namespace Sys2Proof.Machine

/-- The signed representative of a difference modulo 2^24. -/
def wrap24 (z : Int) : Int := z.bmod 16777216

theorem wrap24_spec (z : Int) :
    (∃ k : Int, wrap24 z = z + 16777216 * k) ∧ -8388608 ≤ wrap24 z ∧ wrap24 z ≤ 8388607 := by
  have hk : ∃ k : Int, wrap24 z = z + 16777216 * k := by
    refine ⟨-z.bdiv 16777216, ?_⟩
    have := Int.bmod_eq_self_sub_mul_bdiv z 16777216
    unfold wrap24
    omega
  have hl := Int.le_bmod (x := z) (m := 16777216) (by decide)
  have hu := Int.bmod_lt (x := z) (m := 16777216) (by decide)
  exact ⟨hk, hl, by unfold wrap24; omega⟩

theorem wrap24_natAbs_le (z : Int) : (wrap24 z).natAbs ≤ z.natAbs := by
  obtain ⟨⟨k, hk⟩, hl, hu⟩ := wrap24_spec z
  omega

theorem diff_eq_wrap24 (a b : Pos) : diff a b = wrap24 ((a.toNat : Int) - b.toNat) := by
  unfold diff
  rw [BitVec.toInt_sub, BitVec.toInt_eq_toNat_bmod, BitVec.toInt_eq_toNat_bmod]
  simp [wrap24, Int.bmod_sub_bmod, Int.sub_bmod_bmod]

theorem diff_plus (a b : Pos) (d : Int) : diff (Pos.plus a d) b = wrap24 (diff a b + d) := by
  have h : a + BitVec.ofInt 24 d - b = (a - b) + BitVec.ofInt 24 d := by
    rw [BitVec.sub_eq_add_neg, BitVec.sub_eq_add_neg, BitVec.add_assoc, BitVec.add_comm (BitVec.ofInt 24 d),
      BitVec.add_assoc]
  unfold diff Pos.plus
  rw [h, BitVec.toInt_add, BitVec.toInt_ofInt]
  simp [wrap24]

theorem diff_add_diff (a b c : Pos) : diff a c = wrap24 (diff a b + diff b c) := by
  have h : a - c = (a - b) + (b - c) := by
    simp only [BitVec.sub_eq_add_neg, BitVec.add_assoc]
    rw [← BitVec.add_assoc (-b), BitVec.add_comm (-b), BitVec.add_right_neg, BitVec.zero_add]
  unfold diff wrap24
  rw [h, BitVec.toInt_add]

theorem diff_natAbs_plus (a b : Pos) (d : Int) : (diff (Pos.plus a d) b).natAbs ≤ (diff a b).natAbs + d.natAbs := by
  have := wrap24_natAbs_le (diff a b + d)
  rw [diff_plus]
  omega

theorem diff_natAbs_trans (a b c : Pos) : (diff a c).natAbs ≤ (diff a b).natAbs + (diff b c).natAbs := by
  have := wrap24_natAbs_le (diff a b + diff b c)
  rw [diff_add_diff a b c]
  omega

@[simp] theorem diff_self (a : Pos) : diff a a = 0 := by simp [diff]

theorem diff_range (a b : Pos) : -8388608 ≤ diff a b ∧ diff a b ≤ 8388607 := by
  rw [diff_eq_wrap24]
  exact (wrap24_spec _).2

theorem diff_eq_zero_iff (a b : Pos) : diff a b = 0 ↔ a = b := by
  constructor
  · intro h
    have ha := a.isLt
    have hb := b.isLt
    obtain ⟨⟨k, hk⟩, -⟩ := wrap24_spec ((a.toNat : Int) - b.toNat)
    rw [diff_eq_wrap24] at h
    exact BitVec.eq_of_toNat_eq (by omega)
  · rintro rfl
    exact diff_self a

theorem diff_swap {a b : Pos} (h : diff a b ≠ -8388608) : diff b a = - diff a b := by
  have hr := diff_range a b
  have hs := diff_range b a
  obtain ⟨⟨k, hk⟩, -⟩ := wrap24_spec (diff b a + diff a b)
  rw [← diff_add_diff, diff_self] at hk
  omega

theorem plus_plus_neg (a : Pos) (d : Int) : Pos.plus (Pos.plus a d) (-d) = a := by
  rw [← diff_eq_zero_iff, diff_plus, diff_plus, diff_self, zero_add]
  obtain ⟨⟨k, hk⟩, -⟩ := wrap24_spec d
  obtain ⟨⟨m, hm⟩, hl, hu⟩ := wrap24_spec (wrap24 d + -d)
  omega

theorem plus_toNat (a : Pos) (d : Int) : ((Pos.plus a d).toNat : Int) = ((a.toNat : Int) + d) % 16777216 := by
  unfold Pos.plus
  rw [BitVec.toNat_add, BitVec.toNat_ofInt]
  omega

end Sys2Proof.Machine
end

section
/-! PROOFS. One walk over the operations of the tracker. `KeptByLots`, `Kept` and `KeptThroughout` name the elementary
changes of the state, with what is known where each is made; a predicate that every elementary change keeps is kept by every
operation, one lemma per operation. The invariants and the frame of the settings are then a few small goals each. -/

namespace Sys2Proof.Machine

/-! ### What the elementary changes know -/

/-- The bounds of R161 on one lot entry. -/
abbrev LotEntry.Bounded (e : LotEntry) : Prop :=
  e.sources.length ≤ Config.sourceCapacity ∧ e.departed ≤ Config.lotCountLimit ∧ e.rejects ≤ Config.lotCountLimit

/-- Input, mode and owner of a channel, which only a JOIN sets (R33). -/
abbrev Channel.SameBinding (x y : Channel) : Prop := x.input = y.input ∧ x.mode = y.mode ∧ x.owner = y.owner

/-- A predicate that survives what the lot and outlet units do to channels, destinations, lots and faults. -/
structure KeptByLots (P : State → Prop) : Prop where
  channel : ∀ {s : State} (c : ChannelIx) (x : Channel), P s → x.SameBinding (s.channel c) → P (s.setChannel c x)
  dest : ∀ {s : State} (d : DestIx) (x : Dest), P s → x.set = (s.dest d).set → P (s.setDest d x)
  lot : ∀ {s : State} (k : Fin 16) (x : Option LotEntry), P s →
    (∀ e ∈ x, (∀ y ∈ s.lotSlot k, y.Bounded) → e.Bounded) → P (s.setLotSlot k x)
  closures : ∀ {s t : State}, P s → t = { s with closureList := t.closureList } → P t
  fault : ∀ {s : State} (f : FaultRecord), P s → P (s.recordFault f)

/-! ### Channels -/

theorem placeNext_binding (c : Channel) (late : Bool) (s e : Pos) (ref : Option Tag) :
    (c.placeNext late s e ref).1.SameBinding c := by
  unfold Channel.placeNext; split <;> exact ⟨rfl, rfl, rfl⟩

theorem placeTouching_binding (c : Channel) (a : Pulse) (late : Bool) (s e : Pos) (ref : Option Tag) :
    (c.placeTouching a late s e ref).1.SameBinding c := by
  unfold Channel.placeTouching
  split
  · simp only
    split
    · split <;> exact ⟨rfl, rfl, rfl⟩
    · exact ⟨rfl, rfl, rfl⟩
  · exact placeNext_binding ..

theorem placeAfter_binding (c : Channel) (late : Bool) (s e : Pos) (ref : Option Tag) :
    (c.placeAfter late s e ref).1.SameBinding c := by
  unfold Channel.placeAfter
  split
  · split <;> exact ⟨rfl, rfl, rfl⟩
  · exact placeNext_binding ..

theorem place_binding (c : Channel) (late : Bool) (s e : Pos) (ref : Option Tag) :
    (c.place late s e ref).1.SameBinding c := by
  unfold Channel.place
  split
  · exact ⟨rfl, rfl, rfl⟩
  · split
    · exact placeTouching_binding ..
    · split
      · split <;> exact ⟨rfl, rfl, rfl⟩
      · exact placeAfter_binding ..

theorem request_binding (c : Channel) (t s e : Pos) (ref : Option Tag) : (c.request t s e ref).1.SameBinding c := by
  unfold Channel.request
  split
  · exact ⟨rfl, rfl, rfl⟩
  · split
    · exact ⟨rfl, rfl, rfl⟩
    · split <;> exact place_binding ..

theorem extend_binding (c : Channel) (tag : Tag) (y : Pos) : (c.extend tag y).1.SameBinding c := by
  unfold Channel.extend
  split
  · exact ⟨rfl, rfl, rfl⟩
  · split
    · split
      · exact ⟨rfl, rfl, rfl⟩
      · split
        · exact ⟨rfl, rfl, rfl⟩
        · split
          · split <;> exact ⟨rfl, rfl, rfl⟩
          · split <;> exact ⟨rfl, rfl, rfl⟩
    · split
      · exact ⟨rfl, rfl, rfl⟩
      · split
        · split <;> exact ⟨rfl, rfl, rfl⟩
        · exact ⟨rfl, rfl, rfl⟩

theorem abort_binding (c : Channel) (tag : Tag) : (c.abort tag).1.SameBinding c := by
  unfold Channel.abort
  split
  · exact ⟨rfl, rfl, rfl⟩
  · split
    · exact ⟨rfl, rfl, rfl⟩
    · split
      · exact ⟨rfl, rfl, rfl⟩
      · split <;> exact ⟨rfl, rfl, rfl⟩

/-! ### Lot entries -/

theorem addSource_bounded (e : LotEntry) (tag : Tag) (g : GateIx) (h : e.Bounded) : (e.addSource tag g).Bounded := by
  unfold LotEntry.addSource
  split
  · simpa [LotEntry.Bounded] using h
  · split
    · obtain ⟨-, hd, hr⟩ := h
      exact ⟨by simp only [List.length_append, List.length_singleton]; omega, hd, hr⟩
    · exact h

theorem sourcesOf_length (tag : Tag) (g : Option GateIx) : (sourcesOf tag g).length ≤ Config.sourceCapacity := by
  cases g <;> simp [sourcesOf, Config.sourceCapacity]

theorem raiseHighest_bounded (e : LotEntry) (tag : Tag) (g : GateIx) (h : e.Bounded) : (e.raiseHighest tag g).Bounded :=
  ⟨(List.length_filterMap_le ..).trans h.1, h.2⟩

theorem passLast_bounded (e : LotEntry) (tag : Tag) (g : GateIx) (h : e.Bounded) : (e.passLast tag g).Bounded :=
  ⟨(List.length_filter_le ..).trans h.1, h.2⟩

theorem setEndMark_bounded (e : LotEntry) (a : Addr) (g : GateIx) (m : EndMark) (h : e.Bounded) :
    (e.setEndMark a g m).Bounded :=
  ⟨(List.length_filterMap_le ..).trans h.1, h.2⟩

theorem countRemoval_bounded (e : LotEntry) (passed reject : Bool) (h : e.Bounded) :
    (e.countRemoval passed reject).Bounded := by
  obtain ⟨hs, hd, hr⟩ := h
  refine ⟨hs, ?_, ?_⟩ <;> unfold LotEntry.countRemoval <;> simp only <;> split <;> omega

/-! ### The walk over the lot and outlet units -/

namespace KeptByLots

variable {P : State → Prop} {s : State}

theorem request (h : KeptByLots P) (hs : P s) (c : ChannelIx) (a b : Pos) (r : Option Tag) : P (s.request c a b r).1 :=
  h.channel _ _ hs (request_binding ..)

theorem extend (h : KeptByLots P) (hs : P s) (c : ChannelIx) (t : Tag) (y : Pos) : P (s.extend c t y).1 :=
  h.channel _ _ hs (extend_binding ..)

theorem abort (h : KeptByLots P) (hs : P s) (c : ChannelIx) (t : Tag) : P (s.abort c t).1 :=
  h.channel _ _ hs (abort_binding ..)

theorem trigger (h : KeptByLots P) (hs : P s) (d : DestIx) (x : Lot) (n : Nat) : P (s.trigger d x n) := by
  have hq : P (s.requestTrigger d).1 := by
    unfold State.requestTrigger
    simp only
    split
    · exact h.request hs ..
    · exact hs
  unfold State.trigger
  simp only
  split
  · exact h.fault _ hq
  · exact hq

theorem closeStack (h : KeptByLots P) (hs : P s) (d : DestIx) (r : ClosureReason) : P (s.closeStack d r) := by
  unfold State.closeStack
  simp only
  split
  · exact h.dest _ _ hs rfl
  · exact h.trigger (h.dest _ _ hs (by rfl)) ..

theorem payTrigger (h : KeptByLots P) (hs : P s) (d : DestIx) : P (s.payTrigger d) := by
  unfold State.payTrigger
  split
  · exact h.trigger (h.dest _ _ hs (by rfl)) ..
  · exact hs

theorem countIntoStack (h : KeptByLots P) (hs : P s) (d : DestIx) (x : Lot) : P (s.countIntoStack d x) := by
  have counted : ∀ t, P t → P (t.setDest d { t.dest d with count := (t.dest d).count + 1, stackLot := x }) :=
    fun t ht => h.dest _ _ ht rfl
  unfold State.countIntoStack
  split
  · exact hs
  · simp only
    split <;> split
    · exact h.closeStack (counted _ (h.closeStack hs ..)) ..
    · exact counted _ (h.closeStack hs ..)
    · exact h.closeStack (counted _ hs) ..
    · exact counted _ hs

theorem lotEnd (h : KeptByLots P) (hs : P s) (x : Lot) : P (s.lotEnd x) :=
  List.foldlRecOn _ _ hs fun t ht d _ => by
    simp only
    split
    · exact h.closeStack ht ..
    · exact ht

/-- An entry set in place of one that is bounded where the old one is. -/
theorem setEntry (h : KeptByLots P) (hs : P s) {k : Fin 16} {e : LotEntry} (he : s.lotSlot k = some e) (y : LotEntry)
    (hy : e.Bounded → y.Bounded) : P (s.setLotSlot k (some y)) :=
  h.lot _ _ hs fun z hz hx => by
    obtain rfl : y = z := by simpa using hz
    exact hy (hx e he)

theorem judgeLot (h : KeptByLots P) (hs : P s) (k : Fin 16) : P (s.judgeLot k) := by
  unfold State.judgeLot
  split
  · exact hs
  · rename_i e he
    split
    · exact h.lotEnd (h.closures (h.setEntry hs he { e with state := .closed, noticeUnread := true } id) rfl) _
    · exact h.setEntry hs he _ id

theorem judgeLots (h : KeptByLots P) (hs : P s) : P s.judgeLots :=
  List.foldlRecOn _ _ hs fun _ ht _ _ => h.judgeLot ht _

theorem newLot (h : KeptByLots P) (hs : P s) (k : Fin 16) (x : Lot) (t : Tag) (g : Option GateIx) :
    P (s.setLotSlot k (some (LotEntry.new x t g))) :=
  h.lot _ _ hs fun z hz _ => by
    obtain rfl : LotEntry.new x t g = z := by simpa using hz
    exact ⟨sourcesOf_length .., Nat.zero_le _, Nat.zero_le _⟩

theorem lotAdmit (h : KeptByLots P) (hs : P s) (t : Tag) (x : Lot) (g : Option GateIx) : P (s.lotAdmit t x g).1 := by
  unfold State.lotAdmit
  split
  · exact hs
  split
  · split
    · exact hs
    rename_i e he
    split <;> dsimp only
    · have reopened := h.setEntry hs he { e with state := .opened, inFlight := 1, sources := sourcesOf t g }
        fun hy => ⟨sourcesOf_length .., hy.2⟩
      exact h.judgeLots (h.fault _ (h.closures reopened rfl))
    · refine h.judgeLots (h.setEntry hs he _ fun hy => ?_)
      cases g with
      | none => exact hy
      | some g => exact addSource_bounded _ _ _ hy
  · split <;> dsimp only
    · have taken := fun k => h.newLot
        (h.closures (t := { s with closureList := s.closureList.filter (· != k) }) hs rfl) k x t g
      refine h.judgeLots ?_
      split
      · exact h.fault _ (taken _)
      · exact taken _
    · exact h.fault _ hs

/-- What a removal does to each entry of the table (R166) keeps its bounds. -/
theorem touched_bounded (r : Record) (b : Bool) (y : LotEntry) (hy : y.Bounded) :
    (match r.gate with
      | none => if y.lot = r.lot ∧ !r.flags.lotUntracked then y.countRemoval b r.flags.reject else y
      | some g =>
        if y.lot = r.lot then
          (if y.lot = r.lot ∧ !r.flags.lotUntracked then y.countRemoval b r.flags.reject else y).raiseHighest r.tag g
        else (if y.lot = r.lot ∧ !r.flags.lotUntracked then y.countRemoval b r.flags.reject else y).passLast r.tag
          g).Bounded := by
  have counted : (if y.lot = r.lot ∧ (!r.flags.lotUntracked) = true then y.countRemoval b r.flags.reject
      else y).Bounded := by
    split
    · exact countRemoval_bounded _ _ _ hy
    · exact hy
  split
  · exact counted
  · split
    · exact raiseHighest_bounded _ _ _ counted
    · exact passLast_bounded _ _ _ counted

theorem lotRemove (h : KeptByLots P) (hs : P s) (r : Record) (b : Bool) : P (s.lotRemove r b) := by
  unfold State.lotRemove
  split
  · exact hs
  · refine h.judgeLots (List.foldlRecOn _ _ hs fun t ht k _ => h.lot _ _ ht fun e he hk => ?_)
    obtain ⟨y, hy, rfl⟩ := Option.map_eq_some_iff.mp he
    exact touched_bounded r b y (hk y hy)

theorem lotMarked (h : KeptByLots P) (hs : P s) (a : Addr) (f : LotMarkFrame) : P (s.lotMarked a f) := by
  unfold State.lotMarked
  split
  · exact hs
  split
  · exact hs
  · refine h.judgeLots (h.lot _ _ hs fun e he hk => ?_)
    obtain ⟨y, hy, rfl⟩ := Option.map_eq_some_iff.mp he
    exact setEndMark_bounded _ _ _ _ (hk y hy)

end KeptByLots

end Sys2Proof.Machine
end

section
namespace Sys2Proof.Machine

/-! ### The train, the queue and nearness, as the elementary changes see them -/

/-- The limits of a half-width (R14). -/
abbrev HalfOk (h : Nat) : Prop := Config.halfWidthMin ≤ h ∧ h ≤ Config.halfWidthMax

theorem clampHalf_ok (n : Nat) : HalfOk (clampHalf n) := by
  simp only [HalfOk, clampHalf, Config.halfWidthMin, Config.halfWidthMax]; omega

/-- The transmit queue outside CONFIG: its bounds (R182), only the head under way (R179), orphans under way (R187). -/
abbrev QueueFits (q : List TxFrame) : Prop :=
  q.length ≤ Config.queueCapacity ∧ (q.countP fun x => feedClass x.frame) ≤ Config.feedCapacity ∧
    (∀ x ∈ q.tail, x.underWay = false) ∧ ∀ x ∈ q, x.orphan = true → x.underWay = true

/-- A change that leaves a record in its place (R51). -/
abbrev Record.SameSpot (x y : Record) : Prop :=
  x.tag = y.tag ∧ x.stage = y.stage ∧ x.basis = y.basis ∧ x.p = y.p ∧ x.order = y.order ∧ x.lanes = y.lanes

/-- A pair of snapshots within n of the current positions. -/
abbrev State.Seen (s : State) (n : Nat) (a b : Pos) : Prop :=
  (diff a (s.pos .a)).natAbs ≤ n ∧ (diff b (s.pos .b)).natAbs ≤ n

/-- A record on the basis of its stage, with its position near travel: what is computed from a snapshot lies within 60,000 mm
of it. -/
abbrev State.InZone (s : State) (n : Nat) (r : Record) : Prop :=
  r.basis = s.basisOf r.stage ∧ (diff r.p (s.pos r.basis)).natAbs ≤ n + 60000

/-- `State.Near` with a margin that settling and one counted step keep. -/
structure State.Zone (s : State) (n : Nat) : Prop where
  tags : (s.train.map (·.tag)).Nodup
  records : ∀ r ∈ s.train, s.InZone n r ∧ r.h ≤ 2047
  candidates : ∀ e : EyeIx, ∀ c ∈ (s.eye e).candidate, s.Seen n c.snapA c.snapB
  eyes : ∀ e : EyeIx, (s.eye e).set.enable = true →
    s.eyeFits (s.eye e).set = true ∧ (s.eye e).set.offset.natAbs ≤ 4000
  watch : ∀ w ∈ s.watch, w.offset.natAbs ≤ 32000
  drops : ∀ g : GateIx, s.dropWait g ≤ 4000
  path : ∀ x ∈ s.ironer, x.pathLength ≤ 20000
  slip : s.slip ≤ Config.slipMax

/-- The fields that no statement about trains, queues, bounds or settings looks at, at their reset values in every state. -/
def State.body (s : State) : State :=
  { s with
    lastStep := none, freshWindows := [], undoneReserves := [], serial := 0, waiting := []
    holders := State.reset.holders, lineHold := false, announced := false, announcedReason := 0, slipLoaded := false
    wrapAlarm := false, exitRejectNext := false, closureList := [], busIdle := false, passageSeq := 0, lastJoin := none
    settling := none, stopPin := false, alertMask := 0, alertPin := false, response := [], freeDraws := 0, pending := [] }

/-- A predicate that survives every elementary change of the eye, channel, train, outlet, transit and transmit units. With
`near` it tells how near the positions are that records are set at. -/
structure Kept (near : Prop) (n : Nat) (P : State → Prop) : Prop extends KeptByLots P where
  zone : ∀ {s : State}, P s → near → s.Zone n
  free : ∀ {s t : State}, P s → t.body = s.body → P t
  eye : ∀ {s : State} (e : EyeIx) (x : Eye), P s → x.set = (s.eye e).set →
    (near → ∀ c ∈ x.candidate, s.Seen n c.snapA c.snapB) → P (s.setEye e x)
  gate : ∀ {s : State} (g : GateIx) (x : Gate), P s → x.set = (s.gate g).set → P (s.setGate g x)
  queue : ∀ {s t : State}, P s → t = { s with queue := t.queue } → (QueueFits s.queue → QueueFits t.queue) → P t
  watch : ∀ {s t : State}, P s → t = { s with watch := t.watch } →
    t.watch.map (fun w => (w.address, w.offset)) = s.watch.map (fun w => (w.address, w.offset)) →
    ((∀ w ∈ s.watch, w.credits ≤ Config.creditLimit) → ∀ w ∈ t.watch, w.credits ≤ Config.creditLimit) → P t
  shrink : ∀ {s t : State}, P s → t = { s with reservations := t.reservations } →
    t.reservations.Sublist s.reservations → P t
  slip : ∀ {s t : State}, P s → t = { s with slip := t.slip } →
    (s.slip ≤ Config.slipMax → t.slip ≤ Config.slipMax) →
    (Config.slipMin ≤ s.slip ∧ s.slip ≤ Config.slipMax → Config.slipMin ≤ t.slip) → P t
  map : ∀ {s t : State} (f : Record → Record), P s → t = { s with train := s.train.map f } →
    (∀ r, (f r).SameSpot r ∧ (HalfOk r.h → HalfOk (f r).h)) → P t
  replace : ∀ {s : State} (r r' : Record), P s → r ∈ s.train → r'.tag = r.tag → r'.order = r.order →
    (HalfOk r.h → HalfOk r'.h) → (near → s.InZone n r') → P (s.replaceRecord r')
  add : ∀ {s : State} (r : Record), P s → (∀ x ∈ s.train, x.tag ≠ r.tag) → s.train.length < Config.trainCapacity →
    s.mode ≠ .config → HalfOk r.h → (near → s.InZone n r) → P (s.addRecord r)
  takeOut : ∀ {s : State} (tag : Tag), P s → P (s.takeOut tag)

end Sys2Proof.Machine
end

section
namespace Sys2Proof.Machine

/-! ### What the operations compute -/

theorem pos_of_outside {s t : State} (h : t.outside = s.outside) (i : TravelInput) : t.pos i = s.pos i := by
  obtain ⟨ha, hb, -⟩ := outside_fields h
  cases i
  · exact congrArg Travel.position ha
  · exact congrArg Travel.position hb

theorem role_of_outside {s t : State} (h : t.outside = s.outside) : t.role = s.role := by
  obtain ⟨-, -, -, -, -, -, -, -, -, -, -, -, -, -, -, hr, -⟩ := outside_fields h
  exact hr

theorem mode_of_outside {s t : State} (h : t.outside = s.outside) : t.mode = s.mode := by
  obtain ⟨-, -, -, -, -, -, -, -, -, -, -, -, -, -, hm, -⟩ := outside_fields h
  exact hm

/-- Where a frame has room, its queuing keeps the bounds of the queue (R182). -/
theorem push_fits {s : State} {f : Frame} (hr : s.roomFor f = true) (p : Pos) (hq : QueueFits s.queue) :
    QueueFits (s.push f p).queue := by
  obtain ⟨hlen, hfeed, htail, horphan⟩ := hq
  have room : s.queue.length < Config.queueCapacity ∧
      (feedClass f = true → (s.queue.countP fun x => feedClass x.frame) < Config.feedCapacity) := by
    unfold State.roomFor State.feedRoom State.queueRoom State.feedCount at hr
    split at hr <;> simp_all
  refine ⟨?_, ?_, ?_, ?_⟩
  · simp only [push_queue, List.length_append, List.length_singleton]; omega
  · have : (TxFrame.new f p).frame = f := rfl
    rw [push_queue, List.countP_append, List.countP_singleton, this]
    split
    · have := room.2 ‹_›; omega
    · omega
  · intro x hx
    rw [push_queue, List.tail_append] at hx
    split at hx
    · simp at hx
    · obtain hx | hx := List.mem_append.mp hx
      · exact htail x hx
      · simp_all [TxFrame.new]
  · intro x hx ho
    obtain hx | hx := List.mem_append.mp hx
    · exact horphan x hx ho
    · simp_all [TxFrame.new]

/-- A queue from which frames have gone keeps its bounds, where the frames left are under way as before and of their class. -/
theorem QueueFits.filterMap {q : List TxFrame} (hq : QueueFits q) (f : TxFrame → Option TxFrame)
    (hf : ∀ x y, f x = some y → y.underWay = x.underWay ∧ feedClass y.frame = feedClass x.frame ∧
      (y.orphan = true → x.orphan = true ∨ x.underWay = true)) : QueueFits (q.filterMap f) := by
  obtain ⟨hlen, hfeed, htail, horphan⟩ := hq
  refine ⟨(List.length_filterMap_le ..).trans hlen, ?_, ?_, ?_⟩
  · rw [List.countP_filterMap]
    refine (List.countP_mono_left fun x _ hx => ?_).trans hfeed
    cases hy : f x with
    | none => simp [hy] at hx
    | some y => simpa [hy, (hf x y hy).2.1] using hx
  · cases q with
    | nil => simp
    | cons a l =>
      have hl : ∀ y ∈ l.filterMap f, y.underWay = false := fun y hy => by
        obtain ⟨x, hx, hxy⟩ := List.mem_filterMap.mp hy
        exact (hf x y hxy).1.trans (htail x hx)
      rw [List.filterMap_cons]
      split
      · exact fun y hy => hl y (List.mem_of_mem_tail hy)
      · exact hl
  · intro y hy ho
    obtain ⟨x, hx, hxy⟩ := List.mem_filterMap.mp hy
    obtain ⟨hu, -, hor⟩ := hf x y hxy
    exact hu.trans ((hor ho).elim (horphan x hx) id)

theorem voidReserve_fits (s : State) (g : GateIx) (hq : QueueFits s.queue) : QueueFits (s.voidReserve g).queue :=
  hq.filterMap _ fun x y hxy => by
    split at hxy
    · split at hxy
      · cases hxy; exact ⟨rfl, rfl, .inl⟩
      · cases hxy
    · cases hxy; exact ⟨rfl, rfl, .inl⟩

/-- The search for a serial ends at a free one, or every serial it passed over stands in the train. -/
theorem freeSerial_cases (train : List Record) (own : Addr) (n : Nat) (next : Serial) :
    (∀ x ∈ train, x.tag ≠ { origin := own, serial := freeSerial train own n next }) ∨
      ∀ i < n, ({ origin := own, serial := next + BitVec.ofNat 11 i } : Tag) ∈ train.map (·.tag) := by
  induction n generalizing next with
  | zero => exact .inr fun i hi => absurd hi (Nat.not_lt_zero i)
  | succ n ih =>
    unfold freeSerial
    split
    · rename_i hx
      obtain ⟨x, hx, ht⟩ := List.any_eq_true.mp hx
      refine (ih (next + 1)).imp id fun h i hi => ?_
      cases i with
      | zero => exact List.mem_map.mpr ⟨x, hx, by simpa using ht⟩
      | succ i =>
        have hs : next + BitVec.ofNat 11 (i + 1) = next + 1 + BitVec.ofNat 11 i := by
          rw [Nat.add_comm, BitVec.ofNat_add, BitVec.add_assoc]; rfl
        rw [hs]
        exact h i (by omega)
    · rename_i hx
      exact .inl fun x hm ht => hx (List.any_eq_true.mpr ⟨x, hm, by simpa using ht⟩)

/-- The tags of n serials of an address, from one on. -/
def tagsFrom (own : Addr) (next : Serial) (n : Nat) : List Tag :=
  (List.range n).map fun i => { origin := own, serial := next + BitVec.ofNat 11 i }

theorem tagsFrom_nodup (own : Addr) (next : Serial) {n : Nat} (hn : n ≤ 2048) : (tagsFrom own next n).Nodup := by
  refine List.Nodup.map_on (fun i hi j hj hij => ?_) List.nodup_range
  have hs : next + BitVec.ofNat 11 i = next + BitVec.ofNat 11 j := congrArg Tag.serial hij
  have := congrArg BitVec.toNat ((BitVec.add_right_inj _).mp hs)
  rw [List.mem_range] at hi hj
  simp only [BitVec.toNat_ofNat] at this
  omega

/-- Fewer than 48 records cannot hold 48 serials: the serial found is free (R49). -/
theorem freeSerial_free (train : List Record) (own : Addr) (next : Serial)
    (hlen : train.length < Config.trainCapacity) :
    ∀ x ∈ train, x.tag ≠ { origin := own, serial := freeSerial train own Config.trainCapacity next } := by
  refine (freeSerial_cases train own Config.trainCapacity next).resolve_right fun h => ?_
  have sub : tagsFrom own next Config.trainCapacity ⊆ train.map (·.tag) := fun t ht => by
    obtain ⟨i, hi, rfl⟩ := List.mem_map.mp ht
    exact h i (List.mem_range.mp hi)
  have := ((tagsFrom_nodup own next (by decide)).subperm sub).length_le
  simp only [tagsFrom, List.length_map, List.length_range] at this
  omega

theorem learnedSlip_range (pathLength slip : Nat) (a b : Pos) :
    (slip ≤ Config.slipMax → learnedSlip pathLength slip a b ≤ Config.slipMax) ∧
      (Config.slipMin ≤ slip ∧ slip ≤ Config.slipMax → Config.slipMin ≤ learnedSlip pathLength slip a b) := by
  have hr : Config.slipMin ≤ measuredRatio pathLength (diff a b).toNat ∧
      measuredRatio pathLength (diff a b).toNat ≤ Config.slipMax := by
    unfold measuredRatio
    simp only [Config.slipMin, Config.slipMax]
    omega
  unfold learnedSlip
  simp only [Config.slipMin, Config.slipMax] at *
  split <;> omega

theorem predictedTravel_le {pathLength slip : Nat} (hp : pathLength ≤ 20000) (hs : slip ≤ Config.slipMax) :
    predictedTravel pathLength slip ≤ 21250 := by
  unfold predictedTravel Config.slipMax at *
  have := Nat.mul_le_mul hp hs
  omega

theorem takeCredit_keys (watch : List WatchEntry) (i : Nat) :
    (takeCredit watch i).map (fun w => (w.address, w.offset)) = watch.map fun w => (w.address, w.offset) := by
  unfold takeCredit
  conv_rhs => rw [← List.zipIdx_map_fst 0 watch]
  simp only [List.map_map]
  refine List.map_congr_left fun w _ => ?_
  simp only [Function.comp]
  split <;> rfl

theorem takeCredit_credits (watch : List WatchEntry) (i : Nat)
    (h : ∀ w ∈ watch, w.credits ≤ Config.creditLimit) : ∀ w ∈ takeCredit watch i, w.credits ≤ Config.creditLimit := by
  intro w hw
  unfold takeCredit at hw
  obtain ⟨x, hx, rfl⟩ := List.mem_map.mp hw
  have hx' := h x.1 (List.mem_zipIdx hx |>.2.2 ▸ List.getElem_mem _)
  split
  · show x.1.credits - 1 ≤ _; omega
  · exact hx'

end Sys2Proof.Machine
end

section
namespace Sys2Proof.Machine

/-! ### The walk: queue, train, outlet and transit -/

namespace Kept

variable {near : Prop} {n : Nat} {P : State → Prop} {s : State}

theorem push (h : Kept near n P) (hs : P s) (f : Frame) (p : Pos) (hr : s.roomFor f = true) : P (s.push f p) :=
  h.queue hs rfl (push_fits hr p)

theorem offerOrDrop (h : Kept near n P) (hs : P s) (f : Frame) (t : Tag) : P (s.offerOrDrop f t) := by
  unfold State.offerOrDrop
  obtain ⟨hr, ho⟩ | ⟨-, ho⟩ := offer_cases s f 0 <;> rw [ho]
  · exact h.push hs f 0 hr
  · exact h.fault _ hs

theorem voidReserve (h : Kept near n P) (hs : P s) (g : GateIx) : P (s.voidReserve g) :=
  h.queue hs rfl (voidReserve_fits s g)

theorem update (h : Kept near n P) (hs : P s) (tag : Tag) (f : Record → Record)
    (hf : ∀ r, (f r).SameSpot r ∧ (f r).h = r.h) : P (s.updateRecord tag f) :=
  h.map (fun r => if r.tag == tag then f r else r) hs rfl fun r => by
    split
    · exact ⟨(hf r).1, fun hh => by rwa [(hf r).2]⟩
    · exact ⟨⟨rfl, rfl, rfl, rfl, rfl, rfl⟩, id⟩

theorem markReject (h : Kept near n P) (hs : P s) (tag : Tag) : P (s.markReject tag) :=
  h.update hs tag _ fun _ => ⟨⟨rfl, rfl, rfl, rfl, rfl, rfl⟩, rfl⟩

theorem markFresh (h : Kept near n P) (hs : P s) (tag : Tag) : P (s.markFresh tag) := h.free hs rfl

theorem stopWaiting (h : Kept near n P) (hs : P s) (tag : Tag) : P (s.stopWaiting tag) := h.free hs rfl

theorem handToLots (h : Kept near n P) (hs : P s) (t : Tag) (x : Lot) (g : Option GateIx) : P (s.handToLots t x g) := by
  have hl := h.lotAdmit hs t x g
  unfold State.handToLots
  simp only
  split
  · exact h.update hl _ _ fun _ => ⟨⟨rfl, rfl, rfl, rfl, rfl, rfl⟩, rfl⟩
  · exact hl

theorem allocate (h : Kept near n P) (hs : P s) : P s.allocate.2 := h.free hs rfl

theorem removeRecord (h : Kept near n P) (hs : P s) (r : Record) (c : RemovalCause) (u : Option FaultUnit) :
    P (s.removeRecord r c u) := by
  have hl := h.lotRemove (h.takeOut r.tag hs) r c.passed
  have hq : P (((s.takeOut r.tag).lotRemove r c.passed).queueLost r.tag c) := by
    unfold State.queueLost
    split
    · exact h.offerOrDrop hl ..
    · exact hl
  have hf : P ((((s.takeOut r.tag).lotRemove r c.passed).queueLost r.tag c).removalFault r c u) := by
    unfold State.removalFault
    split
    · exact h.fault _ hq
    · exact hq
  unfold State.removeRecord State.alarmAt
  simp only
  split
  · exact h.free hf rfl
  · exact hf

theorem clearIfPassed (h : Kept near n P) (hs : P s) (tag : Tag) : P (s.clearIfPassed tag) := by
  unfold State.clearIfPassed
  split
  · split
    · exact h.removeRecord hs ..
    · exact hs
  · exact hs

theorem clearIfMoved (h : Kept near n P) (hs : P s) (r : Record) : P (s.clearIfMoved r) := by
  obtain he | he := clearIfMoved_cases s r <;> rw [he]
  · exact hs
  · exact h.clearIfPassed hs _

/-! Outlet -/

theorem depart (h : Kept near n P) (hs : P s) (r : Record) : P (s.depart r) := by
  unfold State.depart
  split
  · exact h.removeRecord (h.countIntoStack hs ..) ..
  · exact hs

theorem departIfPassed (h : Kept near n P) (hs : P s) (tag : Tag) : P (s.departIfPassed tag) := by
  unfold State.departIfPassed
  split
  · split
    · split
      · exact h.depart hs _
      · exact hs
    · exact hs
  · exact hs

theorem departIfMoved (h : Kept near n P) (hs : P s) (r : Record) : P (s.departIfMoved r) := by
  obtain he | he := departIfMoved_cases s r <;> rw [he]
  · exact hs
  · exact h.departIfPassed hs _

theorem requestDivert (h : Kept near n P) (hs : P s) (r : Record) (e : Pos) (d : DestIx) :
    P (s.requestDivert r e d) := by
  have sent := fun t (ht : P t) => h.update ht r.tag (fun x => { x with dest := some 0 })
    fun _ => ⟨⟨rfl, rfl, rfl, rfl, rfl, rfl⟩, rfl⟩
  unfold State.requestDivert
  simp only
  split
  · exact hs
  · split
    · exact h.fault _ (h.request hs ..)
    · exact h.fault _ (sent _ (h.request hs ..))
    · exact h.fault _ (sent _ (h.request hs ..))
    · exact h.request hs ..

theorem route (h : Kept near n P) (hs : P s) (tag : Tag) : P (s.route tag) := by
  unfold State.route
  split
  · exact hs
  · split
    · exact hs
    · rename_i r _
      split
      · exact hs
      · exact h.departIfPassed (h.requestDivert (h.update hs tag (fun x => { x with dest := some (s.routeOf r) })
          fun _ => ⟨⟨rfl, rfl, rfl, rfl, rfl, rfl⟩, rfl⟩) ..) _

theorem payOutlet (h : Kept near n P) (hs : P s) : P s.payOutlet := by
  unfold State.payOutlet
  split
  · exact List.foldlRecOn _ _ (List.foldlRecOn _ _ hs fun _ ht _ _ => h.payTrigger ht _) fun _ ht _ _ => h.route ht _
  · exact hs

theorem extendDivert (h : Kept near n P) (hs : P s) (r : Record) (m : Nat) : P (s.extendDivert r m) := by
  unfold State.extendDivert
  split
  · split
    · split
      · exact hs
      · simp only
        split
        · exact h.fault _ (h.extend hs ..)
        · exact h.extend hs ..
    · exact hs
  · exact hs

/-! Transit -/

theorem queueHandoff (h : Kept near n P) (hs : P s) (r : Record) : P (s.queueHandoff r) := by
  unfold State.queueHandoff
  obtain ⟨hr, ho⟩ | ⟨-, ho⟩ := offer_cases s (.handoff (handoffFrame r)) (r.lead.getD 0) <;> rw [ho]
  · exact h.push hs _ _ hr
  · exact h.fault _ (h.free (t := { s with passageSeq := s.passageSeq + 1 }) hs rfl)

theorem slipLesson (h : Kept near n P) (hs : P s) (r : Record) (x : Pos) : P (s.slipLesson r x) := by
  unfold State.slipLesson
  split
  · split
    · exact h.slip hs rfl (learnedSlip_range ..).1 (learnedSlip_range ..).2
    · exact hs
  · exact hs

theorem takeExitReject (h : Kept near n P) (hs : P s) (tag : Tag) : P (s.takeExitReject tag) := by
  unfold State.takeExitReject
  split
  · exact h.free (h.markReject hs tag) rfl
  · exact hs

theorem exitSteps (h : Kept near n P) (hs : P s) (tag : Tag) (c : Option Pos) : P (s.exitSteps tag c) := by
  have ht := h.takeExitReject hs tag
  unfold State.exitSteps
  simp only
  split
  · exact ht
  · cases c with
    | none => exact h.queueHandoff ht _
    | some x => exact h.slipLesson (h.queueHandoff ht _) ..

theorem reckonExit (h : Kept near n P) (hs : P s) {r : Record} (hr : r ∈ s.train) (hi : s.role = some .ironer)
    (hst : r.stage ≠ .pending) : P (s.reckonExit r) := by
  refine h.exitSteps (h.replace r { r with stage := .leaving, lead := some r.p } hs hr rfl rfl id fun hn => ?_) ..
  obtain ⟨⟨hb, hd⟩, -⟩ := (h.zone hs hn).records r hr
  refine ⟨?_, hd⟩
  simpa [State.basisOf, hi, hst] using hb

theorem reckonExitIfPassed (h : Kept near n P) (hs : P s) (tag : Tag) : P (s.reckonExitIfPassed tag) := by
  unfold State.reckonExitIfPassed
  split
  · rename_i r hr
    split
    · rename_i hc
      exact h.reckonExit hs (findRecord_some _ hr).1 hc.1 (by simp [hc.2.1])
    · exact hs
  · exact hs

/-- A record rebased onto input B near travel stays near it (R60): the path is at most 20,000 mm, the slip factor in range. -/
theorem rebased_inZone (h : Kept near n P) (hs : P s) (r : Record) (b : Pos) {g : Stage}
    (hi : s.role = some .ironer) (hg : g ≠ .pending) (hn : near)
    (hb : (diff b (s.pos .b)).natAbs ≤ n + 2047) : s.InZone n (s.rebased r b g) := by
  have hz := h.zone hs hn
  have hp : s.pred ≤ 21250 := by
    unfold State.pred
    split
    · exact predictedTravel_le (hz.path _ ‹_›) hz.slip
    · exact Nat.zero_le _
  have := diff_natAbs_plus b (s.pos .b) s.pred
  refine ⟨by simp [State.rebased, State.basisOf, hi, hg], ?_⟩
  show (diff (Pos.plus b s.pred) (s.pos .b)).natAbs ≤ _
  omega

theorem halfWidthFor_ok (s : State) (d : Int) (f : Flags) : HalfOk (s.halfWidthFor d f) := clampHalf_ok _

theorem reckon (h : Kept near n P) (hs : P s) {r : Record} (hr : r ∈ s.train) : P (s.reckon r) := by
  have spot := fun hn => ((h.zone hs hn).records r hr).1
  unfold State.reckon
  split
  · rename_i hrole hst
    exact h.replace r { r with stage := .inside, lead := some r.p } hs hr rfl rfl id fun hn =>
      ⟨by simpa [State.basisOf, hrole] using (spot hn).1, (spot hn).2⟩
  · rename_i hrole hst
    exact h.reckonExitIfPassed (h.markFresh (h.replace r (s.rebased r (s.pos .b) .inside) hs hr rfl rfl
      (fun _ => halfWidthFor_ok ..) fun hn => h.rebased_inZone hs r _ hrole (by simp) hn (by simp)) _) _
  · rename_i hrole hst
    exact h.reckonExit hs hr hrole (by simp [hst])
  · exact h.removeRecord hs ..
  · rename_i hrole hst
    exact h.route (h.replace r { r with stage := .entering, lead := some r.p } hs hr rfl rfl id fun hn =>
      ⟨by simpa [State.basisOf, hrole] using (spot hn).1, (spot hn).2⟩) _
  · exact hs

theorem reckonIfPassed (h : Kept near n P) (hs : P s) (tag : Tag) : P (s.reckonIfPassed tag) := by
  unfold State.reckonIfPassed
  split
  · rename_i r hr
    split
    · exact hs
    · split
      · exact h.reckon hs (findRecord_some _ hr).1
      · exact hs
    · exact hs
  · exact hs

end Kept

end Sys2Proof.Machine
end

section
namespace Sys2Proof.Machine

/-! ### Records, windows and eyes, as the matcher finds them -/

/-- The role whose tracker serves a checkpoint (R20). -/
def Checkpoint.role : Checkpoint → Role
  | .feed => .feed
  | .entry => .ironer
  | .exit => .ironer
  | .outlet => .outlet

/-- The input of a checkpoint's eyes (R20). -/
def Checkpoint.input : Checkpoint → TravelInput
  | .exit => .b
  | _ => .a

theorem checkpoint_function {f : EyeFunction} {k : Checkpoint} (h : f.checkpoint = some k) : f = k.function := by
  cases f <;> cases k <;> simp_all [EyeFunction.checkpoint, Checkpoint.function]

theorem eyeFits_checkpoint {s : State} {x : EyeSettings} {k : Checkpoint} (h : s.eyeFits x = true)
    (hf : x.function = k.function) : s.role = some k.role ∧ x.input = k.input := by
  unfold State.eyeFits at h
  rw [hf] at h
  cases k <;> split at h <;> simp_all [Checkpoint.function, Checkpoint.role, Checkpoint.input]

/-- An update by tag changes the record found under the tag, and no other (R51). -/
theorem findRecord_updateRecord (s : State) (t tag : Tag) (f : Record → Record) (hf : ∀ r, (f r).tag = r.tag) :
    (s.updateRecord t f).findRecord tag = (s.findRecord tag).map fun r => if r.tag == t then f r else r := by
  unfold State.findRecord State.updateRecord
  simp only [List.find?_map]
  congr 2
  funext r
  simp only [Function.comp]
  split <;> simp [hf]

theorem eyeAt_some {s : State} {k : Checkpoint} {l : Lane} {e : EyeIx} (h : s.eyeAt k l = some e) :
    (s.eye e).set.enable = true ∧ (s.eye e).set.function = k.function ∧ (s.eye e).set.lane = l ∧
      s.offsetAt k l = (s.eye e).set.offset := by
  have := List.find?_some h
  simp only [Bool.and_eq_true, beq_iff_eq] at this
  exact ⟨this.1.1, this.1.2, this.2, by simp [State.offsetAt, h]⟩

theorem awaitsAt_some {s : State} {r : Record} {k : Checkpoint} (h : s.awaitsAt r = some k) :
    s.role = some k.role ∧ (r.stage = .pending ↔ k ≠ .exit) := by
  unfold State.awaitsAt at h
  split at h
  · split at h <;> cases h
    exact ⟨‹_›, by simp_all⟩
  all_goals cases h
  all_goals exact ⟨‹_›, by simp_all⟩

theorem windowOf_some {s : State} {r : Record} {k : Checkpoint} {e : EyeIx} {closing : Pos}
    (h : s.windowOf r = some (k, e, closing)) :
    s.awaitsAt r = some k ∧ s.eyeAt k r.lane = some e ∧ closing = Pos.plus r.p ((s.eye e).set.offset + r.h) := by
  unfold State.windowOf at h
  split at h
  · cases h
  · rename_i k' hk
    split at h
    · cases h
    · rename_i e' he
      cases h
      exact ⟨hk, he, rfl⟩

/-- No record of a tag is PENDING. -/
def State.Past (s : State) (t : Tag) : Prop := ∀ y ∈ s.train, y.tag = t → y.stage ≠ .pending

theorem past_of_mem {s : State} {r : Record} (hn : (s.train.map (·.tag)).Nodup) (hr : r ∈ s.train)
    (hst : r.stage ≠ .pending) : s.Past r.tag := fun y hy ht => by
  rwa [List.inj_on_of_nodup_map hn hy hr ht]

theorem past_replaceRecord {s : State} {t : Tag} (h : s.Past t) (r : Record) (hr : r.stage ≠ .pending) :
    (s.replaceRecord r).Past t := fun y hy ht => by
  obtain rfl | hy := mem_insertRecord.mp hy
  · exact hr
  · exact h y (List.mem_of_mem_filter hy) ht

theorem past_updateRecord {s : State} {t : Tag} (h : s.Past t) (tag : Tag) (f : Record → Record)
    (hf : ∀ r, (f r).tag = r.tag ∧ (f r).stage = r.stage) : (s.updateRecord tag f).Past t := fun y hy ht => by
  obtain ⟨x, hx, rfl⟩ := List.mem_map.mp hy
  split
  · rename_i hc
    rw [(hf x).2]
    exact h x hx (by simpa [hc, (hf x).1] using ht)
  · rename_i hc
    exact h x hx (by simpa [hc] using ht)

@[simp] theorem queueHandoff_train (s : State) (r : Record) : (s.queueHandoff r).train = s.train := by
  unfold State.queueHandoff State.offer State.dropHandoff
  cases s.roomFor (.handoff (handoffFrame r)) <;> simp

theorem past_exitSteps {s : State} {t : Tag} (h : s.Past t) (tag : Tag) : (s.exitSteps tag none).Past t := by
  have ht : (s.takeExitReject tag).Past t := by
    unfold State.takeExitReject
    split
    · exact past_updateRecord h tag _ fun _ => ⟨rfl, rfl⟩
    · exact h
  unfold State.exitSteps
  simp only
  split
  · exact ht
  · simpa [State.Past] using ht

theorem past_advanceTrail_entry {s : State} {t : Tag} (h : s.Past t) (r : Record) : (s.advanceTrail r .entry).Past t := by
  unfold State.advanceTrail State.reckonExitIfPassed
  split
  · exact h
  · have hi := fun x : Record => past_replaceRecord h { x with stage := .inside } (by simp)
    simp only
    split
    · split
      · exact past_exitSteps (past_replaceRecord (hi _) _ (by simp)) _
      · exact hi _
    · exact hi _

theorem past_measured_entry {s : State} {t : Tag} (h : s.Past t) (r : Record) (x : Edge) :
    (s.measured r .entry x).Past t := by
  unfold State.measured State.verdict
  split
  · exact h
  · rename_i m _
    have hm := past_updateRecord h r.tag (fun y => { y with measured := some m }) fun _ => ⟨rfl, rfl⟩
    simp only [reduceCtorEq, if_false]
    split
    · exact hm
    · split
      · simpa [State.Past] using past_updateRecord hm r.tag (fun y => { y with flags := { y.flags with length := true } })
          fun _ => ⟨rfl, rfl⟩
      · exact hm

/-- A record set at a position with a lead capture, in a stage (R58, R61, R82, R141). -/
def Record.led (r : Record) (g : Stage) (e p : Pos) : Record := { r with stage := g, lead := some e, p := p }

/-- What advancing a record to a leading edge must know of it (R58, R60, R61, R76): its stage and the tracker's role are the
checkpoint's, and the position it is set to is near. -/
structure State.LeadFits (s : State) (n : Nat) (r : Record) (k : Checkpoint) (e entryB : Pos) : Prop where
  role : s.role = some k.role
  stage : r.stage = .pending ↔ k ≠ .exit
  place : k ≠ .entry → (diff (Pos.plus e (-(s.offsetAt k r.lane))) (s.pos r.basis)).natAbs ≤ n + 60000
  entry : k = .entry → (diff entryB (s.pos .b)).natAbs ≤ n + 2047

theorem offsetAt_near {s : State} {n : Nat} (hz : s.Zone n) (k : Checkpoint) (l : Lane) :
    (s.offsetAt k l).natAbs ≤ 4000 := by
  unfold State.offsetAt
  split
  · rename_i e he
    exact (hz.eyes e (eyeAt_some he).1).2
  · simp

theorem seen_snap {s : State} {n : Nat} {x : Edge} (h : s.Seen n x.snapA x.snapB) (i : TravelInput) :
    (diff (x.snap i) (s.pos i)).natAbs ≤ n := by
  cases i
  · exact h.1
  · exact h.2

end Sys2Proof.Machine
end

section
namespace Sys2Proof.Machine

namespace Kept

variable {near : Prop} {n : Nat} {P : State → Prop} {s : State}

/-! ### The walk: matching -/

theorem advanceLead (h : Kept near n P) (hs : P s) {r : Record} (hr : r ∈ s.train) (k : Checkpoint) (e b : Pos)
    (c : Bool) (hf : near → s.LeadFits n r k e b) : P (s.advanceLead r k e b c) := by
  have h0 := h.stopWaiting hs r.tag
  have basis := fun hn => ((h.zone hs hn).records r hr).1.1
  have led : ∀ g : Stage, k ≠ .entry → (g = .leaving ↔ k = .exit) → g ≠ .pending →
      P ((s.stopWaiting r.tag).replaceRecord (r.led g e (Pos.plus e (-(s.offsetAt k r.lane))))) := by
    intro g hk hg hp
    refine h.replace r _ h0 hr rfl rfl id fun hn => ⟨?_, (hf hn).place hk⟩
    have hrole := (hf hn).role
    have hstage := (hf hn).stage
    have hb := basis hn
    cases k <;> simp_all [State.basisOf, Checkpoint.role, Record.led, State.stopWaiting]
  unfold State.advanceLead
  cases k with
  | feed => exact h.clearIfMoved (led .entering (by simp) (by simp) (by simp)) _
  | entry =>
    refine h.markFresh (h.replace r (s.rebased r b .entering) h0 hr rfl rfl (fun _ => halfWidthFor_ok ..)
      fun hn => ?_) _
    exact h.rebased_inZone hs r b (hf hn).role (by simp) hn ((hf hn).entry rfl)
  | exit => exact h.exitSteps (led .leaving (by simp) (by simp) (by simp)) ..
  | outlet => exact h.route (led .entering (by simp) (by simp) (by simp)) _

theorem spendCredit (h : Kept near n P) (hs : P s) (c : Option Nat) : P (s.spendCredit c) := by
  unfold State.spendCredit
  split
  · exact h.watch hs rfl (takeCredit_keys ..) (takeCredit_credits _ _)
  · exact hs

/-- The record a stray edge makes stands near travel, on the basis of its stage (R74). -/
theorem strayRecord_inZone (h : Kept near n P) (hs : P s) (tag : Tag) (flags : Flags) {k : Checkpoint} (hk : k ≠ .exit)
    (x : Edge) (hn : near) (hf : (s.eye x.eye).set.function = k.function) (he : (s.eye x.eye).set.enable = true)
    (hx : s.Seen n x.snapA x.snapB) : s.InZone n (s.strayRecord tag flags k x) := by
  have hz := h.zone hs hn
  obtain ⟨hrole, hin⟩ := eyeFits_checkpoint (hz.eyes _ he).1 hf
  have hoff := (hz.eyes _ he).2
  have hc := seen_snap hx
  have placed : k ≠ .entry → (diff (Pos.plus (s.capture x) (-((s.eye x.eye).set.offset))) (s.pos .a)).natAbs ≤ n + 60000 := by
    intro hk'
    have h1 := hc (s.eye x.eye).set.input
    have h2 := diff_natAbs_plus (s.capture x) (s.pos .a) (-((s.eye x.eye).set.offset))
    rw [hin] at h1
    have h3 : (diff (s.capture x) (s.pos .a)).natAbs ≤ n := by
      unfold State.capture
      rw [hin]
      cases k <;> simp_all [Checkpoint.input]
    omega
  unfold State.strayRecord
  cases k with
  | exit => exact absurd rfl hk
  | entry => exact h.rebased_inZone hs _ _ hrole (by simp) hn ((hc .b).trans (by omega))
  | feed => exact ⟨by simp [State.basisOf, hrole, Checkpoint.role], placed (by simp)⟩
  | outlet => exact ⟨by simp [State.basisOf, hrole, Checkpoint.role], placed (by simp)⟩

theorem stray (h : Kept near n P) (hs : P s) (k : Checkpoint) (x : Edge) (hl : s.live = true)
    (hx : near → (s.eye x.eye).set.function = k.function ∧ (s.eye x.eye).set.enable = true ∧ s.Seen n x.snapA x.snapB) :
    P (s.stray k x) := by
  unfold State.stray
  split
  · exact h.fault _ hs
  rename_i hk
  split
  · exact h.fault _ hs
  rename_i hfull
  simp only
  have credited := h.spendCredit (h.allocate hs) (creditIndex s.watch)
  have train : (s.allocate.2.spendCredit (creditIndex s.watch)).train = s.train := by
    unfold State.spendCredit; split <;> rfl
  have eyes : (s.allocate.2.spendCredit (creditIndex s.watch)).eyes = s.eyes := by
    unfold State.spendCredit; split <;> rfl
  have outer : (s.allocate.2.spendCredit (creditIndex s.watch)).outside = s.outside := by simp
  generalize hu : s.allocate.2.spendCredit (creditIndex s.watch) = u at credited train eyes outer ⊢
  have room : s.train.length < Config.trainCapacity := by simpa [State.trainFull] using hfull
  have eye : u.eye x.eye = s.eye x.eye := by simp only [State.eye, eyes]
  have added := fun flags => h.handToLots (h.markFresh (h.add (u.strayRecord s.allocate.1 flags k x) credited
    (by
      rw [train]
      have := freeSerial_free s.train s.ownAddress s.serial room
      cases k <;> exact this)
    (by rwa [train])
    (by
      rw [mode_of_outside outer]
      intro hm
      simp [State.live, hm] at hl)
    (by cases k <;> exact halfWidthFor_ok ..)
    fun hn => by
      obtain ⟨hf, he, hseen⟩ := hx hn
      refine h.strayRecord_inZone credited _ _ hk x hn (by rwa [eye]) (by rwa [eye]) ?_
      simpa only [State.Seen, pos_of_outside outer] using hseen) s.allocate.1) s.allocate.1 Config.unknownLot none
  have faulted : ∀ t f, P t → P (match creditIndex s.watch with
      | some _ => t
      | none => t.recordFault f) := fun t f ht => by
    split
    · exact ht
    · exact h.fault _ ht
  cases k with
  | feed => exact h.clearIfPassed (faulted _ _ (added _)) _
  | entry => exact faulted _ _ (added _)
  | exit => exact absurd rfl hk
  | outlet => exact h.route (faulted _ _ (added _)) _

end Kept
end Sys2Proof.Machine
end

section
namespace Sys2Proof.Machine

namespace Kept

variable {near : Prop} {n : Nat} {P : State → Prop} {s : State}

/-- A record whose window contains an edge is near enough to advance to it (R70). -/
theorem leadFits_of_edge (h : Kept near n P) (hs : P s) {r : Record} (hr : r ∈ s.train) {k : Checkpoint} {x : Edge}
    (haw : r.awaitsLead k = true) (hn : near) (hf : (s.eye x.eye).set.function = k.function)
    (he : (s.eye x.eye).set.enable = true) (hx : s.Seen n x.snapA x.snapB) :
    s.LeadFits n r k (s.capture x) x.snapB := by
  have hz := h.zone hs hn
  obtain ⟨hrole, hin⟩ := eyeFits_checkpoint (hz.eyes _ he).1 hf
  have hb := (hz.records r hr).1.1
  have hstage : r.stage = .pending ↔ k ≠ .exit := by
    cases k <;> cases hst : r.stage <;> simp_all [Record.awaitsLead]
  refine ⟨hrole, hstage, fun hk => ?_, fun _ => (seen_snap hx .b).trans (by omega)⟩
  have basis : r.basis = k.input := by
    cases k <;> simp_all [State.basisOf, Checkpoint.role, Checkpoint.input]
  have h1 : (diff (s.capture x) (s.pos r.basis)).natAbs ≤ n := by
    unfold State.capture
    rw [hin, basis]
    exact seen_snap hx _
  have h2 := diff_natAbs_plus (s.capture x) (s.pos r.basis) (-(s.offsetAt k r.lane))
  have h3 := offsetAt_near hz k r.lane
  omega

theorem leadingEdge (h : Kept near n P) (hs : P s) (k : Checkpoint) (x : Edge) (hl : s.live = true)
    (hx : near → (s.eye x.eye).set.function = k.function ∧ (s.eye x.eye).set.enable = true ∧ s.Seen n x.snapA x.snapB) :
    P (s.leadingEdge k x) := by
  unfold State.leadingEdge
  simp only
  split
  · rename_i r hr
    have hm := List.mem_of_find?_eq_some hr
    have haw := List.find?_some hr
    simp only [Bool.and_eq_true] at haw
    exact h.advanceLead hs hm k _ _ _ fun hn =>
      h.leadFits_of_edge hs hm haw.1.1 hn (hx hn).1 (hx hn).2.1 (hx hn).2.2
  · split
    · exact hs
    · split
      · exact hs
      · exact h.stray hs k x hl hx

theorem verdict (h : Kept near n P) (hs : P s) (r : Record) (m : Nat) (x : Edge) : P (s.verdict r m x) := by
  unfold State.verdict
  split
  · exact hs
  · split
    · exact h.fault _ (h.update hs r.tag (fun y => { y with flags := { y.flags with length := true } })
        fun _ => ⟨⟨rfl, rfl, rfl, rfl, rfl, rfl⟩, rfl⟩)
    · exact hs

theorem measured (h : Kept near n P) (hs : P s) (r : Record) (k : Checkpoint) (x : Edge) : P (s.measured r k x) := by
  unfold State.measured
  split
  · exact hs
  · rename_i m _
    have hm := h.verdict (h.update hs r.tag (fun y => { y with measured := some m })
      fun _ => ⟨⟨rfl, rfl, rfl, rfl, rfl, rfl⟩, rfl⟩) r m x
    simp only
    split
    · exact h.extendDivert hm ..
    · exact hm

theorem advanceTrail (h : Kept near n P) (hs : P s) (r : Record) (k : Checkpoint)
    (hf : near → s.role = some k.role ∧ (k = .entry → s.Past r.tag)) : P (s.advanceTrail r k) := by
  unfold State.advanceTrail
  split
  · exact hs
  · rename_i y hy
    obtain ⟨hm, ht⟩ := findRecord_some _ hy
    have moved : ∀ g : Stage, k ≠ .exit → g ≠ .pending → P (s.replaceRecord { y with stage := g }) := by
      intro g hk hg
      refine h.replace y _ hs hm rfl rfl id fun hn => ⟨?_, ((h.zone hs hn).records y hm).1.2⟩
      obtain ⟨hrole, hpast⟩ := hf hn
      have hb := ((h.zone hs hn).records y hm).1.1
      cases k with
      | exit => exact absurd rfl hk
      | entry =>
        have := hpast rfl y hm ht
        simp_all [State.basisOf, Checkpoint.role]
      | feed => simp_all [State.basisOf, Checkpoint.role]
      | outlet => simp_all [State.basisOf, Checkpoint.role]
    cases k with
    | feed => exact h.clearIfMoved (moved _ (by simp) (by simp)) _
    | entry => exact h.reckonExitIfPassed (moved _ (by simp) (by simp)) _
    | exit => exact h.removeRecord hs ..
    | outlet => exact h.departIfMoved (moved _ (by simp) (by simp)) _

theorem trailingEdge (h : Kept near n P) (hs : P s) (k : Checkpoint) (x : Edge)
    (hx : near → (s.eye x.eye).set.function = k.function ∧ (s.eye x.eye).set.enable = true) :
    P (s.trailingEdge k x) := by
  unfold State.trailingEdge
  simp only
  split
  · exact hs
  rename_i r hr
  have past : ∀ y ∈ s.train, s.takesTrail k (s.eye x.eye).set.lane y = true → near → k = .entry → s.Past y.tag := by
    intro y hy hty hn hk
    refine past_of_mem (h.zone hs hn).tags hy ?_
    subst hk
    simp only [State.takesTrail, Record.awaitsTrail, Bool.and_eq_true, beq_iff_eq] at hty
    simp [hty.1.1]
  -- the fold keeps the role, and at the IRONER entry the stages of the records still to come
  have step : ∀ t y, (P t ∧ t.outside = s.outside) ∧
      (near → k = .entry → ∀ z ∈ r :: s.pairedWith r k (s.eye x.eye).set.lane, t.Past z.tag) →
      y ∈ r :: s.pairedWith r k (s.eye x.eye).set.lane →
      (P (t.advanceTrail y k) ∧ (t.advanceTrail y k).outside = s.outside) ∧
      (near → k = .entry → ∀ z ∈ r :: s.pairedWith r k (s.eye x.eye).set.lane, (t.advanceTrail y k).Past z.tag) := by
    intro t y ⟨⟨ht, ho⟩, hp⟩ hy
    refine ⟨⟨h.advanceTrail ht y k fun hn => ⟨?_, fun hk => hp hn hk y hy⟩, by simpa using ho⟩, fun hn hk z hz => ?_⟩
    · obtain ⟨hf, he⟩ := hx hn
      exact (role_of_outside ho).trans (eyeFits_checkpoint ((h.zone hs hn).eyes _ he).1 hf).1
    · subst hk
      exact past_advanceTrail_entry (hp hn rfl z hz) y
  have start : near → k = .entry → ∀ z ∈ r :: s.pairedWith r k (s.eye x.eye).set.lane,
      (s.measured r k x).Past z.tag := by
    intro hn hk z hz
    have hp : s.Past z.tag := by
      obtain rfl | hz := List.mem_cons.mp hz
      · exact past _ (List.mem_of_find?_eq_some hr) (List.find?_some hr) hn hk
      · unfold State.pairedWith at hz
        split at hz
        · simp only [List.mem_filter, Bool.and_eq_true] at hz
          exact past z hz.1 hz.2.2 hn hk
        · cases hz
    subst hk
    exact past_measured_entry hp r x
  have first := step _ r ⟨⟨h.measured hs r k x, by simp⟩, start⟩ (List.mem_cons_self ..)
  exact (List.foldlRecOn (motive := fun t => (P t ∧ t.outside = s.outside) ∧
    (near → k = .entry → ∀ z ∈ r :: s.pairedWith r k (s.eye x.eye).set.lane, t.Past z.tag)) _ _ first
    fun t ht y hy => step t y ht (List.mem_cons_of_mem _ hy)).1.1

theorem edge (h : Kept near n P) (hs : P s) (x : Edge) (hl : s.live = true)
    (hx : near → (s.eye x.eye).set.enable = true ∧ s.Seen n x.snapA x.snapB) : P (s.edge x) := by
  unfold State.edge
  split
  · exact hs
  · rename_i k hk
    have hf := checkpoint_function hk
    split
    · exact h.leadingEdge hs k x hl fun hn => ⟨hf, hx hn⟩
    · exact h.trailingEdge hs k x fun hn => ⟨hf, (hx hn).1⟩

/-! Window closure -/

theorem passOn (h : Kept near n P) (hs : P s) (tag : Tag) (k : Checkpoint) (e : EyeIx)
    (hf : near → ∀ r, s.findRecord tag = some r →
      s.role = some k.role ∧ (r.stage = .pending ↔ k ≠ .exit) ∧ s.eyeAt k r.lane = some e) :
    P (s.passOn tag k e) := by
  unfold State.passOn
  split
  · exact hs
  · rename_i r hr
    obtain ⟨hm, -⟩ := findRecord_some _ hr
    refine h.advanceLead hs hm k _ _ _ fun hn => ?_
    obtain ⟨hrole, hst, he⟩ := hf hn r hr
    obtain ⟨hz, hh⟩ := (h.zone hs hn).records r hm
    refine ⟨hrole, hst, fun _ => ?_, fun _ => ?_⟩
    · rw [(eyeAt_some he).2.2.2, plus_plus_neg]
      exact hz.2
    · have := diff_natAbs_plus (s.pos .b) (s.pos .b) (-(r.h : Int))
      rw [diff_self] at this
      omega

theorem exitDoubleMark (h : Kept near n P) (hs : P s) (r : Record) (k : Checkpoint) : P (s.exitDoubleMark r k) := by
  unfold State.exitDoubleMark
  split
  · exact h.offerOrDrop hs ..
  · exact hs

theorem decideClosure (h : Kept near n P) (hs : P s) {r : Record} {k : Checkpoint} {e : EyeIx} {closing : Pos}
    (hr : s.findRecord r.tag = some r) (hw : s.windowOf r = some (k, e, closing)) :
    P (s.decideClosure r k e closing) := by
  obtain ⟨haw, heye, -⟩ := windowOf_some hw
  obtain ⟨hrole, hst⟩ := awaitsAt_some haw
  unfold State.decideClosure
  split
  · exact h.removeRecord hs ..
  · split
    · refine h.passOn hs r.tag k e fun _ y hy => ?_
      rw [hr] at hy
      obtain rfl := Option.some.inj hy
      exact ⟨hrole, hst, heye⟩
    · rename_i pre _
      have doubled := fun t (ht : P t) tag => h.update ht tag Record.doubled fun _ => ⟨⟨rfl, rfl, rfl, rfl, rfl, rfl⟩, rfl⟩
      refine h.passOn (h.fault _ (h.exitDoubleMark (doubled _ (doubled _ hs pre.tag) r.tag) pre k)) r.tag k e
        fun _ y hy => ?_
      have marked : ∀ t : State, (t.exitDoubleMark pre k).train = t.train ∧ (t.exitDoubleMark pre k).eyes = t.eyes := by
        intro t
        unfold State.exitDoubleMark State.offerOrDrop State.txOverrun
        split
        · obtain ⟨-, ho⟩ | ⟨-, ho⟩ := offer_cases t (.mark pre.tag rejectMark) 0 <;> rw [ho] <;> simp
        · simp
      have found : State.findRecord ((s.updateRecord pre.tag Record.doubled).updateRecord r.tag Record.doubled) r.tag =
          some y := by
        unfold State.findRecord at hy ⊢
        rwa [recordFault_train, (marked _).1] at hy
      rw [findRecord_updateRecord _ _ _ Record.doubled fun _ => rfl,
        findRecord_updateRecord _ _ _ Record.doubled fun _ => rfl, hr] at found
      have same : y.stage = r.stage ∧ y.lane = r.lane := by
        simp only [Option.map_some, Option.some.injEq] at found
        subst found
        split <;> split <;> exact ⟨rfl, rfl⟩
      refine ⟨(role_of_outside (by simp)).trans hrole, by rw [same.1]; exact hst, ?_⟩
      rw [same.2, ← heye]
      simp only [State.eyeAt, State.eye, recordFault_eyes, (marked _).2]
      rfl

theorem closeWindow (h : Kept near n P) (hs : P s) {r : Record} (hr : s.findRecord r.tag = some r) :
    P (s.closeWindow r) := by
  unfold State.closeWindow
  split
  · exact hs
  · rename_i hw
    split
    · exact h.free hs rfl
    · exact h.decideClosure hs hr hw

theorem redecide (h : Kept near n P) (hs : P s) (w : Waiting) : P (s.redecide w) := by
  obtain he | ⟨r, k, e, closing, hr, hw, -, he⟩ := redecide_cases s w <;> rw [he]
  · exact hs
  · exact h.decideClosure hs ((findRecord_some _ hr).2 ▸ hr) hw

theorem missIfClosed (h : Kept near n P) (hs : P s) (tag : Tag) : P (s.missIfClosed tag) := by
  unfold State.missIfClosed
  split
  · exact hs
  · split
    · exact hs
    · split
      · exact h.removeRecord hs ..
      · exact hs

end Kept
end Sys2Proof.Machine
end

section
namespace Sys2Proof.Machine

@[simp] theorem become_set (x : Eye) (l : Level) : (x.become l).set = x.set := by cases l <;> rfl
@[simp] theorem become_candidate (x : Eye) (l : Level) : (x.become l).candidate = none := by cases l <;> rfl
@[simp] theorem retake_set (x : Eye) : x.retake.set = x.set := by
  unfold Eye.retake; split <;> simp
@[simp] theorem retake_candidate (x : Eye) : x.retake.candidate = none := by
  unfold Eye.retake; split <;> simp

@[simp] theorem atForwardStep_set (x : Eye) (first : Bool) (inc : Nat) : (x.atForwardStep first inc).set = x.set := by
  unfold Eye.atForwardStep Eye.advance; split <;> simp

/-- A candidate that a forward step leaves is one the eye held, further persisted (R23). -/
theorem atForwardStep_candidate {x : Eye} {first : Bool} {inc : Nat} {c : Candidate}
    (h : c ∈ (x.atForwardStep first inc).candidate) :
    ∃ y ∈ x.candidate, c.snapA = y.snapA ∧ c.snapB = y.snapB := by
  unfold Eye.atForwardStep Eye.advance at h
  split at h
  · simp at h
  · obtain ⟨y, hy, rfl⟩ := Option.map_eq_some_iff.mp h
    exact ⟨y, hy, rfl, rfl⟩

namespace Kept

variable {near : Prop} {n : Nat} {P : State → Prop} {s : State}

/-! ### The walk: withdrawals, outputs and the follow-up of an event -/

theorem queueHold (h : Kept near n P) (hs : P s) : P s.queueHold := by
  unfold State.queueHold
  split
  · rename_i hd
    have hroom : s.queueRoom = true := by
      simp only [State.holdDue, Bool.and_eq_true] at hd
      exact hd.1.2
    exact h.free (h.push hs (.hold s.holding (if s.holding then s.causes else 0)) 0
      (by simp [State.roomFor, feedClass, hroom])) rfl
  · exact hs

theorem restartPatience (h : Kept near n P) (hs : P s) (g : GateIx) : P (s.restartPatience g) := h.gate _ _ hs rfl

theorem dropOwn (h : Kept near n P) (hs : P s) (g : GateIx) : P (s.dropOwn g) :=
  h.shrink hs rfl List.filter_sublist

theorem queueWithdraw (h : Kept near n P) (hs : P s) (g : GateIx) : P (s.queueWithdraw g) := by
  unfold State.queueWithdraw
  obtain ⟨hr, ho⟩ | ⟨-, ho⟩ := offer_cases s (.withdraw g) 0 <;> rw [ho]
  · exact h.push hs _ _ hr
  · exact h.gate _ _ hs rfl

theorem withdrawEntry (h : Kept near n P) (hs : P s) (g : GateIx) : P (s.withdrawEntry g) := by
  unfold State.withdrawEntry
  split
  · exact hs
  · split
    · exact h.voidReserve (h.dropOwn hs _) _
    · exact h.queueWithdraw (h.dropOwn hs _) _

theorem withdrawSuspended (h : Kept near n P) (hs : P s) : P s.withdrawSuspended :=
  List.foldlRecOn _ _ hs fun _ ht _ _ => h.withdrawEntry ht _

theorem outputsAfresh (h : Kept near n P) (hs : P s) : P s.outputsAfresh :=
  List.foldlRecOn _ _ hs fun _ ht _ _ => h.channel _ _ ht ⟨shown_input .., shown_mode .., shown_owner ..⟩

theorem alertAfresh (h : Kept near n P) (hs : P s) : P s.alertAfresh := h.free hs rfl

theorem refresh (h : Kept near n P) (hs : P s) : P s.refresh :=
  h.alertAfresh (h.outputsAfresh (h.withdrawSuspended (h.withdrawSuspended hs)))

/-! ### The walk: eyes and the events of travel -/

theorem decideWaiting (h : Kept near n P) (hs : P s) (w : Waiting) : P (s.decideWaiting w) := by
  obtain ⟨-, he⟩ | ⟨-, he⟩ := decideWaiting_cases s w <;> rw [he]
  · exact hs
  · exact h.refresh (h.redecide (h.stopWaiting hs _) _)

theorem candidateEnded (h : Kept near n P) (hs : P s) (e : EyeIx) : P (s.candidateEnded e) := by
  unfold State.candidateEnded
  split
  · exact hs
  · exact List.foldlRecOn _ _ hs fun _ ht _ _ => h.decideWaiting ht _

theorem acceptCandidate (h : Kept near n P) (hs : P s) (e : EyeIx) (c : Candidate)
    (hc : (s.eye e).candidate = some c) (he : (s.eye e).set.enable = true) : P (s.acceptCandidate e c) := by
  have h1 : P (s.setEye e ((s.eye e).become c.level)) := h.eye e _ hs (by simp) (by simp)
  unfold State.acceptCandidate
  refine h.candidateEnded ?_ e
  split
  · rename_i hd
    have hl : (s.setEye e ((s.eye e).become c.level)).live = true := by
      simp only [State.delivers, Bool.and_eq_true] at hd
      exact hd.1.1
    refine h.refresh (h.edge h1 (c.edge e) hl fun hn => ⟨?_, (h.zone hs hn).candidates e c hc⟩)
    simp [Candidate.edge, he]
  · exact h1

theorem acceptIfDue (h : Kept near n P) (hs : P s) (e : EyeIx) : P (s.acceptIfDue e) := by
  unfold State.acceptIfDue
  split
  · rename_i c hc
    split
    · rename_i hd
      simp only [State.eyeRuns, Bool.and_eq_true] at hd
      exact h.acceptCandidate hs e c hc hd.1.2
    · exact hs
  · exact hs

theorem startCandidate (h : Kept near n P) (hs : P s) (e : EyeIx) : P (s.startCandidate e) := by
  refine h.acceptIfDue (h.eye e _ hs (by rfl) fun _ c hc => ?_) e
  obtain rfl := Option.some.inj hc
  simp [State.Seen]

theorem filterSample (h : Kept near n P) (hs : P s) (e : EyeIx) : P (s.filterSample e) := by
  unfold State.filterSample
  simp only
  split
  · split
    · exact h.candidateEnded (h.eye e _ hs (by rfl) (by simp)) e
    · exact hs
  · split
    · exact hs
    · exact h.startCandidate hs e

theorem onEyeRawChange (h : Kept near n P) (hs : P s) (e : EyeIx) (high : Bool) : P (s.onEyeRawChange e high) := by
  have h1 := h.acceptIfDue hs e
  have h2 := h.eye e { (s.acceptIfDue e).eye e with pinHigh := high } h1 rfl
    fun hn c hc => (h.zone h1 hn).candidates e c hc
  unfold State.onEyeRawChange
  simp only
  split
  · exact h.refresh (h.filterSample h2 e)
  · exact h2

theorem onEdgeAccepted (h : Kept near n P) (hs : P s) (e : EyeIx) : P (s.onEdgeAccepted e) := by
  unfold State.onEdgeAccepted
  split
  · exact h.refresh (h.acceptIfDue hs e)
  · exact hs

theorem onJam (h : Kept near n P) (hs : P s) (e : EyeIx) : P (s.onJam e) := by
  unfold State.onJam
  split
  · exact h.refresh (h.fault _ (h.eye e _ hs (by rfl) fun hn c hc => (h.zone hs hn).candidates e c hc))
  · exact hs

theorem retireOne (h : Kept near n P) (hs : P s) (c : ChannelIx) : P (s.retireOne c) := by
  unfold State.retireOne
  split
  · exact h.channel _ _ hs ⟨rfl, rfl, rfl⟩
  · exact hs

theorem onPulseRetired (h : Kept near n P) (hs : P s) (c : ChannelIx) : P (s.onPulseRetired c) := by
  unfold State.onPulseRetired
  split
  · exact h.refresh (h.retireOne (h.retireOne hs c) c)
  · exact hs

theorem takeEvent (h : Kept near n P) (hs : P s) {r : Record} (hr : s.findRecord r.tag = some r) (k : TravelEvent) :
    P (s.takeEvent r k) := by
  cases k with
  | closure => exact h.closeWindow hs hr
  | reckoning => exact h.reckon hs (findRecord_some _ hr).1
  | clearance => exact h.removeRecord hs ..
  | departure => exact h.depart hs r

theorem settleTrain (h : Kept near n P) (hs : P s) (m : Nat) : P (s.settleTrain m) := by
  induction m generalizing s with
  | zero => exact hs
  | succ m ih =>
    unfold State.settleTrain
    split
    · exact hs
    · rename_i k r hd
      unfold State.nextDue at hd
      split at hd
      · cases hd
      · obtain ⟨y, hy, hyr⟩ := Option.map_eq_some_iff.mp hd
        cases hyr
        exact ih (h.refresh (h.takeEvent hs ((findRecord_some _ hy).2 ▸ hy) _))

theorem settleMatching (h : Kept near n P) (hs : P s) : P s.settleMatching :=
  h.settleTrain (List.foldlRecOn _ _ hs fun _ ht _ _ => h.onEdgeAccepted ht _) _

theorem dueRecord_found {k : TravelEvent} {tag : Tag} {r : Record} (hd : s.dueRecord k tag = some r) :
    s.findRecord r.tag = some r := by
  unfold State.dueRecord at hd
  split at hd
  · rename_i hf
    split at hd
    · cases hd
      exact (findRecord_some _ hf).2 ▸ hf
    · cases hd
  · cases hd

/-- WINDOW_CLOSURE, DEAD_RECKONING, CLEARED and DEPARTED: an event of a record taken where it is due, and followed up. -/
theorem dueEvent (h : Kept near n P) (hs : P s) (k : TravelEvent) (tag : Tag) :
    P (match s.dueRecord k tag with
      | some r => (s.takeEvent r k).refresh
      | none => s) := by
  split
  · exact h.refresh (h.takeEvent hs (dueRecord_found ‹_›) k)
  · exact hs

theorem stepEye (h : Kept near n P) (hs : P s) (i : TravelInput) (first : Bool) (inc : Nat) (e : EyeIx) :
    P (s.stepEye i first inc e) := by
  have h1 : P (s.setEye e ((s.eye e).atForwardStep first inc)) := h.eye e _ hs (by simp) fun hn c hc => by
    obtain ⟨y, hy, ha, hb⟩ := atForwardStep_candidate hc
    rw [ha, hb]
    exact (h.zone hs hn).candidates e y hy
  unfold State.stepEye
  simp only
  split
  · split
    · exact h.candidateEnded h1 e
    · exact h1
  · exact hs

theorem stepPatience (h : Kept near n P) (hs : P s) (inc : Nat) (g : GateIx) : P (s.stepPatience inc g) := by
  unfold State.stepPatience
  simp only
  split
  · exact h.gate _ _ hs rfl
  · exact hs

end Kept
end Sys2Proof.Machine
end

section
namespace Sys2Proof.Machine

/-- A predicate that survives the elementary changes of the gate, space, bus and port units as well. -/
structure KeptThroughout (near : Prop) (n : Nat) (P : State → Prop) : Prop extends Kept near n P where
  reserve : ∀ {s t : State}, P s → t = { s with reservations := t.reservations } →
    (s.reservations.length ≤ Config.reservationCapacity → t.reservations.length ≤ Config.reservationCapacity) → P t
  mode : ∀ {s t : State}, P s → t = { s with mode := t.mode } → s.mode ≠ .config → t.mode ≠ .config → P t
  faults : ∀ {s t : State}, P s → t = { s with faults := t.faults, overflow := t.overflow } →
    t.faults.length ≤ s.faults.length → t.overflow ≤ s.overflow → P t

/-! ### What the gates know when they commit -/

/-- The state beside what the lot and outlet units change: channels, destinations, lots and faults at their reset values. -/
def State.besideLots (s : State) : State :=
  { s with
    channels := State.reset.channels, dests := State.reset.dests, lots := State.reset.lots, closureList := []
    faults := [], overflow := 0 }

theorem besideLots_kept (b : State) : KeptByLots fun t => t.besideLots = b where
  channel _ _ h _ := h
  dest _ _ h _ := h
  lot _ _ h _ := h
  closures h ht := by rw [ht]; exact h
  fault _ h := by
    unfold State.recordFault
    split <;> exact h

theorem lotAdmit_besideLots (s : State) (t : Tag) (x : Lot) (g : Option GateIx) :
    (s.lotAdmit t x g).1.besideLots = s.besideLots :=
  (besideLots_kept _).lotAdmit rfl ..

theorem lotRemove_besideLots (s : State) (r : Record) (b : Bool) : (s.lotRemove r b).besideLots = s.besideLots :=
  (besideLots_kept _).lotRemove rfl ..

@[simp] theorem handToLots_queue (s : State) (t : Tag) (x : Lot) (g : Option GateIx) :
    (s.handToLots t x g).queue = s.queue := by
  have hb := congrArg State.queue (lotAdmit_besideLots s t x g)
  have hq : (s.lotAdmit t x g).1.queue = s.queue := hb
  unfold State.handToLots
  simp only
  split <;> exact hq

/-- A gate that is not suspended stands in a RUNNING tracker with room in the train and for a feed-class frame (R95). -/
theorem unsuspended {s : State} {g : GateIx} (h : s.suspended g = false) :
    s.mode = .running ∧ s.train.length < Config.trainCapacity ∧ s.feedCount < Config.feedCapacity ∧
      s.travelA.reverse = false := by
  simp only [State.suspended, State.trainFull, Bool.or_eq_false_iff, bne_eq_false_iff_eq,
    decide_eq_false_iff_not, not_le] at h
  obtain ⟨⟨⟨⟨-, hm⟩, ht⟩, hf⟩, hr⟩ := h
  exact ⟨hm, ht, hf, hr⟩

namespace Kept

variable {near : Prop} {n : Nat} {P : State → Prop} {s : State}

/-! ### The walk: space -/

theorem voidQueued (h : Kept near n P) (hs : P s) (g : GateIx) : P (s.voidQueued g) :=
  h.restartPatience (h.voidReserve (h.dropOwn hs g) g) g

theorem withdraw (h : Kept near n P) (hs : P s) (g : GateIx) : P (s.withdraw g) := by
  unfold State.withdraw
  split
  · exact hs
  · exact h.restartPatience (h.withdrawEntry hs g) g

theorem reservationAtCommit (h : Kept near n P) (hs : P s) (g : GateIx) (x : Pos) : P (s.reservationAtCommit g x) := by
  unfold State.reservationAtCommit
  split
  · exact hs
  · split
    · split
      · exact h.voidReserve (h.dropOwn hs g) g
      · exact h.dropOwn hs g
    · exact h.withdrawEntry hs g

theorem noteUndone (h : Kept near n P) (hs : P s) (g : GateIx) : P (s.noteUndone g) := by
  rw [noteUndone_eq]
  exact h.free hs rfl

theorem dropPeer (h : Kept near n P) (hs : P s) (a : Addr) (g : GateIx) : P (s.dropPeer a g) :=
  h.shrink hs rfl List.filter_sublist

theorem voidOverlapped (h : Kept near n P) (hs : P s) (m : Lanes) (a b : Pos) : P (s.voidOverlapped m a b) :=
  List.foldlRecOn _ _ hs fun _ ht _ _ => by
    split
    · exact h.voidQueued ht _
    · exact ht

theorem expireEntry (h : Kept near n P) (hs : P s) (r : Reservation) : P (s.expireEntry r) := by
  unfold State.expireEntry
  split
  · split
    · exact h.voidQueued hs _
    · exact h.restartPatience (h.dropOwn hs _) _
  · exact h.dropPeer hs ..

theorem breakReservations (h : Kept near n P) (hs : P s) (r : Record) : P (s.breakReservations r) :=
  List.foldlRecOn _ _ hs fun _ ht _ _ => h.expireEntry ht _

/-! ### The walk: gates -/

theorem commitAnnounced (h : Kept near n P) (hs : P s) (g : GateIx) (c : Cls) (x : Lot) (m : Nat) (f : Flags)
    (hg : s.suspended g = false) (hq : s.queueRoom = true) : P (s.commitAnnounced g c x m f).1 := by
  obtain ⟨hmode, hlen, hfeed, -⟩ := unsuspended hg
  have added := h.add (s.allocate.2.commitRecord g s.allocate.1 c x m f) (h.allocate hs)
    (freeSerial_free s.train s.ownAddress s.serial hlen) hlen (by simp [State.allocate, hmode])
    (halfWidthFor_ok ..) fun hn => by
      have h1 := (h.zone hs hn).drops g
      have h2 := diff_natAbs_plus (s.pos .a) (s.pos .a) (s.dropWait g)
      rw [diff_self] at h2
      refine ⟨by simp [State.commitRecord, State.basisOf], ?_⟩
      show (diff (Pos.plus (s.pos .a) (s.dropWait g)) (s.pos .a)).natAbs ≤ _
      omega
  unfold State.commitAnnounced
  simp only
  refine h.push (h.handToLots (h.markFresh added _) ..) _ _ ?_
  have queue : ∀ r, (((s.allocate.2.addRecord r).markFresh s.allocate.1).handToLots s.allocate.1 x (some g)).queue =
      s.queue := fun r => handToLots_queue ..
  simp only [State.roomFor, feedClass, if_true, State.feedRoom, State.queueRoom, State.feedCount, queue,
    Bool.and_eq_true, decide_eq_true_eq]
  exact ⟨by simpa [State.queueRoom] using hq, hfeed⟩

theorem requestRelease (h : Kept near n P) (hs : P s) (g : GateIx) (c : Pos) (t : Tag) : P (s.requestRelease g c t) := by
  unfold State.requestRelease
  simp only
  split
  · exact h.request hs ..
  · exact hs

theorem commitItem (h : Kept near n P) (hs : P s) (g : GateIx) (hg : s.suspended g = false)
    (hq : s.queueRoom = true) : P (s.commitItem g) := by
  unfold State.commitItem
  simp only
  split
  · exact hs
  · exact h.gate _ _ (h.reservationAtCommit (h.requestRelease (h.commitAnnounced hs g _ _ _ _ hg hq) ..) ..) rfl

theorem commitSpacer (h : Kept near n P) (hs : P s) (g : GateIx) (hg : s.suspended g = false)
    (hq : s.queueRoom = true) : P (s.commitSpacer g) :=
  h.gate _ _ (h.reservationAtCommit (h.commitAnnounced hs g _ _ _ _ hg hq) ..) rfl

theorem beginSpacer (h : Kept near n P) (hs : P s) (g : GateIx) : P (s.beginSpacer g) := h.gate _ _ hs rfl

theorem queueMark (h : Kept near n P) (hs : P s) (g : GateIx) : P (s.queueMark g) := by
  unfold State.queueMark
  split
  · rename_i m _
    obtain ⟨hr, ho⟩ | ⟨-, ho⟩ := offer_cases s (s.markFrame g m) 0 <;> rw [ho]
    · exact h.gate _ _ (h.push hs _ _ hr) rfl
    · exact hs
  · exact hs

theorem queueMarks (h : Kept near n P) (hs : P s) : P s.queueMarks :=
  List.foldlRecOn _ _ hs fun _ ht _ _ => h.queueMark ht _

theorem applyLotChange (h : Kept near n P) (hs : P s) (g : GateIx) (x : Lot) : P (s.applyLotChange g x) :=
  h.queueMarks (h.gate _ _ hs (by rfl))

theorem applyPendingLot (h : Kept near n P) (hs : P s) (g : GateIx) : P (s.applyPendingLot g) := by
  unfold State.applyPendingLot
  split
  · exact h.applyLotChange (h.gate _ _ hs (by rfl)) ..
  · exact hs

theorem ownLotmarkHeard (h : Kept near n P) (hs : P s) (f : LotMarkFrame) : P (s.ownLotmarkHeard f) := by
  unfold State.ownLotmarkHeard
  simp only
  split
  · split
    · exact h.gate _ _ hs rfl
    · exact hs
  · exact hs

theorem endRelease (h : Kept near n P) (hs : P s) (g : GateIx) : P (s.endRelease g) :=
  h.applyPendingLot (h.gate _ _ hs (by rfl)) _

theorem cancelRelease (h : Kept near n P) (hs : P s) (g : GateIx) (r : Release) : P (s.cancelRelease g r) := by
  have h1 : P (s.cancelRecord g r.tag) := by
    unfold State.cancelRecord
    split
    · exact h.removeRecord hs ..
    · exact hs
  unfold State.cancelRelease
  simp only
  split
  · exact h.applyPendingLot (h.gate _ _ h1 (by rfl)) _
  · exact h.gate _ _ h1 rfl

theorem stopRelease (h : Kept near n P) (hs : P s) (g : GateIx) (r : Release) : P (s.stopRelease g r) :=
  h.fault _ (h.endRelease hs g)

theorem settleRelease (h : Kept near n P) (hs : P s) (g : GateIx) : P (s.settleRelease g) := by
  unfold State.settleRelease
  split
  · split
    · split
      · exact h.stopRelease hs ..
      · exact h.cancelRelease hs ..
    · split
      · exact h.stopRelease hs ..
      · have ha := fun c t => h.abort hs c t
        simp only
        split
        · exact h.cancelRelease (ha ..) ..
        · exact h.stopRelease (ha ..) ..
  · exact hs

/-! ### The walk: the events of gates and reservations -/

theorem onGateCommit (h : Kept near n P) (hs : P s) (g : GateIx) : P (s.onGateCommit g) := by
  unfold State.onGateCommit
  split
  · rename_i hc
    simp only [State.canCommit, Bool.and_eq_true, Bool.not_eq_true'] at hc
    exact h.refresh (h.commitItem hs g hc.1.1.1.2 hc.1.2)
  · exact hs

theorem onSpacerCommit (h : Kept near n P) (hs : P s) (g : GateIx) : P (s.onSpacerCommit g) := by
  unfold State.onSpacerCommit
  split
  · rename_i hc
    simp only [State.canSpacer, Bool.and_eq_true, Bool.not_eq_true'] at hc
    exact h.refresh (h.commitSpacer hs g hc.1.1.1.2 hc.1.2)
  · exact hs

theorem onSpacerBegun (h : Kept near n P) (hs : P s) (g : GateIx) : P (s.onSpacerBegun g) := by
  unfold State.onSpacerBegun
  split
  · exact h.beginSpacer hs g
  · exact hs

theorem onReleaseEnd (h : Kept near n P) (hs : P s) (g : GateIx) : P (s.onReleaseEnd g) := by
  unfold State.onReleaseEnd
  split
  · exact h.refresh (h.endRelease hs g)
  · exact hs

theorem onPatienceReached (h : Kept near n P) (hs : P s) (g : GateIx) : P (s.onPatienceReached g) := by
  unfold State.onPatienceReached
  split
  · exact h.gate _ _ hs rfl
  · exact hs

theorem onReservationVoid (h : Kept near n P) (hs : P s) (g : GateIx) : P (s.onReservationVoid g) := by
  unfold State.onReservationVoid
  split
  · exact h.refresh (h.voidQueued hs g)
  · exact hs

theorem onReservationWithdrawn (h : Kept near n P) (hs : P s) (g : GateIx) : P (s.onReservationWithdrawn g) := by
  unfold State.onReservationWithdrawn
  split
  · exact h.refresh (h.withdraw hs g)
  · exact hs

theorem onReservationExpiry (h : Kept near n P) (hs : P s) (a : Addr) (g : GateIx) : P (s.onReservationExpiry a g) := by
  unfold State.onReservationExpiry
  split
  · exact h.refresh (h.expireEntry hs _)
  · exact hs

theorem onLotmarkQueued (h : Kept near n P) (hs : P s) (g : GateIx) : P (s.onLotmarkQueued g) := by
  unfold State.onLotmarkQueued
  split
  · exact h.refresh (h.queueMark hs g)
  · exact hs

theorem onWithdrawQueued (h : Kept near n P) (hs : P s) (g : GateIx) : P (s.onWithdrawQueued g) := by
  unfold State.onWithdrawQueued
  split
  · rename_i hd
    simp only [State.withdrawDue, Bool.and_eq_true] at hd
    exact h.refresh (h.push (h.gate g { s.gate g with withdrawPending := false } hs rfl) _ _ hd.2)
  · exact hs

theorem onHoldQueued (h : Kept near n P) (hs : P s) : P s.onHoldQueued := by
  unfold State.onHoldQueued
  split
  · exact h.refresh (h.queueHold hs)
  · exact hs

theorem beginSpacers (h : Kept near n P) (hs : P s) : P s.beginSpacers :=
  List.foldlRecOn _ _ hs fun _ ht _ _ => h.onSpacerBegun ht _

theorem voidReached (h : Kept near n P) (hs : P s) : P s.voidReached :=
  List.foldlRecOn _ _ hs fun _ ht _ _ => h.onReservationVoid ht _

end Kept

namespace KeptThroughout

variable {near : Prop} {n : Nat} {P : State → Prop} {s : State}

theorem sendReservation (h : KeptThroughout near n P) (hs : P s) (g : GateIx) (hc : s.canReserve g = true) :
    P (s.sendReservation g) := by
  simp only [State.canReserve, Bool.and_eq_true, decide_eq_true_eq] at hc
  obtain ⟨⟨⟨-, hr⟩, hroom⟩, -⟩ := hc
  unfold State.sendReservation
  refine h.push (h.reserve hs rfl fun _ => ?_) _ _ hroom
  simp only [List.length_append, List.length_singleton]
  omega

theorem onReservationSent (h : KeptThroughout near n P) (hs : P s) (g : GateIx) : P (s.onReservationSent g) := by
  unfold State.onReservationSent
  split
  · rename_i hc
    simp only [Bool.and_eq_true] at hc
    exact h.noteUndone (h.refresh (h.sendReservation hs g hc.1)) g
  · exact hs

/-! ### The walk: settling -/

theorem gateRound (h : KeptThroughout near n P) (hs : P s) : P s.gateRound := by
  have h1 : P (gateIxs.foldl State.settleGate s) := List.foldlRecOn _ _ hs fun _ ht _ _ =>
    h.onReservationSent (h.onSpacerCommit (h.onGateCommit ht _) _) _
  have h2 := List.foldlRecOn gateIxs State.onReservationWithdrawn h1 fun _ ht g _ => h.onReservationWithdrawn ht g
  have h3 := List.foldlRecOn gateIxs State.onLotmarkQueued h2 fun _ ht g _ => h.onLotmarkQueued ht g
  have h4 := List.foldlRecOn gateIxs State.onWithdrawQueued h3 fun _ ht g _ => h.onWithdrawQueued ht g
  unfold State.gateRound
  exact h4

theorem settleGates (h : KeptThroughout near n P) (hs : P s) (m : Nat) : P (s.settleGates m) := by
  induction m generalizing s with
  | zero => exact hs
  | succ m ih =>
    unfold State.settleGates
    split
    · exact ih (h.gateRound hs)
    · exact hs

/-- Everything due is taken (assumption log 3), and the predicate is kept throughout. -/
theorem settle (h : KeptThroughout near n P) (hs : P s) : P s.settle := by
  have h1 := List.foldlRecOn eyeIxs State.onEdgeAccepted hs fun _ ht e _ => h.onEdgeAccepted ht e
  have h2 := List.foldlRecOn channelIxs State.onPulseRetired h1 fun _ ht c _ => h.onPulseRetired ht c
  have h3 := List.foldlRecOn eyeIxs State.onJam h2 fun _ ht e _ => h.onJam ht e
  have h4 := h.settleTrain h3 trainEventLimit
  have h5 := List.foldlRecOn gateIxs State.onReleaseEnd h4 fun _ ht g _ => h.onReleaseEnd ht g
  have h6 := List.foldlRecOn gateIxs State.onPatienceReached (h.beginSpacers h5) fun _ ht g _ => h.onPatienceReached ht g
  have h7 := h.voidReached h6
  have h8 : P (State.settleExpiries _) := List.foldlRecOn _ _ h7 fun _ ht r _ => h.onReservationExpiry ht r.reserver r.gate
  have h9 := h.settleGates h8 gateRoundLimit
  unfold State.settle
  exact h.onHoldQueued h9

end KeptThroughout
end Sys2Proof.Machine
end

section
namespace Sys2Proof.Machine

/-! ### The queue at an attempt (R179 to R183, R187) -/

theorem QueueFits.tail {q : TxFrame} {rest : List TxFrame} (h : QueueFits (q :: rest)) : QueueFits rest := by
  obtain ⟨hlen, hfeed, htail, horphan⟩ := h
  rw [List.countP_cons] at hfeed
  rw [List.length_cons] at hlen
  exact ⟨by omega, by omega, fun x hx => htail x (List.mem_of_mem_tail hx),
    fun x hx => horphan x (List.mem_cons_of_mem _ hx)⟩

/-- A head frame changed by its attempt keeps the bounds of the queue, where its class stays and no orphan is left waiting. -/
theorem QueueFits.head {q : TxFrame} {rest : List TxFrame} (h : QueueFits (q :: rest)) (y : TxFrame)
    (hc : feedClass y.frame = feedClass q.frame) (ho : y.orphan = true → y.underWay = true) :
    QueueFits (y :: rest) := by
  obtain ⟨hlen, hfeed, htail, horphan⟩ := h
  refine ⟨hlen, ?_, htail, fun x hx => ?_⟩
  · rw [List.countP_cons] at hfeed ⊢
    rwa [hc]
  · obtain rfl | hx := List.mem_cons.mp hx
    · exact ho
    · exact horphan x (List.mem_cons_of_mem _ hx)

/-- A frame of no class of a gate in place of one that has left the head. -/
theorem QueueFits.requeue {q : TxFrame} {rest : List TxFrame} (h : QueueFits (q :: rest)) (f : Frame)
    (hf : feedClass f = false) (p : Pos) : QueueFits (rest ++ [TxFrame.new f p]) := by
  have hroom : State.roomFor { State.reset with queue := rest } f = true := by
    have := h.1
    simp only [List.length_cons, Config.queueCapacity] at this
    simp only [State.roomFor, hf, State.queueRoom, Config.queueCapacity]
    exact decide_eq_true (by omega)
  exact push_fits hroom p h.tail

theorem filledFrame_feedClass (s : State) (q : TxFrame) : feedClass (s.filledFrame q) = feedClass q.frame := by
  unfold State.filledFrame
  split
  · simp_all [feedClass]
  · simp_all [feedClass]
  · split <;> simp_all [feedClass]
  · rfl

theorem recordFault_queue_comm (s : State) (f : FaultRecord) (q : List TxFrame) :
    State.recordFault { s with queue := q } f = { s.recordFault f with queue := q } := by
  unfold State.recordFault
  split <;> rfl

theorem unverify_sameSpot (r : Record) : r.unverify.SameSpot r ∧ (HalfOk r.h → HalfOk r.unverify.h) := by
  refine ⟨⟨rfl, rfl, rfl, rfl, rfl, rfl⟩, fun h => ?_⟩
  unfold Record.unverify
  simp only
  split
  · exact h
  · exact clampHalf_ok _

theorem serving_of_live {s : State} (h : s.live = true) : s.mode ≠ .config := by
  intro hm
  simp [State.live, hm] at h

namespace Kept

variable {near : Prop} {n : Nat} {P : State → Prop} {s : State}

theorem attemptEnded (h : Kept near n P) (hs : P s) : P s.attemptEnded := by
  unfold State.attemptEnded
  split
  · exact hs
  · rename_i q rest hq
    have gone : P { s with queue := rest } := h.queue hs rfl fun hf => (hq ▸ hf).tail
    split
    · exact hs
    · split
      · split
        · exact h.free gone rfl
        · exact gone
      · rename_i ho
        split
        · exact gone
        · exact h.queue hs rfl fun hf => (hq ▸ hf).head _ rfl fun h' => absurd h' ho

theorem respond (h : Kept near n P) (hs : P s) (r : Result) (d : List MaskedByte) : P (s.respond r d) := h.free hs rfl

theorem updateWatch (h : Kept near n P) (hs : P s) (a : Addr) (f : WatchEntry → WatchEntry)
    (hf : ∀ w, (f w).address = w.address ∧ (f w).offset = w.offset ∧
      (w.credits ≤ Config.creditLimit → (f w).credits ≤ Config.creditLimit)) : P (s.updateWatch a f) := by
  refine h.watch hs rfl ?_ fun hc w hw => ?_
  · simp only [State.updateWatch, List.map_map]
    refine List.map_congr_left fun w _ => ?_
    simp only [Function.comp]
    split
    · rw [(hf w).1, (hf w).2.1]
    · rfl
  · obtain ⟨x, hx, rfl⟩ := List.mem_map.mp hw
    split
    · exact (hf x).2.2 (hc x hx)
    · exact hc x hx

theorem sequenceCheck (h : Kept near n P) (hs : P s) (w : WatchEntry) (q : Seq) (t : Tag) :
    P (s.sequenceCheck w q t) := by
  have h1 := h.updateWatch hs w.address (fun x => x.checked q) fun x => ⟨rfl, rfl, fun _ => Nat.min_le_left ..⟩
  unfold State.sequenceCheck
  split
  · exact hs
  · simp only
    split
    · exact h.fault _ h1
    · exact h1

/-! ### The walk: reception -/

theorem takeIn (h : Kept near n P) (hs : P s) (r : Record) (hl : s.live = true)
    (ht : ∀ x ∈ s.train, x.tag ≠ r.tag) (hlen : s.train.length < Config.trainCapacity) (hh : HalfOk r.h)
    (hz : near → s.InZone n r) : P (s.takeIn r) := by
  have h1 := h.handToLots (h.add r hs ht hlen (serving_of_live hl) hh hz) r.tag r.lot r.gate
  have h2 : ∀ f, P (if r.flags.lateAnnounce then ((s.addRecord r).handToLots r.tag r.lot r.gate).recordFault f
      else (s.addRecord r).handToLots r.tag r.lot r.gate) := fun f => by
    split
    · exact h.fault _ h1
    · exact h1
  unfold State.takeIn
  refine h.clearIfPassed (h.reckonIfPassed (h.missIfClosed ?_ _) _) _
  split
  · exact h.breakReservations (h2 _) r
  · exact h2 _

theorem testedAdmission (h : Kept near n P) (hs : P s) (offset : Int) (lot : Lot) (lanes : Lanes) (r : Record)
    (hl : s.live = true) (hh : HalfOk r.h) (hz : near → s.InZone n r) :
    P (s.testedAdmission offset r.tag lot lanes r) := by
  unfold State.testedAdmission
  split
  · exact hs
  · split
    · exact h.fault _ hs
    · rename_i hdup
      split
      · exact h.fault _ hs
      · rename_i hfull
        split
        · exact hs
        · refine h.takeIn hs r hl (fun x hx ht => hdup ?_) (by simpa [State.trainFull] using hfull) hh hz
          exact List.any_eq_true.mpr ⟨x, hx, by simpa using ht⟩

/-- An announced crossing lies within the watch offset and the field of the receiver's position (R11). -/
theorem announced_near {s : State} {offset : Int} (ho : offset.natAbs ≤ 32000) (field : BitVec 13) (r : Record)
    (hb : r.basis = .a) (hst : r.stage = .pending) (n : Nat) : s.InZone n (s.announcedRecord offset field r) := by
  have hf : -4096 ≤ field.toInt ∧ field.toInt ≤ 4095 := by
    have h1 := field.le_toInt
    have h2 := field.toInt_lt
    omega
  have h1 := diff_natAbs_plus (s.pos .a) (s.pos .a) (offset - field.toInt)
  rw [diff_self] at h1
  refine ⟨by simp [State.announcedRecord, State.basisOf, hb, hst], ?_⟩
  show (diff (Pos.plus (s.pos .a) (offset - field.toInt)) (s.pos r.basis)).natAbs ≤ _
  rw [hb]
  omega

theorem watchOf_near (h : Kept near n P) (hs : P s) {a : Addr} {w : WatchEntry} (hw : s.watchOf a = some w) (hn : near) :
    w.offset.natAbs ≤ 32000 :=
  (h.zone hs hn).watch w (List.mem_of_find?_eq_some hw)

theorem takeRelease (h : Kept near n P) (hs : P s) (a : Addr) (f : ReleaseFrame) : P (s.takeRelease a f) := by
  unfold State.takeRelease
  split
  · exact hs
  · rename_i w hw
    have h1 := h.sequenceCheck hs w f.seq f.tag
    simp only
    split
    · rename_i hl
      simp only [Bool.and_eq_true] at hl
      exact h.testedAdmission h1 w.offset f.lot f.lanes
        ((s.sequenceCheck w f.seq f.tag).announcedRecord w.offset f.offset (releaseRecord f)) hl.1 (halfWidthFor_ok ..)
        fun hn => announced_near (h.watchOf_near hs hw hn) _ _ rfl rfl n
    · exact h1

theorem takeHandoff (h : Kept near n P) (hs : P s) (a : Addr) (f : HandoffFrame) : P (s.takeHandoff a f) := by
  unfold State.takeHandoff
  split
  · exact hs
  · rename_i w hw
    have h1 := h.sequenceCheck hs w f.seq f.tag
    simp only
    split
    · rename_i hl
      simp only [Bool.and_eq_true] at hl
      exact h.testedAdmission h1 w.offset f.lot f.lanes
        ((s.sequenceCheck w f.seq f.tag).announcedRecord w.offset f.offset (handoffRecord f)) hl.1 (halfWidthFor_ok ..)
        fun hn => announced_near (h.watchOf_near hs hw hn) _ _ rfl rfl n
    · exact h1

theorem takeLost (h : Kept near n P) (hs : P s) (t : Tag) : P (s.takeLost t) := by
  unfold State.takeLost
  split
  · split
    · exact h.removeRecord hs ..
    · exact hs
  · exact hs

theorem takeMark (h : Kept near n P) (hs : P s) (t : Tag) (m : Byte) : P (s.takeMark t m) := by
  unfold State.takeMark
  split
  · exact h.markReject hs t
  · exact hs

theorem takeJoin (h : Kept near n P) (hs : P s) (a : Addr) (role format : Byte) : P (s.takeJoin a role format) := by
  unfold State.takeJoin
  split
  · exact hs
  · have h1 : P { s.setHolder a none with lastJoin := some { address := a, role := role, format := format } } :=
      h.free hs rfl
    have h2 : P { s.setHolder a none with
        lastJoin := some { address := a, role := role, format := format }
        reservations := s.reservations.filter fun r => r.reserver != a } := h.shrink h1 rfl List.filter_sublist
    have h3 := h.updateWatch h2 a (fun w => { w with expected := none, credits := 0 })
      fun _ => ⟨rfl, rfl, fun _ => Nat.zero_le _⟩
    simp only
    split
    · exact h.free h3 rfl
    · exact h3

end Kept

/-! ### What only shrinks -/

/-- The eye, train, outlet, transit and space units make no reservation: entries only leave the list (R114). -/
theorem reservationsShrink (l : List Reservation) : Kept False 0 fun t => t.reservations.Sublist l where
  channel _ _ h _ := h
  dest _ _ h _ := h
  lot _ _ h _ := h
  closures h ht := by rw [ht]; exact h
  fault _ h := by
    unfold State.recordFault
    split <;> exact h
  zone _ h := h.elim
  free h ht := by
    have := congrArg State.reservations ht
    exact (show _ = _ from this) ▸ h
  eye _ _ h _ _ := h
  gate _ _ h _ := h
  queue h ht _ := by rw [ht]; exact h
  watch h ht _ _ := by rw [ht]; exact h
  shrink h _ hl := hl.trans h
  slip h ht _ _ := by rw [ht]; exact h
  map _ h ht _ := by rw [ht]; exact h
  replace _ _ h _ _ _ _ _ := h
  add _ h _ _ _ _ _ := h
  takeOut _ h := h

namespace KeptThroughout

variable {near : Prop} {n : Nat} {P : State → Prop} {s : State}

theorem peerReserve (h : KeptThroughout near n P) (hs : P s) (a : Addr) (o : Int) (f : ReserveFrame) :
    P (s.peerReserve a o f) := by
  have h1 := h.dropPeer hs a f.gate
  unfold State.peerReserve
  dsimp only
  split
  · exact h1
  · split
    · exact h1
    · split
      · exact h1
      · rename_i hlen
        refine h.reserve (h.voidOverlapped h1 _ _ _) rfl fun _ => ?_
        have := ((reservationsShrink _).voidOverlapped (s := s.dropPeer a f.gate) (List.Sublist.refl _) f.lanes
          (Pos.plus (s.pos .a) (f.lead.toNat + o))
          (Pos.plus (Pos.plus (s.pos .a) (f.lead.toNat + o)) f.length.toNat)).length_le
        rw [List.length_append, List.length_singleton]
        omega

end KeptThroughout
end Sys2Proof.Machine
end

section
namespace Sys2Proof.Machine

namespace Kept

variable {near : Prop} {n : Nat} {P : State → Prop} {s : State}

/-! ### The walk: the bus -/

/-- A frame has been heard or an attempt has ended: the bus is not idle. -/
theorem busy (h : Kept near n P) (hs : P s) : P { s with busIdle := false } := h.free hs rfl

theorem startAttempt (h : Kept near n P) (hs : P s) : P s.startAttempt := by
  unfold State.startAttempt
  split
  · exact hs
  · rename_i q rest hq
    have h1 : P { s with queue := { q with
        frame := s.filledFrame q, sender := s.ownAddress, underWay := true, stamped := takesSequence q.frame } :: rest } :=
      h.queue hs rfl fun hf => (hq ▸ hf).head _ (filledFrame_feedClass s q) fun _ => rfl
    exact h.free h1 rfl

theorem onTxAttemptStart (h : Kept near n P) (hs : P s) : P s.onTxAttemptStart := by
  unfold State.onTxAttemptStart
  split
  · exact h.startAttempt (h.voidReached hs)
  · exact hs

theorem onArbitrationLost (h : Kept near n P) (hs : P s) : P s.onArbitrationLost := by
  unfold State.onArbitrationLost
  split
  · exact h.refresh (h.busy (h.attemptEnded hs))
  · exact hs

/-- What an owner does with an abandoned frame; a JOIN is queued again in the place it has left. -/
theorem handBack (h : Kept near n P) (hs : P s) (f : Frame) (hf : ∀ a b, f ≠ .join a b) : P (s.handBack f) := by
  unfold State.handBack
  split
  · split
    · exact h.queueMarks (h.gate _ _ hs rfl)
    · exact hs
  · split
    · split
      · exact h.restartPatience (h.dropOwn hs _) _
      · exact hs
    · exact hs
  · split
    · exact hs
    · exact h.free hs rfl
  · exact absurd rfl (hf _ _)
  · exact hs

theorem handBack_join (s : State) (a b : Byte) : s.handBack (.join a b) =
    if s.mode = .joining then { s.push (.join a b) 0 with announced := false } else s := rfl

theorem failAttempt (h : Kept near n P) (hs : P s) : P s.failAttempt := by
  unfold State.failAttempt
  split
  · exact hs
  · rename_i q rest hq
    split
    · exact h.attemptEnded hs
    · rename_i hold
      split
      · have gone : P ({ s with queue := rest }.abandonedFault q.frame) :=
          h.fault _ (h.queue hs rfl fun hf => (hq ▸ hf).tail)
        by_cases hj : ∃ a b, q.frame = .join a b
        · obtain ⟨a, b, hj⟩ := hj
          rw [hj] at gone ⊢
          have comm : { s with queue := rest }.abandonedFault (.join a b) =
              { s.abandonedFault (.join a b) with queue := rest } := recordFault_queue_comm ..
          have whole : (s.abandonedFault (.join a b)).queue = q :: rest := by
            unfold State.abandonedFault State.recordFault
            split <;> exact hq
          have back : P { s.abandonedFault (.join a b) with queue := rest ++ [TxFrame.new (.join a b) 0] } :=
            h.queue (h.fault _ hs) rfl fun hf => (whole ▸ hf).requeue _ rfl 0
          rw [handBack_join]
          split
          · rw [comm]
            exact h.free back rfl
          · exact gone
        · exact h.handBack gone _ fun a b hab => hj ⟨a, b, hab⟩
      · exact h.queue hs rfl fun hf => (hq ▸ hf).head _ rfl fun ho => absurd (by
          have ho' : q.orphan = true := ho
          simp [ho']) hold

theorem onBusError (h : Kept near n P) (hs : P s) : P s.onBusError := by
  unfold State.onBusError
  split
  · exact h.refresh (h.busy (h.failAttempt hs))
  · exact hs

theorem onBusIdle (h : Kept near n P) (hs : P s) : P s.onBusIdle := by
  unfold State.onBusIdle
  split
  · exact hs
  · exact h.free hs rfl

theorem takeHold (h : Kept near n P) (hs : P s) (a : Addr) (on : Bool) (reason : BitVec 5) :
    P (s.takeHold a on reason) := by
  unfold State.takeHold
  split
  · exact hs
  · exact h.free hs rfl

theorem takeWithdraw (h : Kept near n P) (hs : P s) (a : Addr) (g : GateIx) : P (s.takeWithdraw a g) := by
  unfold State.takeWithdraw
  split
  · split
    · exact h.dropPeer hs a g
    · exact hs
  · exact hs

end Kept

namespace KeptThroughout

variable {near : Prop} {n : Nat} {P : State → Prop} {s : State}

theorem takeReserve (h : KeptThroughout near n P) (hs : P s) (a : Addr) (f : ReserveFrame) : P (s.takeReserve a f) := by
  unfold State.takeReserve
  split
  · split
    · exact h.peerReserve hs a _ f
    · exact hs
  · exact hs

theorem handOn (h : KeptThroughout near n P) (hs : P s) (a : Addr) (f : Frame) : P (s.handOn a f) := by
  cases f with
  | hold on reason => exact h.takeHold hs a on reason
  | lost t cause => exact h.takeLost hs t
  | mark t m => exact h.takeMark hs t m
  | handoff f => exact h.takeHandoff hs a f
  | release f => exact h.takeRelease hs a f
  | reserve f => exact h.takeReserve hs a f
  | withdraw g => exact h.takeWithdraw hs a g
  | lotmark f => exact h.lotMarked hs a f
  | join role format => exact h.takeJoin hs a role format

theorem enterConflict (h : KeptThroughout near n P) (hs : P s) (hm : s.mode ≠ .config) : P s.enterConflict := by
  unfold State.enterConflict
  have h1 : P { s with mode := .conflict } := h.mode hs rfl hm (by simp)
  have h2 : P { s with mode := .conflict, settling := none } := h.free h1 rfl
  exact h.fault _ h2

theorem accept (h : KeptThroughout near n P) (hs : P s) (a : Addr) (f : Frame) : P (s.accept a f) := by
  have h1 := h.busy (h.attemptEnded hs)
  unfold State.accept
  simp only
  split
  · exact h1
  · rename_i hm
    split
    · exact h.refresh (h.enterConflict h1 hm)
    · exact h.refresh (h.handOn h1 a f)

theorem discardedFrame (h : KeptThroughout near n P) (hs : P s) {bits : List Bool} {t : State}
    (ht : execDiscardedFrame bits s = .next t) : P t := by
  unfold execDiscardedFrame at ht
  split at ht
  · cases ht
    exact h.busy (h.attemptEnded hs)
  · cases ht
    exact h.accept hs ..

theorem endJoining (h : KeptThroughout near n P) (hs : P s) : P s.endJoining := by
  unfold State.endJoining
  split
  · rename_i hm _
    split
    · have h1 : P { s with mode := if s.stopPin then .stopped else .running } := by
        refine h.mode hs rfl (by simp [hm]) ?_
        show (if s.stopPin then TrackerState.stopped else .running) ≠ .config
        split <;> simp
      exact h.free h1 rfl
    · exact hs
  · exact hs

theorem ownJoinHeard (h : KeptThroughout near n P) (hs : P s) : P s.ownJoinHeard := by
  unfold State.ownJoinHeard
  exact h.endJoining (h.free hs rfl)

theorem ownReserveHeard (h : KeptThroughout near n P) (hs : P s) (g : GateIx) : P (s.ownReserveHeard g) := by
  have h1 : P (s.standOwn g) := h.reserve hs rfl fun hl => by
    simpa only [State.standOwn, List.length_map] using hl
  unfold State.ownReserveHeard
  split
  · exact h.queueWithdraw hs g
  · split
    · exact h.queueWithdraw hs g
    · split
      · exact h.restartPatience (h.queueWithdraw (h.dropOwn hs g) g) g
      · dsimp only
        split
        · exact h.withdraw h1 g
        · exact h1

theorem ownHeard (h : KeptThroughout near n P) (hs : P s) (f : Frame) : P (s.ownHeard f) := by
  unfold State.ownHeard
  split
  · exact h.takeLost hs _
  · exact h.takeMark hs _ _
  · split
    · exact h.ownReserveHeard hs _
    · exact hs
  · exact h.ownLotmarkHeard (h.lotMarked hs _ _) _
  · exact h.ownJoinHeard hs
  · exact hs

theorem onTxComplete (h : KeptThroughout near n P) (hs : P s) : P s.onTxComplete := by
  unfold State.onTxComplete
  split
  · exact hs
  · rename_i q rest hq
    split
    · exact hs
    · have gone : P { s with queue := rest, busIdle := false } :=
        h.free (h.queue hs rfl fun hf => (hq ▸ hf).tail : P { s with queue := rest }) rfl
      simp only
      split
      · exact h.refresh gone
      · exact h.refresh (h.ownHeard gone q.frame)

/-! ### The walk: the control unit -/

theorem onStopAsserted (h : KeptThroughout near n P) (hs : P s) : P s.onStopAsserted := by
  have h1 : P { s with stopPin := true } := h.free hs rfl
  unfold State.onStopAsserted
  dsimp only
  split
  · rename_i hm
    have h2 := h.beginSpacers h1
    have h3 : P { State.beginSpacers { s with stopPin := true } with mode := .stopped } :=
      h.mode h2 rfl (by simp [mode_of_outside (beginSpacers_outside _), hm]) (by simp)
    exact h.refresh (List.foldlRecOn _ _ h3 fun _ ht _ _ => h.settleRelease ht _)
  · exact h1

theorem onStopReleased (h : KeptThroughout near n P) (hs : P s) : P s.onStopReleased := by
  have h1 : P { s with stopPin := false } := h.free hs rfl
  unfold State.onStopReleased
  dsimp only
  split
  · rename_i hm
    have h2 := h.settleMatching h1
    have hm2 : (State.settleMatching { s with stopPin := false }).mode ≠ .config := by
      simp [mode_of_outside (settleMatching_outside _), hm]
    generalize State.settleMatching { s with stopPin := false } = u at h2 hm2 ⊢
    have h3 : P { u with mode := .running } := h.mode h2 rfl hm2 (by simp)
    have h4 : P { u with mode := .running, train := u.train.map Record.unverify } :=
      h.map Record.unverify h3 rfl fun r => unverify_sameSpot r
    exact h.refresh (h.free h4 rfl)
  · exact h1

theorem onSettleTimer (h : KeptThroughout near n P) (hs : P s) : P s.onSettleTimer := by
  unfold State.onSettleTimer
  split
  · split
    · exact hs
    · exact h.refresh (h.endJoining (h.free hs rfl))
  · exact hs

end KeptThroughout
end Sys2Proof.Machine
end

section
namespace Sys2Proof.Machine

namespace Kept

variable {near : Prop} {n : Nat} {P : State → Prop} {s : State}

/-! ### The walk: the port -/

/-- An answer after what follows every event. -/
theorem answered (h : Kept near n P) (hs : P s) (r : Result) (d : List MaskedByte := []) :
    P (s.refresh.respond r d) := h.respond (h.refresh hs) r d

theorem transactionCut (h : Kept near n P) (hs : P s) (x : Cut) : P (s.onTransactionCut x) := by
  cases x with
  | command => exact hs
  | response k => exact h.free hs rfl

theorem unknownCommand (h : Kept near n P) (hs : P s) (b : Byte) : P (s.onUnknownCommand b) := by
  unfold State.onUnknownCommand
  split
  · exact h.respond hs ..
  · exact hs

theorem descriptorRead (h : Kept near n P) (hs : P s) (i : ItemId) : P (s.onDescriptorRead i) := by
  unfold State.onDescriptorRead
  split <;> exact h.respond hs ..

theorem gateCommand (h : Kept near n P) (hs : P s) (b : Byte) {take : GateIx → State} (ht : ∀ g, P (take g)) :
    P (s.gateCommand b take) := by
  unfold State.gateCommand
  split
  · exact h.respond hs ..
  · split
    · exact h.respond hs ..
    · exact ht _

theorem loadGate (h : Kept near n P) (hs : P s) (k : Byte) (g : GateIx) : P (s.loadGate k g) := by
  unfold State.loadGate
  split
  · exact h.respond hs ..
  · split
    · exact h.answered (h.gate g _ hs (by rfl)) _
    · exact h.respond hs ..

theorem unloadGate (h : Kept near n P) (hs : P s) (g : GateIx) : P (s.unloadGate g) := by
  unfold State.unloadGate
  split
  · exact h.answered (h.applyPendingLot (h.withdraw (h.gate g { s.gate g with state := .empty, cls := none } hs rfl) g) g) _
  · exact h.respond hs ..

theorem setHoldFlag (h : Kept near n P) (hs : P s) (g : GateIx) : P (s.setHoldFlag g) := by
  unfold State.setHoldFlag
  refine h.answered (h.gate g _ hs ?_) _
  split <;> rfl

theorem changeLot (h : Kept near n P) (hs : P s) (x : Lot) (g : GateIx) : P (s.changeLot x g) := by
  unfold State.changeLot
  dsimp only
  split
  · exact h.respond hs ..
  · split
    · exact h.respond hs ..
    · split
      · split
        · exact h.respond hs ..
        · exact h.answered (h.applyLotChange hs g x) _
      · exact h.respond hs ..
      · exact h.respond (h.gate g _ hs (by rfl)) ..

theorem rejectNextExit (h : Kept near n P) (hs : P s) : P s.rejectNextExit := by
  unfold State.rejectNextExit
  split
  · exact h.respond hs ..
  · split
    · exact h.respond (h.free hs rfl : P { s with exitRejectNext := true }) ..
    · exact h.respond hs ..

theorem rejectTag (h : Kept near n P) (hs : P s) (t : Tag) : P (s.onRejectTag t) := by
  unfold State.onRejectTag
  split
  · exact h.respond hs ..
  · exact h.answered (h.offerOrDrop (h.markReject hs t) ..) _

/-! ### The walk: reads -/

theorem readTrain (h : Kept near n P) (hs : P s) (b : Byte) : P (s.onReadTrain b) := by
  unfold State.onReadTrain
  split
  · exact h.respond hs ..
  · split <;> exact h.respond hs ..

theorem readRecord (h : Kept near n P) (hs : P s) (t : Tag) : P (s.onReadRecord t) := by
  unfold State.onReadRecord
  split <;> exact h.respond hs ..

theorem readLot (h : Kept near n P) (hs : P s) (b : Byte) : P (s.onReadLot b) := by
  unfold State.onReadLot
  split
  · dsimp only
    split <;> exact h.respond hs ..
  · exact h.respond hs ..

theorem readLotNotice (h : Kept near n P) (hs : P s) : P s.onReadLotNotice := by
  unfold State.onReadLotNotice
  split
  · exact h.respond hs ..
  · split
    · exact h.respond hs ..
    · rename_i k _ _ e he
      exact h.answered (h.lot k (some { e with noticeUnread := false }) hs fun y hy hb => by
        obtain rfl := Option.some.inj hy
        exact hb e he) _ _

end Kept

namespace KeptThroughout

variable {near : Prop} {n : Nat} {P : State → Prop} {s : State}

theorem readFault (h : KeptThroughout near n P) (hs : P s) : P s.onReadFault := by
  unfold State.onReadFault
  split
  · rename_i f rest hf
    exact h.answered (h.faults (t := { s with faults := rest }) hs rfl (by simp [hf]) le_rfl) _ _
  · exact h.respond hs ..

theorem clearFaults (h : KeptThroughout near n P) (hs : P s) : P s.onClearFaults :=
  h.answered (h.faults (t := { s with faults := [], overflow := 0 }) hs rfl (Nat.zero_le _) (Nat.zero_le _)) _

end KeptThroughout

/-! ### The walk: one command -/

/-- Every command but power-on, JOIN, LEAVE, DESCRIPTOR WRITE and the samples of travel, which change what the others keep. -/
def ordinary : Instr → Bool
  | .powerOn => false
  | .join => false
  | .leave => false
  | .descriptorWrite _ _ => false
  | .travelStep _ _ _ => false
  | .illegalTransition _ => false
  | _ => true

theorem next_kept {P : State → Prop} {u t : State} (ht : (Host.Outcome.next u : Outcome) = .next t) (hu : P u) : P t := by
  cases ht
  exact hu

/-- An ordinary command keeps what every elementary change keeps. -/
theorem KeptThroughout.exec {near : Prop} {n : Nat} {P : State → Prop} {s t : State} {c : Instr}
    (h : KeptThroughout near n P) (hs : P s) (hc : ordinary c = true) (ht : exec c s = .next t) : P t := by
  cases c with
  | powerOn => cases hc
  | join => cases hc
  | leave => cases hc
  | descriptorWrite => cases hc
  | travelStep => cases hc
  | illegalTransition => cases hc
  | eyeRawChange e b => exact next_kept ht (h.onEyeRawChange hs e b)
  | edgeAccepted e => exact next_kept ht (h.onEdgeAccepted hs e)
  | jam e => exact next_kept ht (h.onJam hs e)
  | pulseRetired c => exact next_kept ht (h.onPulseRetired hs c)
  | windowClosure tag => exact next_kept ht (h.dueEvent hs .closure tag)
  | deadReckoning tag => exact next_kept ht (h.dueEvent hs .reckoning tag)
  | cleared tag => exact next_kept ht (h.dueEvent hs .clearance tag)
  | departed tag => exact next_kept ht (h.dueEvent hs .departure tag)
  | release a f => exact next_kept ht (h.accept hs a (.release f))
  | handoff a f => exact next_kept ht (h.accept hs a (.handoff f))
  | lost a tag x => exact next_kept ht (h.accept hs a (.lost tag x))
  | mark a tag m => exact next_kept ht (h.accept hs a (.mark tag m))
  | hold a on x => exact next_kept ht (h.accept hs a (.hold on x))
  | reserve a f => exact next_kept ht (h.accept hs a (.reserve f))
  | withdraw a g => exact next_kept ht (h.accept hs a (.withdraw g))
  | lotmark a f => exact next_kept ht (h.accept hs a (.lotmark f))
  | joinFrame a x y => exact next_kept ht (h.accept hs a (.join x y))
  | discardedFrame bits => exact h.discardedFrame hs ht
  | busIdle => exact next_kept ht (h.onBusIdle hs)
  | txAttemptStart => exact next_kept ht (h.onTxAttemptStart hs)
  | arbitrationLost => exact next_kept ht (h.onArbitrationLost hs)
  | busError => exact next_kept ht (h.onBusError hs)
  | txComplete => exact next_kept ht (h.onTxComplete hs)
  | lotmarkQueued g => exact next_kept ht (h.onLotmarkQueued hs g)
  | withdrawQueued g => exact next_kept ht (h.onWithdrawQueued hs g)
  | holdQueued => exact next_kept ht (h.onHoldQueued hs)
  | gateCommit g => exact next_kept ht (h.onGateCommit hs g)
  | spacerCommit g => exact next_kept ht (h.onSpacerCommit hs g)
  | spacerBegun g => exact next_kept ht (h.onSpacerBegun hs g)
  | releaseEnd g => exact next_kept ht (h.onReleaseEnd hs g)
  | patienceReached g => exact next_kept ht (h.onPatienceReached hs g)
  | reservationSent g => exact next_kept ht (h.onReservationSent hs g)
  | reservationVoid g => exact next_kept ht (h.onReservationVoid hs g)
  | reservationWithdrawn g => exact next_kept ht (h.onReservationWithdrawn hs g)
  | reservationExpiry a g => exact next_kept ht (h.onReservationExpiry hs a g)
  | stopAsserted => exact next_kept ht (h.onStopAsserted hs)
  | stopReleased => exact next_kept ht (h.onStopReleased hs)
  | settleTimerExpiry => exact next_kept ht (h.onSettleTimer hs)
  | transactionCut x => exact next_kept ht (h.transactionCut hs x)
  | unknownCommand b => exact next_kept ht (h.unknownCommand hs b)
  | descriptorRead i => exact next_kept ht (h.descriptorRead hs i)
  | load b k => exact next_kept ht (h.gateCommand hs b (h.loadGate hs k))
  | unload b => exact next_kept ht (h.gateCommand hs b (h.unloadGate hs))
  | holdSet b => exact next_kept ht (h.gateCommand hs b (h.setHoldFlag hs))
  | holdClear b =>
    exact next_kept ht (h.gateCommand hs b fun g =>
      h.answered (h.gate g { s.gate g with hold := false, holdPending := false } hs rfl) _)
  | blockSet b =>
    exact next_kept ht (h.gateCommand hs b fun g => h.answered (h.gate g { s.gate g with block := true } hs rfl) _)
  | blockClear b =>
    exact next_kept ht (h.gateCommand hs b fun g => h.answered (h.gate g { s.gate g with block := false } hs rfl) _)
  | lotChange b x => exact next_kept ht (h.gateCommand hs b (h.changeLot hs x))
  | gapRequest b =>
    exact next_kept ht (h.gateCommand hs b fun g => h.respond (h.gate g { s.gate g with gapRequest := true } hs rfl) ..)
  | rejectNext b =>
    refine next_kept ht ?_
    split
    · exact h.rejectNextExit hs
    · exact h.gateCommand hs b fun g => h.respond (h.gate g { s.gate g with rejectNext := true } hs rfl) ..
  | rejectTag tag => exact next_kept ht (h.rejectTag hs tag)
  | lineHoldSet => exact next_kept ht (h.answered (h.free hs rfl : P { s with lineHold := true }) _)
  | lineHoldClear => exact next_kept ht (h.answered (h.free hs rfl : P { s with lineHold := false }) _)
  | wrapAck => exact next_kept ht (h.answered (h.free hs rfl : P { s with wrapAlarm := false }) _)
  | setAlertMask m => exact next_kept ht (h.answered (h.free hs rfl : P { s with alertMask := m }) _)
  | readStatus => exact next_kept ht (h.respond hs ..)
  | readTrain b => exact next_kept ht (h.readTrain hs b)
  | readRecord tag => exact next_kept ht (h.readRecord hs tag)
  | readFault => exact next_kept ht (h.readFault hs)
  | clearFaults => exact next_kept ht (h.clearFaults hs)
  | readLot b => exact next_kept ht (h.readLot hs b)
  | readLotNotice => exact next_kept ht (h.readLotNotice hs)
  | readTravel => exact next_kept ht (h.respond hs ..)

/-! ### The walk: a counted step beside the count itself -/

/-- What a counted step hands to the blocks, once the count has moved (R4). -/
theorem Kept.takeStep {near : Prop} {n : Nat} {P : State → Prop} {s : State} (h : Kept near n P) (i : TravelInput)
    (sample : Bool × Bool) (reverse : Bool) (hs : P (s.countStep i sample reverse)) : P (s.takeStep i sample reverse) := by
  have eyes : ∀ {u : State} (first : Bool) (inc : Nat), P u → P (eyeIxs.foldl (fun s e => s.stepEye i first inc e) u) :=
    fun first inc hu => List.foldlRecOn _ _ hu fun _ ht e _ => h.stepEye ht i first inc e
  unfold State.takeStep
  dsimp only
  split
  · exact hs
  · cases i with
    | a => exact List.foldlRecOn _ _ (eyes _ _ (h.payOutlet hs)) fun _ ht g _ => h.stepPatience ht _ g
    | b => exact eyes _ _ hs

end Sys2Proof.Machine
end

section
namespace Sys2Proof.Machine

/-! ### O3: only JOIN loads settings -/

/-- The settings in force (R192). -/
@[ext] structure Settings where
  role : Option Role
  address : Option Addr
  classes : Vector ClassSettings 16
  widths : Nat × Nat
  marks : Nat × Nat
  ironer : Option IronerSettings
  rejectDest : DestIx
  doubtfulToClass : Bool
  decoder : TravelInput → BitVec 16 × Bool
  eye : EyeIx → EyeSettings
  gate : GateIx → GateSettings
  dest : DestIx → DestSettings
  channel : ChannelIx → TravelInput × PulseMode × Owner
  watch : List (Addr × Int)

def State.settings (s : State) : Settings where
  role := s.role
  address := s.address
  classes := s.classes
  widths := (s.baseWidth, s.propWidth)
  marks := (s.highMark, s.lowMark)
  ironer := s.ironer
  rejectDest := s.rejectDest
  doubtfulToClass := s.doubtfulToClass
  decoder i := ((s.travel i).pitch, (s.travel i).inverted)
  eye e := (s.eye e).set
  gate g := (s.gate g).set
  dest d := (s.dest d).set
  channel c := ((s.channel c).input, (s.channel c).mode, (s.channel c).owner)
  watch := s.watch.map fun w => (w.address, w.offset)

theorem setEye_settings (s : State) (e : EyeIx) (x : Eye) (h : x.set = (s.eye e).set) :
    (s.setEye e x).settings = s.settings := by
  have heye : (s.setEye e x).settings.eye = s.settings.eye := by
    funext k
    by_cases hk : k = e
    · simpa [State.settings, hk] using h
    · simp [State.settings, setEye_eye_ne s x hk]
  exact congrArg (fun f => { s.settings with eye := f }) heye

theorem setGate_settings (s : State) (g : GateIx) (x : Gate) (h : x.set = (s.gate g).set) :
    (s.setGate g x).settings = s.settings := by
  have hgate : (s.setGate g x).settings.gate = s.settings.gate := by
    funext k
    by_cases hk : k = g
    · simpa [State.settings, hk] using h
    · simp [State.settings, setGate_gate_ne s x hk]
  exact congrArg (fun f => { s.settings with gate := f }) hgate

theorem setDest_settings (s : State) (d : DestIx) (x : Dest) (h : x.set = (s.dest d).set) :
    (s.setDest d x).settings = s.settings := by
  have hdest : (s.setDest d x).settings.dest = s.settings.dest := by
    funext k
    by_cases hk : k = d
    · simpa [State.settings, hk] using h
    · simp [State.settings, setDest_dest_ne s x hk]
  exact congrArg (fun f => { s.settings with dest := f }) hdest

theorem setChannel_settings (s : State) (c : ChannelIx) (x : Channel) (h : x.SameBinding (s.channel c)) :
    (s.setChannel c x).settings = s.settings := by
  obtain ⟨hinput, hmode, howner⟩ := h
  have hchannel : (s.setChannel c x).settings.channel = s.settings.channel := by
    funext k
    by_cases hk : k = c
    · simp [State.settings, hk, hinput, hmode, howner]
    · simp [State.settings, setChannel_channel_ne s x hk]
  exact congrArg (fun f => { s.settings with channel := f }) hchannel

/-- The settings in force, the descriptor store and the travel counters. -/
def State.installed (s : State) : Settings × Store × (TravelInput → Travel) := (s.settings, s.store, s.travel)

theorem recordFault_installed (s : State) (f : FaultRecord) : (s.recordFault f).installed = s.installed := by
  unfold State.recordFault
  split <;> rfl

/-- No elementary change touches the settings, the store or the counters. -/
theorem installed_kept (x : Settings × Store × (TravelInput → Travel)) :
    KeptThroughout False 0 fun t => t.installed = x where
  channel c y h hy := (congrArg (·, _) (setChannel_settings _ c y hy)).trans h
  dest d y h hy := (congrArg (·, _) (setDest_settings _ d y hy)).trans h
  lot _ _ h _ := h
  closures h ht := by rw [ht]; exact h
  fault f h := (recordFault_installed _ f).trans h
  zone _ h := h.elim
  free h ht := (congrArg State.installed ht).trans h
  eye e y h hy _ := (congrArg (·, _) (setEye_settings _ e y hy)).trans h
  gate g y h hy := (congrArg (·, _) (setGate_settings _ g y hy)).trans h
  queue h ht _ := by rw [ht]; exact h
  watch {s t} h ht hw _ := by
    rw [ht, ← h]
    exact congrArg (fun w => ({ s.settings with watch := w }, _)) hw
  shrink h ht _ := by rw [ht]; exact h
  slip h ht _ _ := by rw [ht]; exact h
  map _ h ht _ := by rw [ht]; exact h
  replace _ _ h _ _ _ _ _ := h
  add _ h _ _ _ _ _ := h
  takeOut _ h := h
  reserve h ht _ := by rw [ht]; exact h
  mode h ht _ _ := by rw [ht]; exact h
  faults h ht _ _ := by rw [ht]; exact h

/-! #### The commands outside the walk -/

theorem setTravel_settings (s : State) (i : TravelInput) (y : Travel) (hp : y.pitch = (s.travel i).pitch)
    (hv : y.inverted = (s.travel i).inverted) : (s.setTravel i y).settings = s.settings := by
  have hdecoder : (s.setTravel i y).settings.decoder = s.settings.decoder := by
    funext j
    by_cases hj : j = i
    · simp [State.settings, hj, hp, hv]
    · simp [State.settings, setTravel_travel_ne s y hj]
  cases i <;> exact congrArg (fun f => { s.settings with decoder := f }) hdecoder

theorem installed_iff {s t : State} :
    t.installed = s.installed ↔ t.settings = s.settings ∧ t.store = s.store ∧ t.travel = s.travel := by
  simp only [State.installed, Prod.mk.injEq]

theorem illegalStep_installed (s : State) (i : TravelInput) (x : Bool × Bool) :
    (s.illegalStep i x).installed = (s.setTravel i { s.travel i with reference := some x }).installed :=
  (installed_kept _).refresh ((installed_kept _).fault _ rfl)

theorem countStep_installed (s : State) (i : TravelInput) (x : Bool × Bool) (r : Bool) :
    (s.countStep i x r).installed =
      (s.setTravel i { (s.travel i).counted r with reference := some x }).installed := by
  cases i <;> rfl

/-- A sample of an input changes at most that input's counters. -/
theorem onTravelSample_installed (s : State) (i : TravelInput) (x : Bool × Bool) :
    ∃ y : Travel, y.pitch = (s.travel i).pitch ∧ y.inverted = (s.travel i).inverted ∧
      (s.onTravelSample i x).installed = (s.setTravel i y).installed := by
  have same : s.installed = (s.setTravel i (s.travel i)).installed := by cases i <;> rfl
  unfold State.onTravelSample
  dsimp only
  split
  · exact ⟨_, rfl, rfl, same⟩
  · split
    · exact ⟨_, by rfl, by rfl, rfl⟩
    · split
      · exact ⟨_, rfl, rfl, same⟩
      · exact ⟨_, by rfl, by rfl, illegalStep_installed s i x⟩
      · rename_i r _
        have settled : s.settle.installed = s.installed := (installed_kept _).settle rfl
        obtain ⟨hset, hstore, htravel⟩ := installed_iff.mp settled
        refine ⟨{ (s.travel i).counted r with reference := some x }, rfl, rfl, ?_⟩
        refine (installed_kept _).refresh ((installed_kept _).takeStep i x r ?_)
        rw [countStep_installed, htravel]
        refine installed_iff.mpr ⟨?_, ?_, ?_⟩
        · rw [setTravel_settings _ _ _ (by rw [htravel]; rfl) (by rw [htravel]; rfl), hset]
          exact (setTravel_settings s i { (s.travel i).counted r with reference := some x } rfl rfl).symm
        · rw [setTravel_store, setTravel_store, hstore]
        · funext j
          by_cases hj : j = i
          · rw [hj, setTravel_travel, setTravel_travel]
          · rw [setTravel_travel_ne _ _ hj, setTravel_travel_ne _ _ hj, htravel]

theorem KeptByLots.lotLeave {P : State → Prop} (h : KeptByLots P) {s : State} (hs : P s) : P s.lotLeave :=
  List.foldlRecOn _ _ hs fun u hu k _ => by
    split
    · exact hu
    · rename_i e he
      have h1 : P (u.setLotSlot k (some { e with state := .closed, inFlight := 0, sources := [] })) :=
        h.lot k _ hu fun y hy hb => by
          obtain rfl := Option.some.inj hy
          obtain ⟨-, hdeparted, hrejects⟩ := hb e he
          exact ⟨Nat.zero_le _, hdeparted, hrejects⟩
      dsimp only
      split
      · exact h1
      · exact h.closures h1 rfl

/-- An illegal transition changes at most the reference state of its input (R5). -/
theorem onIllegalTransition_installed (s : State) (i : TravelInput) :
    ∃ r, (s.onIllegalTransition i).installed = (s.setTravel i { s.travel i with reference := r }).installed := by
  have same : s.installed = (s.setTravel i { s.travel i with reference := (s.travel i).reference }).installed := by
    cases i <;> rfl
  unfold State.onIllegalTransition
  split
  · split
    · exact ⟨_, same⟩
    · exact ⟨_, illegalStep_installed ..⟩
  · exact ⟨_, same⟩

/-- LEAVE before its HOLD off (R194), from the state u that the lot unit leaves. -/
def State.swept (s u : State) : State :=
  { u with
    mode := .config, settling := none, lastStep := none, freshWindows := [], undoneReserves := []
    eyes := s.eyes.map Eye.leave, channels := s.channels.map Channel.leave
    train := [], waiting := [], trainCause := false
    gates := s.gates.map Gate.leave, reservations := []
    holders := Vector.replicate 32 none, exitRejectNext := false
    dests := s.dests.map Dest.leave
    watch := s.watch.map fun w => { w with expected := none, credits := 0 }
    queue := leaveQueue s.queue, announced := leaveAnnounced s.queue s.announced }

theorem leaveLine_eq (s : State) : s.leaveLine = (s.swept s.lotLeave).queueHold := rfl

/-- What LEAVE does to the blocks keeps their settings (R32, R46, R111, R160). -/
theorem swept_installed (s u : State) (hu : u.installed = s.installed) : (s.swept u).installed = s.installed := by
  obtain ⟨hset, hstore, htravel⟩ := installed_iff.mp hu
  have heye : (s.swept u).settings.eye = s.settings.eye := by
    funext e
    simp [State.settings, State.eye, State.swept, Eye.leave]
  have hchannel : (s.swept u).settings.channel = s.settings.channel := by
    funext c
    simp [State.settings, State.channel, State.swept, Channel.leave]
  have hgate : (s.swept u).settings.gate = s.settings.gate := by
    funext g
    simp [State.settings, State.gate, State.swept, Gate.leave]
  have hdest : (s.swept u).settings.dest = s.settings.dest := by
    funext d
    simp [State.settings, State.dest, State.swept, Dest.leave]
  have hwatch : (s.swept u).settings.watch = s.settings.watch := by
    simp [State.settings, State.swept, Function.comp_def]
  have swept : (s.swept u).settings = s.settings :=
    calc (s.swept u).settings
      = { u.settings with
          eye := (s.swept u).settings.eye, channel := (s.swept u).settings.channel
          gate := (s.swept u).settings.gate, dest := (s.swept u).settings.dest
          watch := (s.swept u).settings.watch } := rfl
    _ = s.settings := by rw [hset, heye, hchannel, hgate, hdest, hwatch]
  exact installed_iff.mpr ⟨swept, hstore, htravel⟩

theorem onLeave_installed (s : State) : s.onLeave.installed = s.installed := by
  have swept := swept_installed s s.lotLeave ((installed_kept _).lotLeave rfl)
  unfold State.onLeave
  split
  · rfl
  · rw [leaveLine_eq]
    exact (installed_kept _).answered ((installed_kept _).queueHold swept) _

theorem loadRole_travel (s : State) : s.loadRole.travelA = s.travelA ∧ s.loadRole.travelB = s.travelB ∧
    s.loadRole.store = s.store := by
  unfold State.loadRole
  split <;> exact ⟨rfl, rfl, rfl⟩

/-- The entry into JOINING before the holding condition is taken (R192), from the state u with the settings loaded. -/
def State.enterJoining (u : State) : State :=
  { u with mode := .joining, settling := some { expired := false, heard := false } }.push
    (.join u.roleCode Config.joinFormat) 0

theorem joinLine_eq (s : State) : s.joinLine = s.loadCommon.loadRole.enterJoining.queueHold := rfl

/-- A JOIN loads pitch and inversion and leaves store, counts and directions (R1, R6). -/
theorem joinLine_counts (s : State) : s.joinLine.store = s.store ∧
    ∀ i, (s.joinLine.travel i).count = (s.travel i).count ∧ (s.joinLine.travel i).reverse = (s.travel i).reverse := by
  obtain ⟨ha, hb, hs⟩ := loadRole_travel s.loadCommon
  obtain ⟨hA, hB, -, -, -, -, -, -, -, -, -, -, -, -, -, -, hstore, -⟩ :=
    outside_fields (queueHold_outside s.loadCommon.loadRole.enterJoining)
  rw [joinLine_eq]
  refine ⟨hstore.trans hs, fun i => ?_⟩
  have count : ∀ {x y z : Travel}, x = y → y.count = z.count ∧ y.reverse = z.reverse →
      x.count = z.count ∧ x.reverse = z.reverse := fun h hy => h ▸ hy
  cases i with
  | a => exact count (hA.trans ha) ⟨rfl, rfl⟩
  | b => exact count (hB.trans hb) ⟨rfl, rfl⟩

theorem onJoin_counts (s : State) : s.onJoin.store = s.store ∧
    ∀ i, (s.onJoin.travel i).count = (s.travel i).count ∧ (s.onJoin.travel i).reverse = (s.travel i).reverse := by
  unfold State.onJoin
  split
  · exact ⟨rfl, fun i => by cases i <;> exact ⟨rfl, rfl⟩⟩
  · split
    · exact ⟨rfl, fun i => by cases i <;> exact ⟨rfl, rfl⟩⟩
    · obtain ⟨hstore, hcount⟩ := joinLine_counts s
      have answered : (s.joinLine.refresh.respond .ok).installed = s.joinLine.installed :=
        (installed_kept _).answered rfl _
      obtain ⟨-, hs, ht⟩ := installed_iff.mp answered
      exact ⟨hs.trans hstore, fun i => by rw [ht]; exact hcount i⟩

/-! #### O3 -/

/-- What equal settings say field by field. -/
theorem settings_fields {s t : State} (h : t.settings = s.settings) :
    t.role = s.role ∧ t.address = s.address ∧ t.classes = s.classes ∧ t.baseWidth = s.baseWidth ∧
      t.propWidth = s.propWidth ∧ t.highMark = s.highMark ∧ t.lowMark = s.lowMark ∧ t.ironer = s.ironer ∧
      t.rejectDest = s.rejectDest ∧ t.doubtfulToClass = s.doubtfulToClass ∧
      (∀ i, (t.travel i).pitch = (s.travel i).pitch ∧ (t.travel i).inverted = (s.travel i).inverted) ∧
      (∀ e, (t.eye e).set = (s.eye e).set) ∧ (∀ g, (t.gate g).set = (s.gate g).set) ∧
      (∀ d, (t.dest d).set = (s.dest d).set) ∧
      (∀ k, (t.channel k).input = (s.channel k).input ∧ (t.channel k).mode = (s.channel k).mode ∧
        (t.channel k).owner = (s.channel k).owner) ∧
      t.watch.map (fun w => (w.address, w.offset)) = s.watch.map fun w => (w.address, w.offset) := by
  simp only [State.settings, Settings.mk.injEq, Prod.mk.injEq, funext_iff] at h
  obtain ⟨hrole, haddress, hclasses, ⟨hbase, hprop⟩, ⟨hhigh, hlow⟩, hironer, hreject, hdoubt, hdecoder, heye, hgate,
    hdest, hchannel, hwatch⟩ := h
  exact ⟨hrole, haddress, hclasses, hbase, hprop, hhigh, hlow, hironer, hreject, hdoubt, hdecoder, heye, hgate, hdest,
    hchannel, hwatch⟩

/-- What changes settings, store or counts, command by command. -/
theorem exec_installed {s t : State} {c : Instr} (ht : exec c s = .next t) (hp : c ≠ .powerOn) :
    (c ≠ .join → t.settings = s.settings) ∧ ((∀ i v, c ≠ .descriptorWrite i v) → t.store = s.store) ∧
      ∀ i, (∀ ch1 ch2, c ≠ .travelStep i ch1 ch2) →
        (t.travel i).count = (s.travel i).count ∧ (t.travel i).reverse = (s.travel i).reverse := by
  have whole (h : t.installed = s.installed) :
      (c ≠ .join → t.settings = s.settings) ∧ ((∀ i v, c ≠ .descriptorWrite i v) → t.store = s.store) ∧
        ∀ i, (∀ ch1 ch2, c ≠ .travelStep i ch1 ch2) →
          (t.travel i).count = (s.travel i).count ∧ (t.travel i).reverse = (s.travel i).reverse := by
    obtain ⟨hset, hstore, htravel⟩ := installed_iff.mp h
    exact ⟨fun _ => hset, fun _ => hstore, fun i _ => by rw [htravel]; exact ⟨rfl, rfl⟩⟩
  by_cases hc : ordinary c = true
  · exact whole ((installed_kept _).exec rfl hc ht)
  · cases c with
    | powerOn => exact absurd rfl hp
    | join =>
      obtain rfl : s.onJoin = t := Host.Outcome.next.inj ht
      obtain ⟨hstore, hcount⟩ := onJoin_counts s
      exact ⟨fun h => absurd rfl h, fun _ => hstore, fun i _ => hcount i⟩
    | leave =>
      obtain rfl : s.onLeave = t := Host.Outcome.next.inj ht
      exact whole (onLeave_installed s)
    | descriptorWrite item v =>
      obtain rfl : s.onDescriptorWrite item v = t := Host.Outcome.next.inj ht
      have same : (s.onDescriptorWrite item v).settings = s.settings ∧
          ∀ i, (s.onDescriptorWrite item v).travel i = s.travel i := by
        unfold State.onDescriptorWrite
        split
        · exact ⟨rfl, fun i => by cases i <;> rfl⟩
        · split <;> exact ⟨rfl, fun i => by cases i <;> rfl⟩
      exact ⟨fun _ => same.1, fun h => absurd rfl (h item v), fun i _ => by rw [same.2]; exact ⟨rfl, rfl⟩⟩
    | travelStep j ch1 ch2 =>
      obtain rfl : s.onTravelSample j (ch1, ch2) = t := Host.Outcome.next.inj ht
      obtain ⟨y, hpitch, hinverted, hy⟩ := onTravelSample_installed s j (ch1, ch2)
      obtain ⟨hset, hstore, htravel⟩ := installed_iff.mp hy
      refine ⟨fun _ => hset.trans (setTravel_settings s j y hpitch hinverted), fun _ => hstore.trans (setTravel_store ..),
        fun i hi => ?_⟩
      have hij : i ≠ j := fun h => hi ch1 ch2 (by rw [h])
      rw [htravel, setTravel_travel_ne s y hij]
      exact ⟨rfl, rfl⟩
    | illegalTransition j =>
      obtain rfl : s.onIllegalTransition j = t := Host.Outcome.next.inj ht
      obtain ⟨r, hr⟩ := onIllegalTransition_installed s j
      obtain ⟨hset, hstore, htravel⟩ := installed_iff.mp hr
      refine ⟨fun _ => hset.trans (setTravel_settings s j _ rfl rfl), fun _ => hstore.trans (setTravel_store ..),
        fun i _ => ?_⟩
      rw [htravel]
      by_cases hij : i = j
      · rw [hij, setTravel_travel]
        exact ⟨rfl, rfl⟩
      · rw [setTravel_travel_ne s _ hij]
        exact ⟨rfl, rfl⟩
    | _ => exact absurd rfl hc

/-- Settles O3: the walk keeps settings, store and counters; the commands outside it are taken one by one. -/
theorem settingsLoadAtJoinAlone : Obligations.SettingsLoadAtJoinAlone := by
  unfold Obligations.SettingsLoadAtJoinAlone
  intro s c t ht hp
  obtain ⟨hset, hrest⟩ := exec_installed ht hp
  exact ⟨fun hj => settings_fields (hset hj), hrest⟩

end Sys2Proof.Machine
end

section
namespace Sys2Proof.Machine

/-! ### The order of the train (R51) -/

theorem rank_le_of_before {x y : Record} (h : x.before y = true) : x.stage.rank ≤ y.stage.rank := by
  simp only [Record.before, Bool.or_eq_true, decide_eq_true_eq, Bool.and_eq_true, beq_iff_eq] at h
  obtain h | ⟨h, -⟩ := h
  · exact h.le
  · rw [h]

theorem rank_le_of_not_before {x y : Record} (h : ¬ x.before y = true) : y.stage.rank ≤ x.stage.rank := by
  simp only [Record.before, Bool.or_eq_true, decide_eq_true_eq, not_or] at h
  exact Nat.le_of_not_lt h.1

/-- Insertion keeps the stages in order, whatever the positions. -/
theorem insertRecord_stages (r : Record) {l : List Record} (h : l.Pairwise fun x y => x.stage.rank ≤ y.stage.rank) :
    (insertRecord r l).Pairwise fun x y => x.stage.rank ≤ y.stage.rank := by
  induction l with
  | nil => exact List.pairwise_singleton ..
  | cons x l ih =>
    obtain ⟨hx, hl⟩ := List.pairwise_cons.mp h
    unfold insertRecord
    split
    · rename_i hb
      have hrx := rank_le_of_before hb
      refine List.pairwise_cons.mpr ⟨fun y hy => ?_, h⟩
      obtain rfl | hy := List.mem_cons.mp hy
      · exact hrx
      · exact hrx.trans (hx y hy)
    · rename_i hb
      refine List.pairwise_cons.mpr ⟨fun y hy => ?_, ih hl⟩
      obtain rfl | hy := mem_insertRecord.mp hy
      · exact rank_le_of_not_before hb
      · exact hx y hy

/-- Records whose signed differences order them: those of one stage lie within a quarter of the circle of each other, and no
two have one place by admission. -/
abbrev Comparable (l : List Record) : Prop :=
  (∀ x ∈ l, ∀ y ∈ l, x.stage = y.stage → (diff x.p y.p).natAbs < 4194304) ∧
    l.Pairwise fun x y => x.order ≠ y.order

theorem stage_eq_of_rank {x y : Stage} (h : x.rank = y.rank) : x = y := by
  cases x <;> cases y <;> first | rfl | cases h

theorem before_total {x y : Record} (hd : x.stage = y.stage → (diff x.p y.p).natAbs < 4194304)
    (ho : x.order ≠ y.order) (h : ¬ x.before y = true) : y.before x = true := by
  by_cases hs : x.stage = y.stage
  · have hd := hd hs
    have hswap := diff_swap (a := x.p) (b := y.p) (by omega)
    simp only [Record.before, hs, lt_irrefl, decide_false, Bool.false_or, beq_self_eq_true, Bool.true_and, Bool.or_eq_true,
      decide_eq_true_eq, Bool.and_eq_true, beq_iff_eq, not_or, not_lt, not_and] at h ⊢
    obtain ⟨hge, htie⟩ := h
    by_cases hp : x.p = y.p
    · exact .inr ⟨hp.symm, by have := htie hp; omega⟩
    · have := mt (diff_eq_zero_iff x.p y.p).mp hp
      exact .inl (by omega)
  · have hne : x.stage.rank ≠ y.stage.rank := fun hr => hs (stage_eq_of_rank hr)
    have := rank_le_of_not_before h
    simp only [Record.before, Bool.or_eq_true, decide_eq_true_eq]
    exact .inl (by omega)

theorem before_trans {x y z : Record} (hxy : x.stage = y.stage → (diff x.p y.p).natAbs < 4194304)
    (hyz : y.stage = z.stage → (diff y.p z.p).natAbs < 4194304) (h : x.before y = true) (h' : y.before z = true) :
    x.before z = true := by
  have hr := rank_le_of_before h
  have hr' := rank_le_of_before h'
  by_cases hs : x.stage = y.stage ∧ y.stage = z.stage
  · obtain ⟨hs, hs'⟩ := hs
    have hxy := hxy hs
    have hyz := hyz hs'
    obtain ⟨⟨k, hk⟩, hl, hu⟩ := wrap24_spec (diff x.p y.p + diff y.p z.p)
    rw [← diff_add_diff] at hk hl hu
    have hex := diff_eq_zero_iff x.p y.p
    have hey := diff_eq_zero_iff y.p z.p
    have hez := diff_eq_zero_iff x.p z.p
    simp only [Record.before, hs, hs', lt_irrefl, decide_false, Bool.false_or, beq_self_eq_true, Bool.true_and,
      Bool.or_eq_true, decide_eq_true_eq, Bool.and_eq_true, beq_iff_eq] at h h' ⊢
    rw [← hex] at h
    rw [← hey] at h'
    rw [← hez]
    omega
  · have hne : x.stage.rank < z.stage.rank := by
      rcases Nat.lt_or_ge x.stage.rank z.stage.rank with h | h
      · exact h
      · exact absurd ⟨stage_eq_of_rank (by omega), stage_eq_of_rank (by omega)⟩ hs
    simp only [Record.before, Bool.or_eq_true, decide_eq_true_eq]
    exact .inl hne

/-- Insertion among comparable records keeps the whole order. -/
theorem insertRecord_ordered (r : Record) {l : List Record} (h : l.Pairwise fun x y => x.before y = true)
    (hc : Comparable (r :: l)) : (insertRecord r l).Pairwise fun x y => x.before y = true := by
  induction l with
  | nil => exact List.pairwise_singleton ..
  | cons x l ih =>
    obtain ⟨hx, hl⟩ := List.pairwise_cons.mp h
    obtain ⟨hnear, horder⟩ := hc
    obtain ⟨hr, hrest⟩ := List.pairwise_cons.mp horder
    unfold insertRecord
    split
    · rename_i hb
      refine List.pairwise_cons.mpr ⟨fun y hy => ?_, h⟩
      obtain rfl | hy := List.mem_cons.mp hy
      · exact hb
      · exact before_trans (hnear r (by simp) x (by simp)) (hnear x (by simp) y (by simp [hy])) hb (hx y hy)
    · rename_i hb
      refine List.pairwise_cons.mpr ⟨fun y hy => ?_, ih hl ⟨fun a ha b hb => ?_, ?_⟩⟩
      · obtain rfl | hy := mem_insertRecord.mp hy
        · exact before_total (hnear y (by simp) x (by simp)) (hr x (by simp)) hb
        · exact hx y hy
      · refine hnear a ?_ b ?_
        · obtain rfl | ha := List.mem_cons.mp ha
          · simp
          · simp [ha]
        · obtain rfl | hb := List.mem_cons.mp hb
          · simp
          · simp [hb]
      · exact List.pairwise_cons.mpr ⟨fun y hy => hr y (by simp [hy]), (List.pairwise_cons.mp hrest).2⟩

end Sys2Proof.Machine
end

section
namespace Sys2Proof.Machine

/-! ### The train kept sound and in order -/

/-- The train sound, and where asked its stages and its whole order kept (R51). -/
structure Good (a b : Prop) (n : Nat) (s : State) : Prop where
  sound : s.TrainSound
  stages : a → s.StagesInOrder
  ordered : b → s.TrainInOrder ∧ s.Zone n

/-- What `Good` looks at. -/
def State.trainView (s : State) : State :=
  { State.reset with
    travelA := { Travel.reset with position := s.travelA.position }
    travelB := { Travel.reset with position := s.travelB.position }, eyes := s.eyes, train := s.train, admissions := s.admissions
    gates := s.gates, trainCause := s.trainCause, highMark := s.highMark, lowMark := s.lowMark, slip := s.slip
    ironer := s.ironer, watch := s.watch, mode := s.mode, role := s.role }

theorem trainView_pos (s : State) (i : TravelInput) : s.trainView.pos i = s.pos i := by
  cases i <;> rfl

theorem inZone_view {s : State} {n : Nat} {r : Record} : s.trainView.InZone n r ↔ s.InZone n r := by
  simp only [State.InZone, trainView_pos]
  rfl

theorem zone_view {s : State} {n : Nat} : s.trainView.Zone n ↔ s.Zone n := by
  constructor
  · rintro ⟨htags, hrecords, hcandidates, heyes, hwatch, hdrops, hpath, hslip⟩
    exact ⟨htags, fun r hr => (hrecords r hr).imp inZone_view.mp id, hcandidates, heyes, hwatch, hdrops, hpath, hslip⟩
  · rintro ⟨htags, hrecords, hcandidates, heyes, hwatch, hdrops, hpath, hslip⟩
    exact ⟨htags, fun r hr => (hrecords r hr).imp inZone_view.mpr id, hcandidates, heyes, hwatch, hdrops, hpath, hslip⟩

variable {a b : Prop} {n : Nat} {s t : State}

theorem good_view : Good a b n s.trainView ↔ Good a b n s :=
  ⟨fun h => ⟨h.sound, h.stages, fun hb => ⟨(h.ordered hb).1, zone_view.mp (h.ordered hb).2⟩⟩,
    fun h => ⟨h.sound, h.stages, fun hb => ⟨(h.ordered hb).1, zone_view.mpr (h.ordered hb).2⟩⟩⟩

theorem Good.of_view (h : Good a b n s) (ht : t.trainView = s.trainView) : Good a b n t :=
  good_view.mp (ht ▸ good_view.mpr h)

/-! #### Positions -/

theorem zone_comparable {l : List Record} (hn : n ≤ 1100000) (hz : ∀ r ∈ l, s.InZone n r)
    (ho : (l.map (·.order)).Nodup) : Comparable l := by
  refine ⟨fun x hx y hy hs => ?_, List.pairwise_map.mp ho⟩
  obtain ⟨hbx, hx⟩ := hz x hx
  obtain ⟨hby, hy⟩ := hz y hy
  have hb : y.basis = x.basis := by rw [hbx, hby, hs]
  rw [hb] at hy
  have hswap := diff_swap (a := y.p) (b := s.pos x.basis) (by omega)
  have := diff_natAbs_trans x.p (s.pos x.basis) y.p
  omega

/-! #### One record in the train -/

theorem filter_tag_length {l : List Record} (h : (l.map (·.tag)).Nodup) {r : Record} (hr : r ∈ l) :
    (l.filter fun x => x.tag != r.tag).length + 1 = l.length := by
  induction l with
  | nil => cases hr
  | cons x l ih =>
    rw [List.map_cons, List.nodup_cons] at h
    obtain ⟨hx, hl⟩ := h
    obtain rfl | hr := List.mem_cons.mp hr
    · have rest : (l.filter fun x => x.tag != r.tag) = l := List.filter_eq_self.mpr fun y hy => by
        have : y.tag ≠ r.tag := fun he => hx (List.mem_map.mpr ⟨y, hy, he⟩)
        simpa using this
      simp [rest]
    · have hne : x.tag ≠ r.tag := fun he => hx (List.mem_map.mpr ⟨r, hr, he.symm⟩)
      simp [hne, ih hl hr]

theorem map_filter_nodup {α : Type} {l : List Record} {f : Record → α} (h : (l.map f).Nodup) (p : Record → Bool) :
    ((l.filter p).map f).Nodup := h.sublist (List.filter_sublist.map f)

theorem insertRecord_map_nodup {α : Type} {l : List Record} {f : Record → α} (h : (l.map f).Nodup) {r : Record}
    (hr : ∀ x ∈ l, f x ≠ f r) : ((insertRecord r l).map f).Nodup := by
  rw [((insertRecord_perm r l).map f).nodup_iff, List.map_cons, List.nodup_cons]
  refine ⟨fun hm => ?_, h⟩
  obtain ⟨x, hx, he⟩ := List.mem_map.mp hm
  exact hr x hx he

/-- A count just handed onward puts the TRAIN cause where the marks say (R126). -/
theorem handCount_cause (u : State) :
    (u.highMark ≤ u.train.length → u.handCount.trainCause = true) ∧
      (u.train.length < u.highMark → u.train.length ≤ u.lowMark → u.handCount.trainCause = false) := by
  unfold State.handCount
  exact ⟨fun h => if_pos h, fun h hl => (if_neg (Nat.not_le.mpr h)).trans (if_pos hl)⟩

/-! #### What a changed record and a new one do -/

theorem Good.replace (hba : b → a) (hn : n ≤ 1100000) (h : Good a b n s) {r r' : Record} (hr : r ∈ s.train)
    (ht : r'.tag = r.tag) (ho : r'.order = r.order) (hh : HalfOk r.h → HalfOk r'.h) (hz : b → s.InZone n r') :
    Good a b n (s.replaceRecord r') := by
  obtain ⟨⟨hlen, htags, hhalf, hconfig, hmark, hhigh, hlow⟩, hstages, hordered⟩ := h
  have kept : (s.replaceRecord r').train.length = s.train.length := by
    rw [State.replaceRecord, length_insertRecord, ht]
    exact filter_tag_length htags hr
  have others : ∀ x ∈ s.train.filter (fun x => x.tag != r'.tag), x ∈ s.train ∧ x.tag ≠ r'.tag := fun x hx => by
    simpa using hx
  have half : ∀ x ∈ (s.replaceRecord r').train, HalfOk x.h := fun x hx => by
    obtain rfl | hx := mem_insertRecord.mp hx
    · exact hh (hhalf r hr)
    · exact hhalf x (others x hx).1
  have tags : ((s.replaceRecord r').train.map (·.tag)).Nodup :=
    insertRecord_map_nodup (map_filter_nodup htags _) fun x hx => (others x hx).2
  have orders : (s.train.map (·.order)).Nodup → ((s.replaceRecord r').train.map (·.order)).Nodup := fun hnodup => by
    refine insertRecord_map_nodup (map_filter_nodup hnodup _) fun x hx he => (others x hx).2 ?_
    rw [List.inj_on_of_nodup_map hnodup (others x hx).1 hr (he.trans ho), ht]
  refine ⟨⟨?_, tags, half, fun hm => ?_, hmark, ?_, ?_⟩, fun ha => ?_, fun hb => ?_⟩
  · rw [kept]
    exact hlen
  · rw [hconfig hm] at hr
    cases hr
  · rw [kept]
    exact hhigh
  · rw [kept]
    exact hlow
  · obtain ⟨hrank, hnodup, hadmitted⟩ := hstages ha
    refine ⟨insertRecord_stages _ (hrank.sublist List.filter_sublist), orders hnodup, fun x hx => ?_⟩
    obtain rfl | hx := mem_insertRecord.mp hx
    · exact ho ▸ hadmitted r hr
    · exact hadmitted x (others x hx).1
  · obtain ⟨hord, zone⟩ := hordered hb
    obtain ⟨-, hnodup, -⟩ := hstages (hba hb)
    have near : ∀ x ∈ r' :: s.train.filter (fun x => x.tag != r'.tag), s.InZone n x := fun x hx => by
      obtain rfl | hx := List.mem_cons.mp hx
      · exact hz hb
      · exact (zone.records x (others x hx).1).1
    have distinct : ((r' :: s.train.filter (fun x => x.tag != r'.tag)).map (·.order)).Nodup :=
      ((insertRecord_perm _ _).map (·.order)).nodup_iff.mp (orders hnodup)
    refine ⟨insertRecord_ordered _ (hord.sublist List.filter_sublist) (zone_comparable hn near distinct), tags,
      fun x hx => ⟨near x ((insertRecord_perm _ _).mem_iff.mp hx), (half x hx).2⟩, zone.candidates, zone.eyes, zone.watch,
      zone.drops, zone.path, zone.slip⟩

theorem Good.add (hba : b → a) (hn : n ≤ 1100000) (h : Good a b n s) {r : Record} (ht : ∀ x ∈ s.train, x.tag ≠ r.tag)
    (hlt : s.train.length < Config.trainCapacity) (hm : s.mode ≠ .config) (hh : HalfOk r.h) (hz : b → s.InZone n r) :
    Good a b n (s.addRecord r) := by
  obtain ⟨⟨hlen, htags, hhalf, hconfig, hmark, hhigh, hlow⟩, hstages, hordered⟩ := h
  have half : ∀ x ∈ (s.addRecord r).train, HalfOk x.h := fun x hx => by
    obtain rfl | hx := mem_insertRecord.mp hx
    · exact hh
    · exact hhalf x hx
  have tags : ((s.addRecord r).train.map (·.tag)).Nodup := insertRecord_map_nodup htags fun x hx => ht x hx
  have count : (s.addRecord r).train.length = s.train.length + 1 := length_insertRecord ..
  have orders : s.StagesInOrder → ((s.addRecord r).train.map (·.order)).Nodup := fun ⟨_, hnodup, hadmitted⟩ =>
    insertRecord_map_nodup hnodup fun x hx => (hadmitted x hx).ne
  refine ⟨⟨?_, tags, half, fun hc => absurd hc hm, hmark, fun hc => ?_, fun hc hl => ?_⟩, fun ha => ?_, fun hb => ?_⟩
  · rw [count]
    exact hlt
  · exact (handCount_cause _).1 hc
  · exact (handCount_cause _).2 hc hl
  · refine ⟨insertRecord_stages _ (hstages ha).1, orders (hstages ha), fun x hx => ?_⟩
    have new : (s.addRecord r).admissions = s.admissions + 1 := rfl
    rw [new]
    obtain rfl | hx := mem_insertRecord.mp hx
    · exact Nat.lt_succ_self _
    · exact ((hstages ha).2.2 x hx).trans (Nat.lt_succ_self _)
  · obtain ⟨hord, zone⟩ := hordered hb
    have near : ∀ x ∈ { r with order := s.admissions } :: s.train, s.InZone n x := fun x hx => by
      obtain rfl | hx := List.mem_cons.mp hx
      · exact hz hb
      · exact (zone.records x hx).1
    have distinct : (({ r with order := s.admissions } :: s.train).map (·.order)).Nodup :=
      ((insertRecord_perm _ _).map (·.order)).nodup_iff.mp (orders (hstages (hba hb)))
    refine ⟨insertRecord_ordered _ hord (zone_comparable hn near distinct), tags,
      fun x hx => ⟨near x ((insertRecord_perm _ _).mem_iff.mp hx), (half x hx).2⟩, zone.candidates, zone.eyes, zone.watch,
      zone.drops, zone.path, zone.slip⟩

theorem Good.takeOut (h : Good a b n s) (tag : Tag) : Good a b n (s.takeOut tag) := by
  obtain ⟨⟨hlen, htags, hhalf, hconfig, hmark, hhigh, hlow⟩, hstages, hordered⟩ := h
  have sub : (s.takeOut tag).train.Sublist s.train := List.filter_sublist
  refine ⟨⟨sub.length_le.trans hlen, htags.sublist (sub.map _), fun x hx => hhalf x (sub.subset hx), fun hc => ?_, hmark,
    fun hc => ?_, fun hc hl => ?_⟩, fun ha => ?_, fun hb => ?_⟩
  · have := sub
    rw [hconfig hc] at this
    exact List.sublist_nil.mp this
  · exact (handCount_cause _).1 hc
  · exact (handCount_cause _).2 hc hl
  · obtain ⟨hrank, hnodup, hadmitted⟩ := hstages ha
    exact ⟨hrank.sublist sub, hnodup.sublist (sub.map _), fun x hx => hadmitted x (sub.subset hx)⟩
  · obtain ⟨hord, zone⟩ := hordered hb
    exact ⟨hord.sublist sub, zone.tags.sublist (sub.map _), fun x hx => zone.records x (sub.subset hx), zone.candidates,
      zone.eyes, zone.watch, zone.drops, zone.path, zone.slip⟩

/-- Changes that leave every record in its place. -/
theorem Good.map (h : Good a b n s) (f : Record → Record)
    (hf : ∀ r, (f r).SameSpot r ∧ (HalfOk r.h → HalfOk (f r).h)) :
    Good a b n { s with train := s.train.map f } := by
  obtain ⟨⟨hlen, htags, hhalf, hconfig, hmark, hhigh, hlow⟩, hstages, hordered⟩ := h
  have half : ∀ x ∈ s.train.map f, HalfOk x.h := fun x hx => by
    obtain ⟨y, hy, rfl⟩ := List.mem_map.mp hx
    exact (hf y).2 (hhalf y hy)
  have tags : ((s.train.map f).map (·.tag)).Nodup := by
    rw [List.map_map, show ((·.tag) ∘ f) = fun r : Record => r.tag from funext fun r => (hf r).1.1]
    exact htags
  refine ⟨⟨?_, tags, half, fun hc => ?_, hmark, ?_, ?_⟩, fun ha => ?_, fun hb => ?_⟩
  · rw [List.length_map]
    exact hlen
  · simp [hconfig hc]
  · rw [List.length_map]
    exact hhigh
  · rw [List.length_map]
    exact hlow
  · obtain ⟨hrank, hnodup, hadmitted⟩ := hstages ha
    refine ⟨List.pairwise_map.mpr (hrank.imp fun {x y} hxy => ?_), ?_, fun x hx => ?_⟩
    · rw [(hf x).1.2.1, (hf y).1.2.1]
      exact hxy
    · rw [List.map_map, show ((·.order) ∘ f) = fun r : Record => r.order from funext fun r => (hf r).1.2.2.2.2.1]
      exact hnodup
    · obtain ⟨y, hy, rfl⟩ := List.mem_map.mp hx
      rw [(hf y).1.2.2.2.2.1]
      exact hadmitted y hy
  · obtain ⟨hord, zone⟩ := hordered hb
    refine ⟨List.pairwise_map.mpr (hord.imp fun {x y} hxy => ?_), tags, fun x hx => ⟨?_, (half x hx).2⟩, zone.candidates,
      zone.eyes, zone.watch, zone.drops, zone.path, zone.slip⟩
    · obtain ⟨⟨-, hsx, -, hpx, hox, -⟩, -⟩ := hf x
      obtain ⟨⟨-, hsy, -, hpy, hoy, -⟩, -⟩ := hf y
      simp only [Record.before, hsx, hpx, hox, hsy, hpy, hoy]
      exact hxy
    · obtain ⟨y, hy, rfl⟩ := List.mem_map.mp hx
      obtain ⟨⟨-, hs, hbasis, hp, -, -⟩, -⟩ := hf y
      obtain ⟨hb, hd⟩ := (zone.records y hy).1
      refine ⟨?_, ?_⟩
      · rw [hbasis, hs]
        exact hb
      · rw [hp, hbasis]
        exact hd

/-- Every elementary change keeps the train sound and in order. -/
theorem good_kept (hba : b → a) (hn : n ≤ 1100000) : KeptThroughout b n (Good a b n) where
  channel _ _ h _ := h.of_view rfl
  dest _ _ h _ := h.of_view rfl
  lot _ _ h _ := h.of_view rfl
  closures h ht := h.of_view (by rw [ht]; rfl)
  fault {s} f h := h.of_view (by unfold State.recordFault; split <;> rfl)
  zone h hb := (h.ordered hb).2
  free {s t} h ht := h.of_view (show t.body.trainView = s.body.trainView from by rw [ht])
  eye {s} e x h hx hc := ⟨h.sound, h.stages, fun hb => by
    obtain ⟨hord, zone⟩ := h.ordered hb
    refine ⟨hord, zone.tags, zone.records, fun k => ?_, fun k => ?_, zone.watch, zone.drops, zone.path, zone.slip⟩
    · by_cases hk : k = e
      · rw [hk, setEye_eye]
        exact hc hb
      · rw [setEye_eye_ne _ _ hk]
        exact zone.candidates k
    · by_cases hk : k = e
      · rw [hk, setEye_eye, hx]
        exact zone.eyes e
      · rw [setEye_eye_ne _ _ hk]
        exact zone.eyes k⟩
  gate {s} g x h hx := ⟨h.sound, h.stages, fun hb => by
    obtain ⟨hord, zone⟩ := h.ordered hb
    refine ⟨hord, zone.tags, zone.records, zone.candidates, zone.eyes, zone.watch, fun k => ?_, zone.path, zone.slip⟩
    by_cases hk : k = g
    · rw [State.dropWait, hk, setGate_gate, hx]
      exact zone.drops g
    · rw [State.dropWait, setGate_gate_ne _ _ hk]
      exact zone.drops k⟩
  queue h ht _ := h.of_view (by rw [ht]; rfl)
  watch {s t} h ht hw _ := by
    rw [ht]
    refine ⟨h.sound, h.stages, fun hb => ?_⟩
    obtain ⟨hord, zone⟩ := h.ordered hb
    refine ⟨hord, zone.tags, zone.records, zone.candidates, zone.eyes, fun w hmem => ?_, zone.drops, zone.path, zone.slip⟩
    have : (w.address, w.offset) ∈ s.watch.map fun w => (w.address, w.offset) :=
      hw ▸ List.mem_map.mpr ⟨w, hmem, rfl⟩
    obtain ⟨y, hy, he⟩ := List.mem_map.mp this
    have ho : y.offset = w.offset := congrArg Prod.snd he
    exact ho ▸ zone.watch y hy
  shrink h ht _ := h.of_view (by rw [ht]; rfl)
  slip h ht hs _ := by
    rw [ht]
    refine ⟨h.sound, h.stages, fun hb => ?_⟩
    obtain ⟨hord, zone⟩ := h.ordered hb
    exact ⟨hord, zone.tags, zone.records, zone.candidates, zone.eyes, zone.watch, zone.drops, zone.path, hs zone.slip⟩
  map f h ht hf := by
    rw [ht]
    exact h.map f hf
  replace _ _ h hr ht ho hh hz := h.replace hba hn hr ht ho hh hz
  add _ h ht hlt hm hh hz := h.add hba hn ht hlt hm hh hz
  takeOut tag h := h.takeOut tag
  reserve h ht _ := h.of_view (by rw [ht]; rfl)
  mode {s t} h ht hs hm := by
    rw [ht]
    obtain ⟨⟨hlen, htags, hhalf, -, hmarks⟩, hstages, hordered⟩ := h
    refine ⟨⟨hlen, htags, hhalf, fun hc => absurd hc hm, hmarks⟩, hstages, fun hb => ?_⟩
    obtain ⟨hord, zone⟩ := hordered hb
    exact ⟨hord, zone.tags, zone.records, zone.candidates, zone.eyes, zone.watch, zone.drops, zone.path, zone.slip⟩
  faults h ht _ _ := h.of_view (by rw [ht]; rfl)

end Sys2Proof.Machine
end

section
namespace Sys2Proof.Machine

/-! ### What follows every event (R35, R95, R198) -/

/-- The state beside what a withdrawal can change. -/
def State.besideWithdrawals (s : State) : State := { s with gates := State.reset.gates, reservations := [], queue := [] }

theorem besideWithdrawals_frame {s t : State} (h : t.besideWithdrawals = s.besideWithdrawals) :
    t = { s with gates := t.gates, reservations := t.reservations, queue := t.queue } :=
  congrArg (fun u : State => { u with gates := t.gates, reservations := t.reservations, queue := t.queue }) h

/-- The state beside what `refresh` can change. -/
def State.besideRefresh (s : State) : State :=
  { s.besideWithdrawals with channels := State.reset.channels, alertPin := false }

theorem besideRefresh_frame {s t : State} (h : t.besideRefresh = s.besideRefresh) :
    t = { s with channels := t.channels, gates := t.gates, reservations := t.reservations, queue := t.queue
                 alertPin := t.alertPin } :=
  congrArg (fun u : State => { u with channels := t.channels, gates := t.gates, reservations := t.reservations
                                      queue := t.queue, alertPin := t.alertPin }) h

theorem besideRefresh_of_besideWithdrawals {s t : State} (h : t.besideWithdrawals = s.besideWithdrawals) :
    t.besideRefresh = s.besideRefresh :=
  congrArg (fun u : State => { u with channels := State.reset.channels, alertPin := false }) h

/-- What every step of a fold leaves as it is, the fold leaves as it is. -/
theorem foldl_view {α β : Type} (view : State → β) (f : State → α → State) (h : ∀ s a, view (f s a) = view s)
    (l : List α) (s : State) : view (l.foldl f s) = view s := by
  induction l generalizing s with
  | nil => rfl
  | cons a l ih => rw [List.foldl_cons, ih, h]

variable (s : State)

theorem queueWithdraw_besideWithdrawals (g : GateIx) : (s.queueWithdraw g).besideWithdrawals = s.besideWithdrawals := by
  unfold State.queueWithdraw
  obtain ⟨-, ho⟩ | ⟨-, ho⟩ := offer_cases s (.withdraw g) 0 <;> rw [ho] <;> rfl

theorem withdrawEntry_besideWithdrawals (g : GateIx) : (s.withdrawEntry g).besideWithdrawals = s.besideWithdrawals := by
  unfold State.withdrawEntry
  split
  · rfl
  · split
    · rfl
    · exact (queueWithdraw_besideWithdrawals _ g).trans rfl

theorem withdrawSuspended_besideWithdrawals : s.withdrawSuspended.besideWithdrawals = s.besideWithdrawals :=
  foldl_view State.besideWithdrawals _ withdrawEntry_besideWithdrawals ..

theorem withdrawSuspended_besideRefresh : s.withdrawSuspended.besideRefresh = s.besideRefresh :=
  besideRefresh_of_besideWithdrawals (withdrawSuspended_besideWithdrawals s)

theorem outputsAfresh_besideRefresh : s.outputsAfresh.besideRefresh = s.besideRefresh :=
  foldl_view State.besideRefresh (fun s c => s.setChannel c (s.shown (s.channel c))) (fun _ _ => rfl) ..

theorem alertAfresh_besideRefresh : s.alertAfresh.besideRefresh = s.besideRefresh := rfl

theorem refresh_besideRefresh : s.refresh.besideRefresh = s.besideRefresh := by
  rw [State.refresh, alertAfresh_besideRefresh, outputsAfresh_besideRefresh, withdrawSuspended_besideRefresh,
    withdrawSuspended_besideRefresh]

theorem refresh_frame : s.refresh = { s with
    channels := s.refresh.channels, gates := s.refresh.gates, reservations := s.refresh.reservations
    queue := s.refresh.queue, alertPin := s.refresh.alertPin } :=
  besideRefresh_frame (refresh_besideRefresh s)

theorem train_of_besideRefresh {s t : State} (h : t.besideRefresh = s.besideRefresh) : t.train = s.train := by
  have := congrArg State.train h
  exact this

@[simp] theorem refresh_train : s.refresh.train = s.train := train_of_besideRefresh (refresh_besideRefresh s)

/-! #### Where nothing is withdrawn -/

/-- Where no suspended gate holds a reservation, none is withdrawn (R95). -/
theorem withdrawSuspended_none (h : ∀ g, s.suspended g = true → s.ownReservation g = none) : s.withdrawSuspended = s := by
  have still : ∀ l : List GateIx, (∀ g ∈ l, s.suspended g = true) → l.foldl State.withdrawEntry s = s := by
    intro l hl
    induction l with
    | nil => rfl
    | cons g l ih =>
      have hg : s.withdrawEntry g = s := by
        unfold State.withdrawEntry
        rw [h g (hl g (by simp))]
      rw [List.foldl_cons, hg]
      exact ih fun k hk => hl k (by simp [hk])
  exact still _ fun g hg => (List.mem_filter.mp hg).2

theorem refresh_unwithdrawn (h : ∀ g, s.suspended g = true → s.ownReservation g = none) :
    s.refresh = s.outputsAfresh.alertAfresh := by
  rw [State.refresh, withdrawSuspended_none s h, withdrawSuspended_none s h]

/-! #### The outputs taken afresh -/

/-- The state beside its channels. -/
def State.besideChannels (s : State) : State := { s with channels := State.reset.channels }

theorem besideChannels_frame {s t : State} (h : t.besideChannels = s.besideChannels) :
    t = { s with channels := t.channels } :=
  congrArg (fun u : State => { u with channels := t.channels }) h

theorem outputsAfresh_frame : s.outputsAfresh = { s with channels := s.outputsAfresh.channels } :=
  besideChannels_frame
    (foldl_view State.besideChannels (fun s c => s.setChannel c (s.shown (s.channel c))) (fun _ _ => rfl) channelIxs s)

theorem setChannel_self (c : ChannelIx) : s.setChannel c (s.channel c) = s := by
  have : s.channels.set c (s.channel c) = s.channels := by simp [State.channel]
  unfold State.setChannel
  rw [this]

theorem outputsAfresh_shown (h : ∀ c, s.channel c = s.shown (s.channel c)) : s.outputsAfresh = s :=
  List.foldl_fixed' (fun c => by rw [← h c, setChannel_self]) _

theorem alertAfresh_follows (h : s.alertPin = ((s.conditions &&& s.alertMask) != 0)) : s.alertAfresh = s := by
  unfold State.alertAfresh
  rw [← h]

/-- Where the pins follow the state, nothing is left to follow an event. -/
theorem refresh_follows (h : s.PinsFollow) : s.refresh = s := by
  obtain ⟨hshown, halert, hres⟩ := h
  rw [refresh_unwithdrawn s hres, outputsAfresh_shown s hshown, alertAfresh_follows s halert]

/-- Where the outputs are shown and no suspended gate holds a reservation, only ALERT is left to follow. -/
theorem refresh_alert (hshown : ∀ c, s.channel c = s.shown (s.channel c))
    (hres : ∀ g, s.suspended g = true → s.ownReservation g = none) : s.refresh = s.alertAfresh := by
  rw [refresh_unwithdrawn s hres, outputsAfresh_shown s hshown]

end Sys2Proof.Machine
end

section
namespace Sys2Proof.Machine

/-! ### O6 and O7: the commands outside the walk -/

theorem firstBroken_none {n : Nat} {l : List Bool} (h : firstBroken n l = none) : ∀ b ∈ l, b = true := by
  induction l generalizing n with
  | nil => simp
  | cons b l ih =>
    unfold firstBroken at h
    split at h
    · rename_i hb
      intro x hx
      obtain rfl | hx := List.mem_cons.mp hx
      · exact hb
      · exact ih h x hx
    · cases h

/-- A descriptor that passes meets every condition of every section (R191). -/
theorem conditions_of_validate {st : Store} (h : st.validate = none) {sec index : Nat}
    (hi : (sec, index) ∈ descriptorOrder) : ∀ b ∈ st.conditionsAt sec index, b = true :=
  firstBroken_none (Option.map_eq_none_iff.mp (List.findSome?_eq_none_iff.mp h _ hi))

theorem highMark_of_validate {st : Store} (h : st.validate = none) : 0 < (st.val 7 0 1).toNat := by
  have := conditions_of_validate h (sec := 7) (index := 0) (by decide) (within (st.val 7 0 1) 2 48) (by
    simp [Store.conditionsAt])
  simp only [within, decide_eq_true_eq] at this
  omega

/-- An empty train with its cause off, at a high mark above 0, is good. -/
theorem good_empty {s : State} (ht : s.train = []) (hc : s.trainCause = false) (hm : 0 < s.highMark) :
    Good True False 0 s := by
  refine ⟨⟨?_, ?_, ?_, fun _ => ht, hm, ?_, fun _ _ => hc⟩, fun _ => ⟨?_, ?_, ?_⟩, fun h => h.elim⟩
  all_goals rw [ht]
  · exact Nat.zero_le _
  · exact List.nodup_nil
  · exact fun r hr => nomatch hr
  · intro h
    exact absurd h (Nat.not_le.mpr hm)
  · exact List.Pairwise.nil
  · exact List.nodup_nil
  · exact fun r hr => nomatch hr

theorem loadRole_train (s : State) : s.loadRole.train = s.train ∧ s.loadRole.trainCause = s.trainCause ∧
    s.loadRole.highMark = s.highMark := by
  unfold State.loadRole
  split <;> exact ⟨rfl, rfl, rfl⟩

/-- A JOIN that passes enters JOINING with an empty train (R126, R192). -/
theorem enterJoining_good {s : State} (ht : s.train = []) (hv : s.store.validate = none) :
    s.loadCommon.loadRole.enterJoining.train = [] ∧ Good True False 0 s.loadCommon.loadRole.enterJoining := by
  obtain ⟨htrain, hcause, hmark⟩ := loadRole_train s.loadCommon
  have empty : s.loadCommon.loadRole.enterJoining.train = [] := htrain.trans ht
  exact ⟨empty, good_empty empty hcause (hmark ▸ highMark_of_validate hv)⟩

theorem queueHold_train (s : State) : s.queueHold.train = s.train := by
  unfold State.queueHold
  split <;> rfl

theorem held_train (s : State) (r : Result) (d : List MaskedByte := []) :
    (s.queueHold.refresh.respond r d).train = s.train := by
  rw [respond_train, refresh_train, queueHold_train]

/-! #### The step of the counters -/

/-- A counted step moves the position by at most 16 mm, for a pitch below 2^16 (R3). -/
theorem counted_near (x : Travel) (reverse : Bool) : (diff (x.counted reverse).position x.position).natAbs ≤ 16 := by
  have hcount : x.count.toNat = x.position.toNat * 4096 + x.fraction.toNat := by
    unfold Travel.count
    rw [BitVec.toNat_append, ← Nat.shiftLeft_add_eq_or_of_lt x.fraction.isLt, Nat.shiftLeft_eq]
  have hp := x.position.isLt
  have hf := x.fraction.isLt
  have hpitch := x.pitch.isLt
  have hw : (x.pitch.setWidth 36).toNat = x.pitch.toNat := by
    rw [BitVec.toNat_setWidth, Nat.mod_eq_of_lt (by omega)]
  rw [diff_eq_wrap24]
  obtain ⟨⟨k, hk⟩, hl, hu⟩ := wrap24_spec (((x.counted reverse).position.toNat : Int) - x.position.toNat)
  have hpos : (x.counted reverse).position.toNat =
      (if reverse then x.count - x.pitch.setWidth 36 else x.count + x.pitch.setWidth 36).toNat / 4096 % 2 ^ 24 := by
    simp only [Travel.counted, BitVec.extractLsb'_toNat, Nat.shiftRight_eq_div_pow]
  cases reverse with
  | false =>
    simp only [Bool.false_eq_true, if_false, BitVec.toNat_add, hw, hcount] at hpos
    omega
  | true =>
    simp only [if_true, BitVec.toNat_sub, hw, hcount] at hpos
    omega

variable {A B : Prop} {n : Nat} {s t : State}

theorem Good.highMark_pos (h : Good A B n s) : 0 < s.highMark := by
  obtain ⟨-, -, -, -, hmark, -⟩ := h.sound
  exact hmark

theorem Good.empty_of_config (h : Good A B n s) : s.mode = .config → s.train = [] := by
  obtain ⟨-, -, -, hconfig, -⟩ := h.sound
  exact hconfig

theorem Good.weaken (h : Good A B n s) : Good A False 0 s ∧ (B → s.TrainInOrder) :=
  ⟨⟨h.sound, h.stages, fun hf => hf.elim⟩, fun hb => (h.ordered hb).1⟩

theorem countStep_pos_near (s : State) (i j : TravelInput) (x : Bool × Bool) (r : Bool) :
    (diff ((s.countStep i x r).pos j) (s.pos j)).natAbs ≤ 16 := by
  cases i <;> cases j
  · exact counted_near s.travelA r
  · exact (congrArg Int.natAbs (diff_self s.travelB.position)).le.trans (Nat.zero_le _)
  · exact (congrArg Int.natAbs (diff_self s.travelA.position)).le.trans (Nat.zero_le _)
  · exact counted_near s.travelB r

/-- A counted step moves no position by more than 16 mm. -/
theorem countStep_moved (s : State) (i j : TravelInput) (x : Bool × Bool) (r : Bool) (p : Pos) (d : Nat)
    (hd : (diff p (s.pos j)).natAbs ≤ d) : (diff p ((s.countStep i x r).pos j)).natAbs ≤ d + 16 := by
  have step := countStep_pos_near s i j x r
  have hswap := diff_swap (a := (s.countStep i x r).pos j) (b := s.pos j) (by omega)
  have := diff_natAbs_trans p (s.pos j) ((s.countStep i x r).pos j)
  omega

theorem countStep_zone (i : TravelInput) (x : Bool × Bool) (r : Bool) (zone : s.Zone n) :
    (s.countStep i x r).Zone (n + 16) := by
  have htrain : (s.countStep i x r).train = s.train := by cases i <;> rfl
  have heye : ∀ e, (s.countStep i x r).eye e = s.eye e := by cases i <;> exact fun _ => rfl
  have hrole : (s.countStep i x r).role = s.role := by cases i <;> rfl
  refine ⟨by rw [htrain]; exact zone.tags, fun y hy => ?_, fun e c hc => ?_,
    fun e he => ?_, by cases i <;> exact zone.watch, by cases i <;> exact zone.drops, by cases i <;> exact zone.path,
    by cases i <;> exact zone.slip⟩
  · rw [htrain] at hy
    obtain ⟨⟨hb, hd⟩, hh⟩ := zone.records y hy
    have := countStep_moved s i y.basis x r y.p _ hd
    refine ⟨⟨?_, this.trans (by omega)⟩, hh⟩
    rw [State.basisOf, hrole]
    exact hb
  · rw [heye] at hc
    obtain ⟨ha, hb⟩ := zone.candidates e c hc
    exact ⟨countStep_moved s i .a x r _ _ ha, countStep_moved s i .b x r _ _ hb⟩
  · rw [heye] at he ⊢
    rw [State.eyeFits, hrole]
    exact zone.eyes e he

theorem Good.countStep (h : Good A B n s) (i : TravelInput) (x : Bool × Bool) (r : Bool) :
    Good A B (n + 16) (s.countStep i x r) := by
  have htrain : (s.countStep i x r).train = s.train := by cases i <;> rfl
  refine ⟨by cases i <;> exact h.sound, fun ha => by cases i <;> exact h.stages ha, fun hb => ⟨?_, ?_⟩⟩
  · rw [State.TrainInOrder, htrain]
    exact (h.ordered hb).1
  · exact countStep_zone i x r (h.ordered hb).2

/-! #### The commands outside the walk -/

/-- A changed reference state moves nothing. -/
theorem Good.reference (h : Good A B n s) (i : TravelInput) (x : Option (Bool × Bool)) :
    Good A B n (s.setTravel i { s.travel i with reference := x }) := h.of_view (by cases i <;> rfl)

theorem Good.illegalStep (hba : B → A) (hn : n ≤ 1100000) (h : Good A B n s) (i : TravelInput) (x : Bool × Bool) :
    Good A B n (s.illegalStep i x) :=
  (good_kept hba hn).refresh ((good_kept hba hn).fault _ (h.reference i _))

theorem onTravelSample_good (hba : B → A) (hn : n + 16 ≤ 1100000) (h : Good A B n s) (i : TravelInput)
    (x : Bool × Bool) : Good A False 0 (s.onTravelSample i x) ∧ (B → (s.onTravelSample i x).TrainInOrder) := by
  unfold State.onTravelSample
  dsimp only
  split
  · exact h.weaken
  · split
    · exact (h.reference i _).weaken
    · split
      · exact h.weaken
      · exact (h.illegalStep hba (by omega) i x).weaken
      · rename_i r _
        have settled := (good_kept hba (by omega)).settle h
        exact ((good_kept hba hn).refresh ((good_kept hba hn).takeStep i x r (settled.countStep i x r))).weaken

theorem onIllegalTransition_good (hba : B → A) (hn : n ≤ 1100000) (h : Good A B n s) (i : TravelInput) :
    Good A B n (s.onIllegalTransition i) := by
  unfold State.onIllegalTransition
  split
  · split
    · exact h
    · exact h.illegalStep hba hn i _
  · exact h

theorem onJoin_good (h : Good A B n s) (hba : B → A) (hn : n ≤ 1100000) :
    Good A False 0 s.onJoin ∧ (B → s.onJoin.TrainInOrder) := by
  unfold State.onJoin
  split
  · exact ((good_kept hba hn).respond h ..).weaken
  · rename_i hm
    split
    · exact ((good_kept hba hn).respond h ..).weaken
    · rename_i hv
      obtain ⟨hempty, hgood⟩ := enterJoining_good (h.empty_of_config (not_not.mp hm)) hv
      have answered := (good_kept (fun hf => hf.elim) (Nat.zero_le _)).answered
        ((good_kept (fun hf => hf.elim) (Nat.zero_le _)).queueHold hgood) .ok
      rw [joinLine_eq]
      refine ⟨⟨answered.sound, fun _ => answered.stages trivial, fun hf => hf.elim⟩, fun _ => ?_⟩
      rw [State.TrainInOrder, held_train, hempty]
      exact List.Pairwise.nil

theorem swept_good (s u : State) (hm : 0 < u.highMark) :
    (s.swept u).train = [] ∧ Good True False 0 (s.swept u) := ⟨rfl, good_empty rfl rfl hm⟩

theorem onLeave_good (h : Good A B n s) (hba : B → A) (hn : n ≤ 1100000) :
    Good A False 0 s.onLeave ∧ (B → s.onLeave.TrainInOrder) := by
  unfold State.onLeave
  split
  · exact ((good_kept hba hn).respond h ..).weaken
  · have marks : s.lotLeave.highMark = s.highMark := by
      obtain ⟨hset, -⟩ := installed_iff.mp ((installed_kept s.installed).lotLeave rfl)
      obtain ⟨-, -, -, -, -, hmark, -⟩ := settings_fields hset
      exact hmark
    obtain ⟨hempty, hgood⟩ := swept_good s s.lotLeave (by rw [marks]; exact h.highMark_pos)
    have answered := (good_kept (fun hf => hf.elim) (Nat.zero_le _)).answered
      ((good_kept (fun hf => hf.elim) (Nat.zero_le _)).queueHold hgood) .ok
    rw [leaveLine_eq]
    refine ⟨⟨answered.sound, fun _ => answered.stages trivial, fun hf => hf.elim⟩, fun _ => ?_⟩
    rw [State.TrainInOrder, held_train, hempty]
    exact List.Pairwise.nil

theorem onDescriptorWrite_good (h : Good A B n s) (i : ItemId) (v : BitVec 32) :
    Good A B n (s.onDescriptorWrite i v) := by
  unfold State.onDescriptorWrite
  split
  · exact h.of_view rfl
  · split <;> exact h.of_view rfl

/-- One command keeps the train sound and in order. -/
theorem exec_good {c : Instr} (hba : B → A) (hn : n + 16 ≤ 1100000) (h : Good A B n s) (ht : exec c s = .next t) :
    Good A False 0 t ∧ (B → t.TrainInOrder) := by
  have hn' : n ≤ 1100000 := by omega
  by_cases hc : ordinary c = true
  · exact ((good_kept hba hn').exec h hc ht).weaken
  · cases c with
    | powerOn =>
      obtain rfl : s.powerOn = t := Host.Outcome.next.inj ht
      have := good_empty (s := s.powerOn) rfl rfl (by decide : 0 < 48)
      exact ⟨⟨this.sound, fun _ => this.stages trivial, fun hf => hf.elim⟩, fun _ => List.Pairwise.nil⟩
    | join => exact next_kept (P := fun t => Good A False 0 t ∧ (B → t.TrainInOrder)) ht (onJoin_good h hba hn')
    | leave => exact next_kept (P := fun t => Good A False 0 t ∧ (B → t.TrainInOrder)) ht (onLeave_good h hba hn')
    | descriptorWrite i v =>
      exact next_kept (P := fun t => Good A False 0 t ∧ (B → t.TrainInOrder)) ht (onDescriptorWrite_good h i v).weaken
    | travelStep i x y =>
      exact next_kept (P := fun t => Good A False 0 t ∧ (B → t.TrainInOrder)) ht (onTravelSample_good hba hn h i (x, y))
    | illegalTransition i =>
      exact next_kept (P := fun t => Good A False 0 t ∧ (B → t.TrainInOrder)) ht
        (onIllegalTransition_good hba hn' h i).weaken
    | _ => exact absurd rfl hc

/-- A step runs the front command on the state that holds the rest; on an empty queue it idles. -/
theorem step_cases (h : step s = .next t) :
    (s.pending = [] ∧ t = s) ∨ ∃ c rest, s.pending = c :: rest ∧ exec c { s with pending := rest } = .next t := by
  unfold step at h
  split at h
  · rename_i hp
    exact .inl ⟨hp, (Host.Outcome.next.inj h).symm⟩
  · rename_i c rest hp
    exact .inr ⟨c, rest, hp, h⟩

theorem step_good (hba : B → A) (hn : n + 16 ≤ 1100000) (h : Good A B n s) (ht : step s = .next t) :
    Good A False 0 t ∧ (B → t.TrainInOrder) := by
  obtain ⟨-, rfl⟩ | ⟨c, rest, -, hc⟩ := step_cases ht
  · exact h.weaken
  · exact exec_good hba hn (h.of_view rfl : Good A B n { s with pending := rest }) hc

/-! ### O6, O7 -/

/-- Settles O6: every elementary change keeps the train sound, and its stages where they were in order. -/
theorem trainSoundEveryStep : Obligations.TrainSoundEveryStep := by
  unfold Obligations.TrainSoundEveryStep
  intro s t hs ht
  have good : Good s.StagesInOrder False 0 s := ⟨hs, id, fun hf => hf.elim⟩
  obtain ⟨kept, -⟩ := step_good (fun hf => hf.elim) (by decide) good ht
  exact ⟨kept.sound, kept.stages⟩

/-- Settles O7: positions stay near through settling and one counted step, and signed differences order what is near. -/
theorem trainOrderEveryStep : Obligations.TrainOrderEveryStep := by
  unfold Obligations.TrainOrderEveryStep
  intro s t hs hstages hord hnear ht
  obtain ⟨-, htags, hhalf, -⟩ := id hs
  obtain ⟨hrecords, hcandidates, heyes, hwatch, hdrops, hpath, hslip⟩ := hnear
  have zone : s.Zone 1048576 := {
    tags := htags
    records := fun r hr => ⟨⟨(hrecords r hr).1, (hrecords r hr).2.trans (Nat.le_add_right ..)⟩, (hhalf r hr).2⟩
    candidates := fun e c hc => hcandidates e c (Option.mem_toList.mpr hc)
    eyes := heyes
    watch := hwatch
    drops := hdrops
    path := fun x hx => hpath x (Option.mem_toList.mpr hx)
    slip := hslip }
  have good : Good True True 1048576 s := ⟨hs, fun _ => hstages, fun _ => ⟨hord, zone⟩⟩
  exact (step_good (fun _ => trivial) (by decide) good ht).2 trivial

end Sys2Proof.Machine
end

section
namespace Sys2Proof.Machine

/-! ### O10: the bounds outside CONFIG -/

/-- The bounds of lists, counts and queue in every tracker state. -/
structure State.Within (s : State) : Prop where
  faults : s.faults.length ≤ Config.faultCapacity
  overflow : s.overflow ≤ Config.overflowLimit
  reservations : s.reservations.length ≤ Config.reservationCapacity
  slip : Config.slipMin ≤ s.slip ∧ s.slip ≤ Config.slipMax
  credits : ∀ w ∈ s.watch, w.credits ≤ Config.creditLimit
  lots : ∀ k : Fin 16, ∀ e ∈ s.lotSlot k, e.Bounded
  queue : QueueFits s.queue

/-- What the bounds look at. -/
def State.boundsView (s : State) : State :=
  { State.reset with
    faults := s.faults, overflow := s.overflow, reservations := s.reservations, slip := s.slip, watch := s.watch
    lots := s.lots, queue := s.queue }

variable {s t : State}

theorem within_view : s.boundsView.Within ↔ s.Within :=
  ⟨fun ⟨hf, ho, hr, hs, hc, hl, hq⟩ => ⟨hf, ho, hr, hs, hc, hl, hq⟩,
    fun ⟨hf, ho, hr, hs, hc, hl, hq⟩ => ⟨hf, ho, hr, hs, hc, hl, hq⟩⟩

theorem State.Within.of_view (h : s.Within) (ht : t.boundsView = s.boundsView) : t.Within :=
  within_view.mp (ht ▸ within_view.mpr h)

theorem State.Within.fault (h : s.Within) (f : FaultRecord) : (s.recordFault f).Within := by
  obtain ⟨hf, ho, hr, hs, hc, hl, hq⟩ := h
  obtain ⟨hlen, he⟩ | ⟨-, he⟩ := recordFault_cases s f <;> rw [he]
  · refine ⟨?_, ho, hr, hs, hc, hl, hq⟩
    rw [List.length_append]
    exact hlen
  · exact ⟨hf, Nat.min_le_left .., hr, hs, hc, hl, hq⟩

theorem State.Within.setLotSlot (h : s.Within) (k : Fin 16) (x : Option LotEntry)
    (hx : ∀ e ∈ x, (∀ y ∈ s.lotSlot k, y.Bounded) → e.Bounded) : (s.setLotSlot k x).Within := by
  refine ⟨h.faults, h.overflow, h.reservations, h.slip, h.credits, fun j e he => ?_, h.queue⟩
  by_cases hj : j = k
  · rw [hj, setLotSlot_lotSlot] at he
    exact hx e he (h.lots k)
  · rw [setLotSlot_lotSlot_ne _ _ hj] at he
    exact h.lots j e he

/-- Every elementary change outside CONFIG keeps the bounds. -/
theorem within_kept : KeptThroughout False 0 fun t => t.mode ≠ .config ∧ t.Within where
  channel _ _ h _ := h.imp id fun h => h.of_view rfl
  dest _ _ h _ := h.imp id fun h => h.of_view rfl
  lot k x h hx := h.imp id fun h => h.setLotSlot k x hx
  closures h ht := by
    rw [ht]
    exact h.imp id fun h => h.of_view rfl
  fault f h := ⟨by rw [recordFault_mode]; exact h.1, h.2.fault f⟩
  zone _ h := h.elim
  free {s t} h ht := by
    have hm : t.mode = s.mode := by
      have := congrArg State.mode ht
      exact this
    exact ⟨hm ▸ h.1, h.2.of_view (show t.body.boundsView = s.body.boundsView from by rw [ht])⟩
  eye _ _ h _ _ := h.imp id fun h => h.of_view rfl
  gate _ _ h _ := h.imp id fun h => h.of_view rfl
  queue h ht hq := by
    rw [ht]
    exact ⟨h.1, h.2.faults, h.2.overflow, h.2.reservations, h.2.slip, h.2.credits, h.2.lots, hq h.2.queue⟩
  watch h ht _ hc := by
    rw [ht]
    exact ⟨h.1, h.2.faults, h.2.overflow, h.2.reservations, h.2.slip, hc h.2.credits, h.2.lots, h.2.queue⟩
  shrink h ht hl := by
    rw [ht]
    exact ⟨h.1, h.2.faults, h.2.overflow, hl.length_le.trans h.2.reservations, h.2.slip, h.2.credits, h.2.lots, h.2.queue⟩
  slip h ht hmax hmin := by
    rw [ht]
    exact ⟨h.1, h.2.faults, h.2.overflow, h.2.reservations, ⟨hmin h.2.slip, hmax h.2.slip.2⟩, h.2.credits, h.2.lots,
      h.2.queue⟩
  map _ h ht _ := by
    rw [ht]
    exact h.imp id fun h => h.of_view rfl
  replace _ _ h _ _ _ _ _ := h.imp id fun h => h.of_view rfl
  add _ h _ _ _ _ _ := h.imp id fun h => h.of_view rfl
  takeOut _ h := h.imp id fun h => h.of_view rfl
  reserve h ht hl := by
    rw [ht]
    exact ⟨h.1, h.2.faults, h.2.overflow, hl h.2.reservations, h.2.slip, h.2.credits, h.2.lots, h.2.queue⟩
  mode h ht _ hm := by
    rw [ht] at hm ⊢
    exact ⟨hm, h.2.of_view rfl⟩
  faults h ht hf ho := by
    rw [ht]
    exact ⟨h.1, hf.trans h.2.faults, ho.trans h.2.overflow, h.2.reservations, h.2.slip, h.2.credits, h.2.lots, h.2.queue⟩

/-! ### O10: at rest in CONFIG -/

/-- The tracker in CONFIG: bounds, few frames, gates and reservations at rest. -/
structure State.AtRest (s : State) : Prop where
  config : s.mode = .config
  within : s.Within
  few : s.queue.length + s.announced.toNat + s.queue.countP TxFrame.oldHold ≤ 3
  reservations : s.reservations = []
  gates : ∀ g : GateIx, (s.gate g).state = .empty ∧ (s.gate g).mark = .none ∧ (s.gate g).withdrawPending = false

/-- What rest looks at. -/
def State.restView (s : State) : State :=
  { s.boundsView with mode := s.mode, announced := s.announced, gates := s.gates }

namespace State.AtRest

theorem of_view (h : s.AtRest) (ht : t.restView = s.restView) : t.AtRest := by
  have view : ∀ {u : State}, u.restView.AtRest ↔ u.AtRest := fun {u} =>
    ⟨fun ⟨hm, hw, hf, hr, hg⟩ => ⟨hm, within_view.mp (hw.of_view (t := u.boundsView) rfl), hf, hr, hg⟩,
      fun ⟨hm, hw, hf, hr, hg⟩ => ⟨hm, hw.of_view rfl, hf, hr, hg⟩⟩
  exact view.mp (ht ▸ view.mpr h)

/-! #### In CONFIG no event comes due -/

theorem joined (h : s.AtRest) : s.joined = false := by simp [State.joined, h.config]

theorem live (h : s.AtRest) : s.live = false := by simp [State.live, h.config]

theorem serving (h : s.AtRest) : s.serving = false := by simp [State.serving, h.live, h.config]

theorem suspended (h : s.AtRest) (g : GateIx) : s.suspended g = true := by simp [State.suspended, h.config]

theorem ownReservation (h : s.AtRest) (g : GateIx) : s.ownReservation g = none := by
  simp [State.ownReservation, h.reservations]

theorem eyeRuns (h : s.AtRest) (e : EyeIx) : s.eyeRuns e = false := by simp [State.eyeRuns, h.joined]

theorem onEdgeAccepted (h : s.AtRest) (e : EyeIx) : s.onEdgeAccepted e = s := by simp [State.onEdgeAccepted, h.eyeRuns]

theorem onJam (h : s.AtRest) (e : EyeIx) : s.onJam e = s := by simp [State.onJam, h.eyeRuns]

theorem onPulseRetired (h : s.AtRest) (c : ChannelIx) : s.onPulseRetired c = s := by
  simp [State.onPulseRetired, State.retirementDue, State.ended, h.joined]

theorem dueEvents (h : s.AtRest) (kinds : List TravelEvent) : s.dueEvents kinds = [] := by
  have none : ∀ r k, s.dueOf r k = .none := fun r k => by
    unfold State.dueOf
    split
    · simp [h.live]
    · rfl
  simp [State.dueEvents, none]

theorem dueRecord (h : s.AtRest) (k : TravelEvent) (tag : Tag) : s.dueRecord k tag = none := by
  simp [State.dueRecord, h.dueEvents, firstDue]

theorem settleTrain (h : s.AtRest) (n : Nat) : s.settleTrain n = s := by
  cases n <;> simp [State.settleTrain, State.nextDue, h.dueEvents, firstDue]

theorem onReleaseEnd (h : s.AtRest) (g : GateIx) : s.onReleaseEnd g = s := by
  have : s.releaseEndDue g = false := by
    unfold State.releaseEndDue
    split <;> simp [(h.gates g).1]
  simp [State.onReleaseEnd, this]

theorem onSpacerBegun (h : s.AtRest) (g : GateIx) : s.onSpacerBegun g = s := by
  have : s.spacerBeginDue g = false := by
    unfold State.spacerBeginDue
    split <;> simp [(h.gates g).1]
  simp [State.onSpacerBegun, this]

theorem onPatienceReached (h : s.AtRest) (g : GateIx) : s.onPatienceReached g = s := by
  simp [State.onPatienceReached, State.patienceDue, (h.gates g).1]

theorem onReservationVoid (h : s.AtRest) (g : GateIx) : s.onReservationVoid g = s := by
  simp [State.onReservationVoid, State.voidDue, h.ownReservation]

theorem onReservationExpiry (h : s.AtRest) (a : Addr) (g : GateIx) : s.onReservationExpiry a g = s := by
  simp [State.onReservationExpiry, State.expired, h.reservations]

theorem canCommit (h : s.AtRest) (g : GateIx) : s.canCommit g = false := by simp [State.canCommit, (h.gates g).1]

theorem canSpacer (h : s.AtRest) (g : GateIx) : s.canSpacer g = false := by simp [State.canSpacer, h.suspended]

theorem canReserve (h : s.AtRest) (g : GateIx) : s.canReserve g = false := by simp [State.canReserve, (h.gates g).1]

theorem alignmentMissed (h : s.AtRest) (g : GateIx) : s.alignmentMissed g = false := by
  simp [State.alignmentMissed, h.ownReservation]

theorem markDue (h : s.AtRest) (g : GateIx) : s.markDue g = false := by simp [State.markDue, (h.gates g).2.1]

theorem withdrawDue (h : s.AtRest) (g : GateIx) : s.withdrawDue g = false := by simp [State.withdrawDue, (h.gates g).2.2]

theorem settleGates (h : s.AtRest) (n : Nat) : s.settleGates n = s :=
  settleGates_none s n (by
    simp [State.gatesDue, h.canCommit, h.canSpacer, h.canReserve, h.alignmentMissed, h.markDue, h.withdrawDue])

/-- At rest nothing is due but a HOLD off. -/
theorem settle_eq (h : s.AtRest) : s.settle = s.onHoldQueued := by
  unfold State.settle
  dsimp only
  rw [List.foldl_fixed' h.onEdgeAccepted, List.foldl_fixed' h.onPulseRetired, List.foldl_fixed' h.onJam, h.settleTrain,
    List.foldl_fixed' h.onReleaseEnd, State.beginSpacers, List.foldl_fixed' h.onSpacerBegun,
    List.foldl_fixed' h.onPatienceReached, State.voidReached, List.foldl_fixed' h.onReservationVoid, State.settleExpiries,
    List.foldl_fixed' fun r : Reservation => h.onReservationExpiry r.reserver r.gate, h.settleGates]

/-! #### What CONFIG still does -/

theorem outputsAfresh (h : s.AtRest) : s.outputsAfresh.AtRest := by
  rw [outputsAfresh_frame]
  generalize s.outputsAfresh.channels = c
  exact h.of_view rfl

theorem alertAfresh (h : s.AtRest) : s.alertAfresh.AtRest := h.of_view rfl

theorem refresh (h : s.AtRest) : s.refresh.AtRest := by
  rw [refresh_unwithdrawn s fun g _ => h.ownReservation g]
  exact h.outputsAfresh.alertAfresh

theorem fault (h : s.AtRest) (f : FaultRecord) : (s.recordFault f).AtRest := by
  have within := h.within.fault f
  obtain ⟨-, he⟩ | ⟨-, he⟩ := recordFault_cases s f <;> rw [he] at within ⊢
  · exact ⟨h.config, within, h.few, h.reservations, h.gates⟩
  · exact ⟨h.config, within, h.few, h.reservations, h.gates⟩

/-- A change of the queue and the announced state that keeps the frames few. -/
theorem queued (h : s.AtRest) (q : List TxFrame) (b : Bool) (hq : QueueFits q)
    (hf : q.length + b.toNat + q.countP TxFrame.oldHold ≤ s.queue.length + s.announced.toNat + s.queue.countP TxFrame.oldHold) :
    { s with queue := q, announced := b }.AtRest :=
  ⟨h.config, ⟨h.within.faults, h.within.overflow, h.within.reservations, h.within.slip, h.within.credits, h.within.lots, hq⟩,
    hf.trans h.few, h.reservations, h.gates⟩

/-- A frame leaves the head of the queue. -/
theorem popped (h : s.AtRest) {q : TxFrame} {rest : List TxFrame} (hq : s.queue = q :: rest) :
    { s with queue := rest }.AtRest :=
  h.queued rest s.announced (hq ▸ h.within.queue).tail (by rw [hq, List.length_cons, List.countP_cons]; omega)

theorem lots : KeptByLots State.AtRest where
  channel _ _ h _ := h.of_view rfl
  dest _ _ h _ := h.of_view rfl
  lot k x h hx := ⟨h.config, h.within.setLotSlot k x hx, h.few, h.reservations, h.gates⟩
  closures h ht := by
    rw [ht]
    exact h.of_view rfl
  fault f h := h.fault f

theorem attemptEnded (h : s.AtRest) : s.attemptEnded.AtRest := by
  unfold State.attemptEnded
  split
  · exact h
  · rename_i q rest hq
    have hfits := hq ▸ h.within.queue
    split
    · exact h
    · split
      · rename_i ho
        split
        · rename_i b r hb
          refine h.queued rest true hfits.tail ?_
          have hold : q.oldHold = true := by simp [TxFrame.oldHold, isHold, ho, hb]
          rw [hq, List.length_cons, List.countP_cons, if_pos hold, Bool.toNat_true]
          omega
        · exact h.popped hq
      · rename_i ho
        split
        · exact h.popped hq
        · refine h.queued _ s.announced (hfits.head { q with underWay := false } rfl fun h' => absurd h' ho) ?_
          have same : TxFrame.oldHold { q with underWay := false } = q.oldHold := rfl
          rw [hq, List.countP_cons, List.countP_cons, same, List.length_cons, List.length_cons]

theorem busy (h : s.AtRest) (b : Bool) : { s with busIdle := b }.AtRest := h.of_view rfl

theorem holding (h : s.AtRest) : s.holding = false := by simp [State.holding, h.joined]

/-- In CONFIG the HOLD to be queued is HOLD off. -/
theorem queueHold (h : s.AtRest) : s.queueHold.AtRest := by
  unfold State.queueHold
  split
  · rename_i hd
    simp only [State.holdDue, h.holding, Bool.and_eq_true, bne_iff_ne, ne_eq] at hd
    obtain ⟨⟨hann, hroom⟩, -⟩ := hd
    have hann : s.announced = true := by simpa using Ne.symm hann
    have fits := push_fits (s := s) (f := .hold s.holding (if s.holding then s.causes else 0)) hroom 0 h.within.queue
    have step := h.queued (s.queue ++ [TxFrame.new (.hold s.holding (if s.holding then s.causes else 0)) 0]) s.holding fits (by
      have new : ∀ r, TxFrame.oldHold (TxFrame.new (.hold false r) 0) = false := fun _ => rfl
      rw [h.holding, hann, List.length_append, List.countP_append, List.countP_singleton, new]
      simp)
    exact step.of_view rfl
  · exact h

theorem onHoldQueued (h : s.AtRest) : s.onHoldQueued.AtRest := by
  unfold State.onHoldQueued
  split
  · exact h.queueHold.refresh
  · exact h

theorem respond (h : s.AtRest) (r : Result) (d : List MaskedByte) : (s.respond r d).AtRest := h.of_view rfl

theorem answered (h : s.AtRest) (r : Result) (d : List MaskedByte := []) : (s.refresh.respond r d).AtRest :=
  h.refresh.respond r d

theorem accept (h : s.AtRest) (a : Addr) (f : Frame) : (s.accept a f).AtRest := by
  unfold State.accept
  dsimp only
  split
  · exact h.attemptEnded.busy false
  · rename_i hm
    exact absurd (h.attemptEnded.busy false).config hm

theorem isHold_filledFrame (s : State) (q y : TxFrame) (hy : y.frame = s.filledFrame q) : isHold y = isHold q := by
  unfold isHold
  rw [hy]
  unfold State.filledFrame
  cases q.frame with
  | reserve f =>
    dsimp only
    cases s.ownReservation f.gate <;> rfl
  | _ => rfl

theorem startAttempt (h : s.AtRest) : s.startAttempt.AtRest := by
  unfold State.startAttempt
  split
  · exact h
  · rename_i q rest hq
    have step := h.queued _ s.announced ((hq ▸ h.within.queue).head { q with
        frame := s.filledFrame q, sender := s.ownAddress, underWay := true, stamped := takesSequence q.frame }
      (filledFrame_feedClass s q) fun _ => rfl) (by
        have same : TxFrame.oldHold { q with
            frame := s.filledFrame q, sender := s.ownAddress, underWay := true, stamped := takesSequence q.frame } =
          q.oldHold := congrArg (q.orphan && ·) (isHold_filledFrame s q _ rfl)
        rw [hq, List.countP_cons, List.countP_cons, same, List.length_cons, List.length_cons])
    exact step.of_view rfl

theorem failAttempt (h : s.AtRest) : s.failAttempt.AtRest := by
  unfold State.failAttempt
  split
  · exact h
  · rename_i q rest hq
    have hfits := hq ▸ h.within.queue
    split
    · exact h.attemptEnded
    · rename_i hold
      split
      · have gone : ({ s with queue := rest }.abandonedFault q.frame).AtRest := (h.popped hq).fault _
        unfold State.handBack
        split
        · simp only [(gone.gates _).2.1]
          exact gone
        · simp only [gone.ownReservation]
          exact gone
        · split
          · exact gone
          · rename_i on r _ _
            have comm : { s with queue := rest }.abandonedFault q.frame =
                { s.abandonedFault q.frame with queue := rest } := recordFault_queue_comm ..
            have whole : (s.abandonedFault q.frame).queue = q :: rest := by
              unfold State.abandonedFault
              rw [recordFault_queue, hq]
            have faulted : (s.abandonedFault q.frame).AtRest := h.fault _
            rw [comm]
            exact faulted.queued rest (!on) hfits.tail (by
              rw [whole, List.length_cons, List.countP_cons]
              have := Bool.toNat_le (!on)
              omega)
        · rw [if_neg (by rw [gone.config]; simp)]
          exact gone
        · exact gone
      · refine h.queued _ s.announced
          (hfits.head { q with underWay := false, failed := q.failed + 1 } rfl fun ho => absurd ?_ hold) ?_
        · have ho' : q.orphan = true := ho
          simp [ho']
        · have same : TxFrame.oldHold { q with underWay := false, failed := q.failed + 1 } = q.oldHold := rfl
          rw [hq, List.countP_cons, List.countP_cons, same, List.length_cons, List.length_cons]

theorem onTxComplete (h : s.AtRest) : s.onTxComplete.AtRest := by
  unfold State.onTxComplete
  split
  · exact h
  · rename_i q rest hq
    split
    · exact h
    · have gone : { s with queue := rest, busIdle := false }.AtRest := (h.popped hq).of_view rfl
      dsimp only
      rw [if_pos (by simp [h.config])]
      exact gone.refresh

theorem gateCommand (h : s.AtRest) (b : Byte) (take : GateIx → State) : (s.gateCommand b take).AtRest := by
  unfold State.gateCommand
  rw [if_pos (by simp [h.serving])]
  exact h.respond ..

theorem onEyeRawChange (h : s.AtRest) (e : EyeIx) (b : Bool) : (s.onEyeRawChange e b).AtRest := by
  have idle : s.acceptIfDue e = s := by
    unfold State.acceptIfDue
    split
    · simp [h.eyeRuns]
    · rfl
  have pinned : (s.setEye e { s.eye e with pinHigh := b }).AtRest := h.of_view rfl
  unfold State.onEyeRawChange
  dsimp only
  rw [idle, pinned.eyeRuns, if_neg (by simp)]
  exact pinned

theorem onGateCommit (h : s.AtRest) (g : GateIx) : s.onGateCommit g = s := by simp [State.onGateCommit, h.canCommit]

theorem onSpacerCommit (h : s.AtRest) (g : GateIx) : s.onSpacerCommit g = s := by
  simp [State.onSpacerCommit, h.canSpacer]

theorem onReservationSent (h : s.AtRest) (g : GateIx) : s.onReservationSent g = s := by
  simp [State.onReservationSent, h.canReserve]

theorem onReservationWithdrawn (h : s.AtRest) (g : GateIx) : s.onReservationWithdrawn g = s := by
  simp [State.onReservationWithdrawn, h.alignmentMissed]

theorem onLotmarkQueued (h : s.AtRest) (g : GateIx) : s.onLotmarkQueued g = s := by
  simp [State.onLotmarkQueued, h.markDue]

theorem onWithdrawQueued (h : s.AtRest) (g : GateIx) : s.onWithdrawQueued g = s := by
  simp [State.onWithdrawQueued, h.withdrawDue]

theorem discardedFrame (h : s.AtRest) {bits : List Bool} (ht : execDiscardedFrame bits s = .next t) : t.AtRest := by
  unfold execDiscardedFrame at ht
  split at ht
  · exact next_kept ht (h.attemptEnded.busy false)
  · exact next_kept ht (h.accept ..)

theorem onBusIdle (h : s.AtRest) : s.onBusIdle.AtRest := by
  unfold State.onBusIdle
  split
  · exact h
  · exact h.busy true

theorem onTxAttemptStart (h : s.AtRest) : s.onTxAttemptStart.AtRest := by
  unfold State.onTxAttemptStart
  split
  · rw [State.voidReached, List.foldl_fixed' h.onReservationVoid]
    exact h.startAttempt
  · exact h

theorem onArbitrationLost (h : s.AtRest) : s.onArbitrationLost.AtRest := by
  unfold State.onArbitrationLost
  split
  · exact (h.attemptEnded.busy false).refresh
  · exact h

theorem onBusError (h : s.AtRest) : s.onBusError.AtRest := by
  unfold State.onBusError
  split
  · exact (h.failAttempt.busy false).refresh
  · exact h

theorem onStopAsserted (h : s.AtRest) : s.onStopAsserted.AtRest := by
  unfold State.onStopAsserted
  dsimp only
  rw [if_neg (by simp [h.config])]
  exact h.of_view rfl

theorem onStopReleased (h : s.AtRest) : s.onStopReleased.AtRest := by
  unfold State.onStopReleased
  dsimp only
  rw [if_neg (by simp [h.config])]
  exact h.of_view rfl

theorem onSettleTimer (h : s.AtRest) : s.onSettleTimer = s := by
  unfold State.onSettleTimer
  split
  · rename_i hm _
    exact absurd (h.config.symm.trans hm) (by simp)
  · rfl

theorem transactionCut (h : s.AtRest) (x : Cut) : (s.onTransactionCut x).AtRest := by
  cases x with
  | command => exact h
  | response k => exact h.of_view rfl

theorem unknownCommand (h : s.AtRest) (b : Byte) : (s.onUnknownCommand b).AtRest := by
  unfold State.onUnknownCommand
  split
  · exact h.respond ..
  · exact h

theorem descriptorRead (h : s.AtRest) (i : ItemId) : (s.onDescriptorRead i).AtRest := by
  unfold State.onDescriptorRead
  split <;> exact h.respond ..

theorem rejectNext (h : s.AtRest) (b : Byte) :
    (if b = 4 then s.rejectNextExit else s.gateCommand b s.rejectNextAt).AtRest := by
  split
  · unfold State.rejectNextExit
    rw [if_pos (by simp [h.serving])]
    exact h.respond ..
  · exact h.gateCommand ..

theorem rejectTag (h : s.AtRest) (tag : Tag) : (s.onRejectTag tag).AtRest := by
  unfold State.onRejectTag
  rw [if_pos (by simp [h.serving])]
  exact h.respond ..

theorem readTrain (h : s.AtRest) (b : Byte) : (s.onReadTrain b).AtRest := by
  unfold State.onReadTrain
  split
  · exact h.respond ..
  · split <;> exact h.respond ..

theorem readRecord (h : s.AtRest) (tag : Tag) : (s.onReadRecord tag).AtRest := by
  unfold State.onReadRecord
  split <;> exact h.respond ..

theorem readLot (h : s.AtRest) (b : Byte) : (s.onReadLot b).AtRest := by
  unfold State.onReadLot
  split
  · dsimp only
    split <;> exact h.respond ..
  · exact h.respond ..

theorem readLotNotice (h : s.AtRest) : s.onReadLotNotice.AtRest := by
  unfold State.onReadLotNotice
  split
  · exact h.respond ..
  · split
    · exact h.respond ..
    · rename_i k _ _ e he
      exact (lots.lot k (some { e with noticeUnread := false }) h fun y hy hb => by
        obtain rfl := Option.some.inj hy
        exact hb e he).answered _ _

theorem fewerFaults (h : s.AtRest) (l : List FaultRecord) (n : Nat) (hl : l.length ≤ s.faults.length)
    (hn : n ≤ s.overflow) : { s with faults := l, overflow := n }.AtRest :=
  ⟨h.config, ⟨hl.trans h.within.faults, hn.trans h.within.overflow, h.within.reservations, h.within.slip, h.within.credits,
    h.within.lots, h.within.queue⟩, h.few, h.reservations, h.gates⟩

theorem readFault (h : s.AtRest) : s.onReadFault.AtRest := by
  unfold State.onReadFault
  split
  · rename_i f rest hf
    exact (h.fewerFaults rest s.overflow (by simp [hf]) le_rfl).answered _ _
  · exact h.respond ..

theorem clearFaults (h : s.AtRest) : s.onClearFaults.AtRest :=
  (h.fewerFaults [] 0 (Nat.zero_le _) (Nat.zero_le _)).answered _

/-! #### Travel at rest -/

theorem setTravel (h : s.AtRest) (i : TravelInput) (x : Travel) : (s.setTravel i x).AtRest := by
  cases i <;> exact h.of_view rfl

theorem takeStep (h : s.AtRest) (i : TravelInput) (x : Bool × Bool) (r : Bool) : (s.takeStep i x r).AtRest := by
  have counted : (s.countStep i x r).AtRest := (h.setTravel i { (s.travel i).counted r with reference := some x }).of_view rfl
  have unpaid : (s.countStep i x r).payOutlet = s.countStep i x r := by
    unfold State.payOutlet
    rw [if_neg (by simp [counted.live])]
  have unseen : ∀ j first inc, eyeIxs.foldl (fun s e => s.stepEye j first inc e) (s.countStep i x r) = s.countStep i x r :=
    fun j first inc => List.foldl_fixed' (fun e => by simp [State.stepEye, counted.eyeRuns]) _
  have waiting : ∀ inc, gateIxs.foldl (fun s g => s.stepPatience inc g) (s.countStep i x r) = s.countStep i x r :=
    fun inc => List.foldl_fixed' (fun g => by simp [State.stepPatience, (counted.gates g).1]) _
  unfold State.takeStep
  dsimp only
  split
  · exact counted
  · split
    · rw [unpaid, unseen, waiting]
      exact counted
    · rw [unseen]
      exact counted

theorem illegalStep (h : s.AtRest) (i : TravelInput) (x : Bool × Bool) : (s.illegalStep i x).AtRest :=
  ((h.setTravel i _).fault _).refresh

theorem onTravelSample (h : s.AtRest) (i : TravelInput) (x : Bool × Bool) : (s.onTravelSample i x).AtRest := by
  unfold State.onTravelSample
  dsimp only
  split
  · exact h
  · split
    · exact h.setTravel i _
    · split
      · exact h
      · exact h.illegalStep i x
      · rw [h.settle_eq]
        exact (h.onHoldQueued.takeStep i x _).refresh

theorem onIllegalTransition (h : s.AtRest) (i : TravelInput) : (s.onIllegalTransition i).AtRest := by
  unfold State.onIllegalTransition
  split
  · split
    · exact h
    · exact h.illegalStep i _
  · exact h

theorem onDescriptorWrite (h : s.AtRest) (i : ItemId) (v : BitVec 32) : (s.onDescriptorWrite i v).AtRest := by
  unfold State.onDescriptorWrite
  split
  · exact h.respond ..
  · split
    · exact h.respond ..
    · exact h.of_view rfl

end State.AtRest

/-- At rest an ordinary command keeps the rest. -/
theorem exec_atRest {c : Instr} (h : s.AtRest) (hc : ordinary c = true) (ht : exec c s = .next t) : t.AtRest := by
  have same {u : State} (hu : u = s) : u.AtRest := hu ▸ h
  have due (k : TravelEvent) (tag : Tag) : (match s.dueRecord k tag with
      | some r => (s.takeEvent r k).refresh
      | none => s).AtRest := by
    rw [h.dueRecord]
    exact h
  cases c with
  | powerOn => cases hc
  | join => cases hc
  | leave => cases hc
  | descriptorWrite => cases hc
  | travelStep => cases hc
  | illegalTransition => cases hc
  | eyeRawChange e b => exact next_kept ht (h.onEyeRawChange e b)
  | edgeAccepted e => exact next_kept ht (same (h.onEdgeAccepted e))
  | jam e => exact next_kept ht (same (h.onJam e))
  | pulseRetired c => exact next_kept ht (same (h.onPulseRetired c))
  | windowClosure tag => exact next_kept ht (due .closure tag)
  | deadReckoning tag => exact next_kept ht (due .reckoning tag)
  | cleared tag => exact next_kept ht (due .clearance tag)
  | departed tag => exact next_kept ht (due .departure tag)
  | release a f => exact next_kept ht (h.accept a (.release f))
  | handoff a f => exact next_kept ht (h.accept a (.handoff f))
  | lost a tag x => exact next_kept ht (h.accept a (.lost tag x))
  | mark a tag m => exact next_kept ht (h.accept a (.mark tag m))
  | hold a on x => exact next_kept ht (h.accept a (.hold on x))
  | reserve a f => exact next_kept ht (h.accept a (.reserve f))
  | withdraw a g => exact next_kept ht (h.accept a (.withdraw g))
  | lotmark a f => exact next_kept ht (h.accept a (.lotmark f))
  | joinFrame a x y => exact next_kept ht (h.accept a (.join x y))
  | discardedFrame bits => exact h.discardedFrame ht
  | busIdle => exact next_kept ht h.onBusIdle
  | txAttemptStart => exact next_kept ht h.onTxAttemptStart
  | arbitrationLost => exact next_kept ht h.onArbitrationLost
  | busError => exact next_kept ht h.onBusError
  | txComplete => exact next_kept ht h.onTxComplete
  | lotmarkQueued g => exact next_kept ht (same (h.onLotmarkQueued g))
  | withdrawQueued g => exact next_kept ht (same (h.onWithdrawQueued g))
  | holdQueued => exact next_kept ht h.onHoldQueued
  | gateCommit g => exact next_kept ht (same (h.onGateCommit g))
  | spacerCommit g => exact next_kept ht (same (h.onSpacerCommit g))
  | spacerBegun g => exact next_kept ht (same (h.onSpacerBegun g))
  | releaseEnd g => exact next_kept ht (same (h.onReleaseEnd g))
  | patienceReached g => exact next_kept ht (same (h.onPatienceReached g))
  | reservationSent g => exact next_kept ht (same (h.onReservationSent g))
  | reservationVoid g => exact next_kept ht (same (h.onReservationVoid g))
  | reservationWithdrawn g => exact next_kept ht (same (h.onReservationWithdrawn g))
  | reservationExpiry a g => exact next_kept ht (same (h.onReservationExpiry a g))
  | stopAsserted => exact next_kept ht h.onStopAsserted
  | stopReleased => exact next_kept ht h.onStopReleased
  | settleTimerExpiry => exact next_kept ht (same h.onSettleTimer)
  | transactionCut x => exact next_kept ht (h.transactionCut x)
  | unknownCommand b => exact next_kept ht (h.unknownCommand b)
  | descriptorRead i => exact next_kept ht (h.descriptorRead i)
  | load b k => exact next_kept ht (h.gateCommand b _)
  | unload b => exact next_kept ht (h.gateCommand b _)
  | holdSet b => exact next_kept ht (h.gateCommand b _)
  | holdClear b => exact next_kept ht (h.gateCommand b _)
  | blockSet b => exact next_kept ht (h.gateCommand b _)
  | blockClear b => exact next_kept ht (h.gateCommand b _)
  | lotChange b x => exact next_kept ht (h.gateCommand b _)
  | gapRequest b => exact next_kept ht (h.gateCommand b _)
  | rejectNext b => exact next_kept ht (h.rejectNext b)
  | rejectTag tag => exact next_kept ht (h.rejectTag tag)
  | lineHoldSet => exact next_kept ht ((h.of_view rfl : { s with lineHold := true }.AtRest).answered _)
  | lineHoldClear => exact next_kept ht ((h.of_view rfl : { s with lineHold := false }.AtRest).answered _)
  | wrapAck => exact next_kept ht ((h.of_view rfl : { s with wrapAlarm := false }.AtRest).answered _)
  | setAlertMask m => exact next_kept ht ((h.of_view rfl : { s with alertMask := m }.AtRest).answered _)
  | readStatus => exact next_kept ht (h.respond ..)
  | readTrain b => exact next_kept ht (h.readTrain b)
  | readRecord tag => exact next_kept ht (h.readRecord tag)
  | readFault => exact next_kept ht h.readFault
  | clearFaults => exact next_kept ht h.clearFaults
  | readLot b => exact next_kept ht (h.readLot b)
  | readLotNotice => exact next_kept ht h.readLotNotice
  | readTravel => exact next_kept ht (h.respond ..)

end Sys2Proof.Machine
end

section
namespace Sys2Proof.Machine

/-! ### O10: the commands that change the tracker state by name, and the statement -/

variable {s t : State}

theorem powerOn_atRest (s : State) : s.powerOn.AtRest := by
  refine ⟨rfl, ⟨Nat.zero_le _, Nat.zero_le _, Nat.zero_le _, ?_, fun w hw => (nomatch hw), fun k e he => ?_, ?_⟩, Nat.zero_le _, rfl,
    fun g => ?_⟩
  · exact (by decide : Config.slipMin ≤ Config.slipDefault ∧ Config.slipDefault ≤ Config.slipMax)
  · simp [State.lotSlot, State.powerOn, State.reset] at he
  · exact ⟨Nat.zero_le _, Nat.zero_le _, fun x hx => (nomatch hx), fun x hx => nomatch hx⟩
  · simp [State.gate, State.powerOn, State.reset, Gate.reset]

/-! #### LEAVE -/

/-- Only the head can be under way, so LEAVE leaves at most one frame (R187). -/
theorem leaveQueue_cases {q : List TxFrame} (h : QueueFits q) :
    leaveQueue q = [] ∨ ∃ x, x.underWay = true ∧ x.orphan = true ∧ leaveQueue q = [x] := by
  obtain ⟨-, -, htail, -⟩ := h
  cases q with
  | nil => exact .inl rfl
  | cons x rest =>
    have others : leaveQueue rest = [] := by
      unfold leaveQueue
      rw [List.filterMap_eq_nil_iff]
      intro y hy
      simp [htail y hy]
    unfold leaveQueue at others ⊢
    by_cases hx : x.underWay = true
    · exact .inr ⟨{ x with orphan := true }, hx, rfl, by simp [hx, others]⟩
    · exact .inl (by simp [hx, others])

theorem leaveQueue_fits {q : List TxFrame} (h : QueueFits q) : QueueFits (leaveQueue q) := by
  obtain he | ⟨x, hu, -, he⟩ := leaveQueue_cases h <;> rw [he]
  · exact ⟨Nat.zero_le _, Nat.zero_le _, fun x hx => (nomatch hx), fun x hx => nomatch hx⟩
  · have one : [x].length ≤ 1 := le_rfl
    refine ⟨one.trans (by decide), (List.countP_le_length.trans one).trans (by decide), fun y hy => (nomatch hy), fun y hy _ => ?_⟩
    rw [List.mem_singleton.mp hy]
    exact hu

theorem leaveQueue_few {q : List TxFrame} (h : QueueFits q) (b : Bool) :
    (leaveQueue q).length + b.toNat + (leaveQueue q).countP TxFrame.oldHold ≤ 3 := by
  have hb := Bool.toNat_le b
  have hc : (leaveQueue q).countP TxFrame.oldHold ≤ (leaveQueue q).length := List.countP_le_length
  obtain he | ⟨x, -, -, he⟩ := leaveQueue_cases h
  · rw [he] at hc ⊢
    simp only [List.length_nil] at hc ⊢
    omega
  · rw [he] at hc ⊢
    simp only [List.length_singleton] at hc ⊢
    omega

theorem swept_atRest (u : State) (hs : s.Within) (hu : u.Within) : (s.swept u).AtRest := by
  refine ⟨rfl, ⟨hu.faults, hu.overflow, Nat.zero_le _, hu.slip, fun w hw => ?_, hu.lots, leaveQueue_fits hs.queue⟩,
    leaveQueue_few hs.queue _, rfl, fun g => ?_⟩
  · obtain ⟨y, -, rfl⟩ := List.mem_map.mp hw
    exact Nat.zero_le _
  · simp [State.gate, State.swept, Gate.leave, Gate.reset]

theorem onLeave_atRest (h : s.Within) (hm : s.mode ≠ .config) : s.onLeave.AtRest := by
  have lots : s.lotLeave.Within := (within_kept.lotLeave ⟨hm, h⟩).2
  unfold State.onLeave
  rw [if_neg hm, leaveLine_eq]
  exact (swept_atRest s.lotLeave h lots).queueHold.answered _

/-! #### JOIN -/

theorem watchList_credits (st : Store) : ∀ w ∈ st.watchList, w.credits ≤ Config.creditLimit := by
  intro w hw
  obtain ⟨i, -, hi⟩ := List.mem_filterMap.mp hw
  split at hi
  · obtain rfl := Option.some.inj hi
    exact Nat.zero_le _
  · cases hi

theorem slipInitial_of_validate {st : Store} (h : st.validate = none) (hr : st.role = some .ironer) :
    Config.slipMin ≤ st.ironerSettings.slipInitial ∧ st.ironerSettings.slipInitial ≤ Config.slipMax := by
  have := conditions_of_validate h (sec := 9) (index := 0) (by decide) (within (st.val 9 0 2) 15360 17408) (by
    simp [Store.conditionsAt, hr])
  simp only [within, decide_eq_true_eq] at this
  simp only [Store.ironerSettings, Config.slipMin, Config.slipMax]
  omega

/-- The settings loaded at JOIN: an IRONER's F within its range (R16), a watch list without credits (R132). -/
theorem loadRole_within (h : s.AtRest) (hv : s.store.validate = none) : s.loadCommon.loadRole.Within := by
  have common : s.loadCommon.Within := ⟨h.within.faults, h.within.overflow, h.within.reservations, h.within.slip,
    watchList_credits s.store, h.within.lots, h.within.queue⟩
  unfold State.loadRole
  split
  · rename_i hr
    refine ⟨common.faults, common.overflow, common.reservations, ?_, common.credits, common.lots, common.queue⟩
    show Config.slipMin ≤ (if _ then _ else _) ∧ (if _ then _ else _) ≤ _
    split
    · exact slipInitial_of_validate hv hr
    · exact h.within.slip
  · exact common.of_view rfl
  · exact common

theorem onJoin_within (h : s.AtRest) : s.onJoin.AtRest ∨ s.onJoin.mode ≠ .config ∧ s.onJoin.Within := by
  unfold State.onJoin
  rw [if_neg (not_not.mpr h.config)]
  split
  · exact .inl (h.respond ..)
  · rename_i hv
    have loaded := loadRole_within h hv
    have few : s.loadCommon.loadRole.queue.length ≤ 3 := by
      have hq : s.loadCommon.loadRole.queue = s.queue := by
        unfold State.loadRole
        split <;> rfl
      have := h.few
      rw [hq]
      omega
    rw [joinLine_eq]
    generalize s.loadCommon.loadRole = u at loaded few
    have room : u.roomFor (.join u.roleCode Config.joinFormat) = true :=
      decide_eq_true (Nat.lt_of_le_of_lt few (by decide))
    have entered : u.enterJoining.mode ≠ .config ∧ u.enterJoining.Within :=
      ⟨by simp [State.enterJoining, State.push], loaded.faults, loaded.overflow, loaded.reservations, loaded.slip, loaded.credits, loaded.lots,
        push_fits room 0 loaded.queue⟩
    exact .inr (within_kept.answered (within_kept.queueHold entered) _)

/-! #### One command -/

/-- In every tracker state: at rest in CONFIG, within the bounds elsewhere. -/
abbrev State.Bounded (s : State) : Prop := s.AtRest ∨ s.mode ≠ .config ∧ s.Within

theorem onTravelSample_within (h : s.mode ≠ .config ∧ s.Within) (i : TravelInput) (x : Bool × Bool) :
    (s.onTravelSample i x).mode ≠ .config ∧ (s.onTravelSample i x).Within := by
  have moved : ∀ {u : State}, u.mode ≠ .config ∧ u.Within → ∀ y, (u.setTravel i y).mode ≠ .config ∧ (u.setTravel i y).Within :=
    fun hu y => by cases i <;> exact ⟨hu.1, hu.2.of_view rfl⟩
  unfold State.onTravelSample
  dsimp only
  split
  · exact h
  · split
    · exact moved h _
    · split
      · exact h
      · exact within_kept.refresh (within_kept.fault _ (moved h _))
      · rename_i r _
        refine within_kept.refresh (within_kept.takeStep i x r ?_)
        have settled := within_kept.settle h
        generalize s.settle = u at settled
        have := moved settled { (u.travel i).counted r with reference := some x }
        exact ⟨this.1, this.2.of_view rfl⟩

theorem onIllegalTransition_within (h : s.mode ≠ .config ∧ s.Within) (i : TravelInput) :
    (s.onIllegalTransition i).mode ≠ .config ∧ (s.onIllegalTransition i).Within := by
  unfold State.onIllegalTransition
  split
  · split
    · exact h
    · refine within_kept.refresh (within_kept.fault _ ?_)
      cases i <;> exact ⟨h.1, h.2.of_view rfl⟩
  · exact h

theorem exec_bounded {c : Instr} (h : s.Bounded) (ht : exec c s = .next t) : t.Bounded := by
  by_cases hc : ordinary c = true
  · exact h.imp (fun h => exec_atRest h hc ht) fun h => within_kept.exec h hc ht
  · cases c with
    | powerOn => exact .inl (next_kept ht (powerOn_atRest s))
    | join =>
      refine next_kept (P := State.Bounded) ht (h.elim onJoin_within fun h => .inr ?_)
      unfold State.onJoin
      rw [if_pos h.1]
      exact within_kept.respond h ..
    | leave =>
      refine next_kept (P := State.Bounded) ht (.inl (h.elim (fun h => ?_) fun h => onLeave_atRest h.2 h.1))
      unfold State.onLeave
      rw [if_pos h.config]
      exact h.respond ..
    | descriptorWrite i v =>
      refine next_kept (P := State.Bounded) ht (h.imp (fun h => h.onDescriptorWrite i v) fun h => ?_)
      unfold State.onDescriptorWrite
      rw [if_pos h.1]
      exact within_kept.respond h ..
    | travelStep i x y =>
      exact next_kept (P := State.Bounded) ht
        (h.imp (fun h => h.onTravelSample i (x, y)) fun h => onTravelSample_within h i (x, y))
    | illegalTransition i =>
      exact next_kept (P := State.Bounded) ht
        (h.imp (fun h => h.onIllegalTransition i) fun h => onIllegalTransition_within h i)
    | _ => exact absurd rfl hc

/-! #### The statement -/

theorem bounded_iff : s.Bounded ↔ s.BoundsHold ∧ s.QueueSound := by
  constructor
  · rintro (h | ⟨hm, hw⟩)
    · obtain ⟨hlen, hfeed, htail, horphan⟩ := h.within.queue
      exact ⟨⟨h.within.faults, h.within.overflow, h.within.reservations, hfeed, h.within.slip, h.within.credits,
        fun k e he => h.within.lots k e (Option.mem_toList.mp he)⟩, hlen, htail, horphan, fun _ => ⟨h.few, h.reservations, h.gates⟩⟩
    · obtain ⟨hlen, hfeed, htail, horphan⟩ := hw.queue
      exact ⟨⟨hw.faults, hw.overflow, hw.reservations, hfeed, hw.slip, hw.credits,
        fun k e he => hw.lots k e (Option.mem_toList.mp he)⟩, hlen, htail, horphan, fun hc => absurd hc hm⟩
  · rintro ⟨⟨hf, ho, hr, hfeed, hs, hc, hl⟩, hlen, htail, horphan, hconfig⟩
    have within : s.Within :=
      ⟨hf, ho, hr, hs, hc, fun k e he => hl k e (Option.mem_toList.mpr he), hlen, hfeed, htail, horphan⟩
    by_cases hm : s.mode = .config
    · obtain ⟨hfew, hres, hgates⟩ := hconfig hm
      exact .inl ⟨hm, within, hfew, hres, hgates⟩
    · exact .inr ⟨hm, within⟩

/-- Settles O10: the walk outside CONFIG; in CONFIG few frames move and nothing else comes due. -/
theorem boundsHoldEveryStep : Obligations.BoundsHoldEveryStep := by
  unfold Obligations.BoundsHoldEveryStep
  intro s t hb hq ht
  have start : s.Bounded := bounded_iff.mpr ⟨hb, hq⟩
  obtain ⟨-, rfl⟩ | ⟨c, rest, -, hc⟩ := step_cases ht
  · exact ⟨hb, hq⟩
  · refine bounded_iff.mp (exec_bounded ?_ hc)
    exact start.imp (fun h => h.of_view rfl) fun h => ⟨h.1, h.2.of_view rfl⟩

end Sys2Proof.Machine
end

section
namespace Sys2Proof.Machine

/-! ### O15: signed differences -/

/-- Settles O15: the difference is the representative of a − b modulo 2^24 nearest to 0. -/
theorem signedDifferenceOrdersPositions : Obligations.SignedDifferenceOrdersPositions := by
  unfold Obligations.SignedDifferenceOrdersPositions
  intro a b x lo hi d
  obtain ⟨hl, hu⟩ := diff_range a b
  refine ⟨⟨hl, hu, ?_⟩, ?_, diff_eq_zero_iff a b, plus_toNat a d, ?_, ?_⟩
  · obtain ⟨⟨k, hk⟩, -⟩ := wrap24_spec ((a.toNat : Int) - b.toNat)
    rw [diff_eq_wrap24]
    omega
  · simp [atOrPast]
  · simp [inSpan]
  · simp [inRange]

/-! ### O16: offsets, windows, slip -/

/-- The 13-bit field holds every value it is clamped to (R10). -/
theorem edgeOffset_toInt {tx edge : Pos} (hl : -4096 ≤ diff tx edge) (hu : diff tx edge ≤ 4095) :
    (edgeOffset tx edge).toInt = diff tx edge := by
  unfold edgeOffset
  rw [min_eq_right hu, max_eq_right hl, BitVec.toInt_ofInt]
  exact Int.bmod_eq_of_le (by norm_num; omega) (by norm_num; omega)

theorem learnedSlip_bounds {pathLength slip : Nat} (hmin : 15360 ≤ slip) (hmax : slip ≤ 17408) (a b : Pos) :
    15360 ≤ learnedSlip pathLength slip a b ∧ learnedSlip pathLength slip a b ≤ 17408 := by
  unfold learnedSlip measuredRatio
  simp only [Config.slipMin, Config.slipMax]
  split
  · exact ⟨hmin, hmax⟩
  · omega

/-- A lesson taken moves F by the rounded eighth of its distance to the clamped ratio (R18). -/
theorem learnedSlip_step {pathLength slip : Nat} (hmin : 15360 ≤ slip) {a b : Pos} (hd : 0 < diff a b) :
    ((learnedSlip pathLength slip a b : Nat) : Int) =
      slip + (max 15360 (min 17408 ((diff a b * 16384 + pathLength / 2) / pathLength)) - slip) / 8 := by
  have hm : (((diff a b).toNat * 16384 + pathLength / 2) / pathLength : Nat) =
      (diff a b * 16384 + pathLength / 2) / (pathLength : Int) := by
    push_cast
    rw [Int.toNat_of_nonneg hd.le]
  unfold learnedSlip measuredRatio
  simp only [Config.slipMin, Config.slipMax, if_neg (not_le.mpr hd)]
  generalize (diff a b * 16384 + pathLength / 2) / (pathLength : Int) = r at hm ⊢
  generalize ((diff a b).toNat * 16384 + pathLength / 2) / pathLength = m at hm ⊢
  omega

theorem pred_eq {s : State} {x : IronerSettings} (h : s.ironer = some x) :
    s.pred = (x.pathLength * s.slip + 8192) / 16384 := by
  simp [State.pred, h, predictedTravel]

/-- Settles O16, clause by clause. -/
theorem offsetWindowAndSlipArithmetic : Obligations.OffsetWindowAndSlipArithmetic := by
  unfold Obligations.OffsetWindowAndSlipArithmetic
  intro s x tx edge rx wb wp pathLength slip d doubled exitB entryB
  refine ⟨fun hl hu => ⟨?_, ?_⟩, ?_, fun hx => ⟨pred_eq hx, fun h500 h20000 hmin hmax => ?_⟩, fun _ hmin hmax => ?_⟩
  · rw [decodedCrossing, edgeOffset_toInt hl (by omega)]
  · rw [saturated, edgeOffset_toInt hl (by omega)]
    exact decide_eq_false (by omega)
  · unfold halfWidth clampHalf baseHalf
    cases doubled <;> simp [Config.halfWidthMin, Config.halfWidthMax, Nat.mul_comm]
  · have low : 500 * 15360 ≤ x.pathLength * s.slip := Nat.mul_le_mul h500 hmin
    have high : x.pathLength * s.slip ≤ 20000 * 17408 := Nat.mul_le_mul h20000 hmax
    rw [pred_eq hx]
    omega
  · obtain ⟨hlow, hhigh⟩ := learnedSlip_bounds (pathLength := pathLength) hmin hmax exitB entryB
    refine ⟨hlow, hhigh, fun hd => if_pos hd, fun hd => ?_⟩
    have step := learnedSlip_step (pathLength := pathLength) hmin hd
    dsimp only
    omega

end Sys2Proof.Machine
end

section
namespace Sys2Proof.Machine

/-! ### What shows an output and what suspends a gate -/

/-- A channel is shown by position, tracker state and the step being acted on. -/
theorem shown_congr {s t : State} (hpos : ∀ i, t.pos i = s.pos i) (hmode : t.mode = s.mode)
    (hstep : t.lastStep = s.lastStep) (x : Channel) : t.shown x = s.shown x := by
  simp only [State.shown, State.ended, State.joined, State.reached, hpos, hmode, hstep]

/-- What the suspension of gates looks at (R95). -/
def State.suspensionView (s : State) : State :=
  { State.reset with
    travelA := { Travel.reset with reverse := s.travelA.reverse }, eyes := s.eyes, train := s.train, gates := s.gates
    holders := s.holders, trainCause := s.trainCause, lineHold := s.lineHold, announcedReason := s.announcedReason
    wrapAlarm := s.wrapAlarm, address := s.address, mode := s.mode, queue := s.queue }

theorem suspended_view (s : State) (g : GateIx) : s.suspensionView.suspended g = s.suspended g := rfl

theorem suspended_congr {s t : State} (h : t.suspensionView = s.suspensionView) (g : GateIx) :
    t.suspended g = s.suspended g := by
  rw [← suspended_view t, h, suspended_view]

variable (s : State) (i : TravelInput)

/-! ### Samples (R2) -/

/-- A sample in which one channel has changed is a step, by the sequence of the channels and the inversion. -/
theorem decodeSample_step (inv ch1 ch2 r1 r2 : Bool) (h : ((ch1 != r1) != (ch2 != r2)) = true) :
    decodeSample inv (r1, r2) (ch1, ch2) = .step (!(decide ((ch1, ch2) = leadNext (r1, r2)) != inv)) := by
  revert inv ch1 ch2 r1 r2
  decide

theorem decodeSample_illegal (inv r1 r2 : Bool) : decodeSample inv (r1, r2) (!r1, !r2) = .illegal := by
  revert inv r1 r2
  decide

theorem decodeSample_same (inv : Bool) (r : Bool × Bool) : decodeSample inv r r = .nothing := if_pos rfl

theorem onTravelSample_step {ch1 ch2 : Bool} {ref : Bool × Bool} (hp : (s.travel i).pitch ≠ 0)
    (hr : (s.travel i).reference = some ref) (hx : ((ch1 != ref.1) != (ch2 != ref.2)) = true) :
    s.onTravelSample i (ch1, ch2) =
      (s.settle.takeStep i (ch1, ch2) (!(decide ((ch1, ch2) = leadNext ref) != (s.travel i).inverted))).refresh := by
  unfold State.onTravelSample
  dsimp only
  rw [if_neg hp, hr]
  dsimp only
  rw [decodeSample_step _ _ _ _ _ hx]

/-! ### O12: the count -/

theorem count_of_parts (c : BitVec 36) : c.extractLsb' 12 24 ++ c.extractLsb' 0 12 = c := by
  have := c.isLt
  apply BitVec.eq_of_toNat_eq
  rw [BitVec.toNat_append, ← Nat.shiftLeft_add_eq_or_of_lt (BitVec.isLt _), Nat.shiftLeft_eq, BitVec.extractLsb'_toNat,
    BitVec.extractLsb'_toNat, Nat.shiftRight_eq_div_pow]
  omega

theorem counted_count (x : Travel) (r : Bool) :
    (x.counted r).count = if r then x.count - x.pitch.setWidth 36 else x.count + x.pitch.setWidth 36 :=
  count_of_parts _

/-- The count moves by the pitch modulo 2^36 (R3). -/
theorem counted_count_toNat (x : Travel) (r : Bool) :
    (x.counted r).count.toNat =
      (x.count.toNat + if !r then x.pitch.toNat else 2 ^ 36 - x.pitch.toNat) % 2 ^ 36 := by
  have hpitch := x.pitch.isLt
  have hw : (x.pitch.setWidth 36).toNat = x.pitch.toNat := by
    rw [BitVec.toNat_setWidth, Nat.mod_eq_of_lt (by omega)]
  rw [counted_count]
  cases r with
  | false => simp [BitVec.toNat_add, hw]
  | true =>
    simp only [if_true, BitVec.toNat_sub, hw, Bool.not_true, Bool.false_eq_true, if_false]
    congr 1
    omega

/-! #### The frame of a counted step -/

theorem stepEye_outside (j : TravelInput) (first : Bool) (inc : Nat) (e : EyeIx) :
    (s.stepEye j first inc e).outside = s.outside := by
  unfold State.stepEye
  dsimp only
  split
  · split
    · rw [candidateEnded_outside, setEye_outside]
    · rw [setEye_outside]
  · rfl

theorem stepPatience_outside (inc : Nat) (g : GateIx) : (s.stepPatience inc g).outside = s.outside := by
  unfold State.stepPatience
  dsimp only
  split
  · rw [setGate_outside]
  · rfl

/-- A counted step changes outside its blocks what it counts, and nothing else. -/
theorem takeStep_outside (x : Bool × Bool) (r : Bool) : (s.takeStep i x r).outside = (s.countStep i x r).outside := by
  have eyes : ∀ (u : State) j first inc, (eyeIxs.foldl (fun s e => s.stepEye j first inc e) u).outside = u.outside :=
    fun u j first inc => foldl_outside _ (fun s e => stepEye_outside s j first inc e) ..
  have gates : ∀ (u : State) inc, (gateIxs.foldl (fun s g => s.stepPatience inc g) u).outside = u.outside :=
    fun u inc => foldl_outside _ (fun s g => stepPatience_outside s inc g) ..
  unfold State.takeStep
  dsimp only
  split
  · rfl
  · split
    · rw [gates, eyes, payOutlet_outside]
    · rw [eyes]

theorem travel_of_outside {s t : State} (h : t.outside = s.outside) (i : TravelInput) : t.travel i = s.travel i := by
  obtain ⟨ha, hb, -⟩ := outside_fields h
  cases i
  · exact ha
  · exact hb

theorem countStep_travel (x : Bool × Bool) (r : Bool) :
    (s.countStep i x r).travel i = { (s.travel i).counted r with reference := some x } := by
  cases i <;> rfl

theorem countStep_travel_ne (x : Bool × Bool) (r : Bool) {j : TravelInput} (h : j ≠ i) :
    (s.countStep i x r).travel j = s.travel j := by
  cases i <;> cases j <;> first | rfl | exact absurd rfl h

theorem countStep_fields (x : Bool × Bool) (r : Bool) :
    (s.countStep i x r).mode = s.mode ∧ (s.countStep i x r).holders = s.holders ∧ (s.countStep i x r).store = s.store ∧
      (s.countStep i x r).busIdle = s.busIdle ∧ (s.countStep i x r).response = s.response := by
  cases i <;> exact ⟨rfl, rfl, rfl, rfl, rfl⟩

/-- Settles O12: settling leaves the counters, the step counts, and what follows leaves the count. -/
theorem countedStepMovesTheCount : Obligations.CountedStepMovesTheCount := by
  unfold Obligations.CountedStepMovesTheCount
  intro s i ch1 ch2 ref hp hr hx
  refine ⟨_, rfl, ?_⟩
  rw [onTravelSample_step s i hp hr hx]
  dsimp only
  generalize (decide ((ch1, ch2) = leadNext ref) != (s.travel i).inverted) = forward
  have same : ∀ j, s.settle.travel j = s.travel j := travel_of_outside (settle_outside s)
  obtain ⟨-, -, -, hholders, -, -, -, -, -, -, -, hidle, -, -, hmode, -, hstore, -, -, -, -, -, -, hresponse, -⟩ :=
    outside_fields (settle_outside s)
  generalize s.settle = u at same hholders hidle hmode hstore hresponse
  have out : ((u.takeStep i (ch1, ch2) !forward).refresh).outside = (u.countStep i (ch1, ch2) !forward).outside := by
    rw [refresh_outside, takeStep_outside]
  obtain ⟨-, -, -, hholders', -, -, -, -, -, -, -, hidle', -, -, hmode', -, hstore', -, -, -, -, -, -, hresponse', -⟩ :=
    outside_fields out
  have htravel := travel_of_outside out
  obtain ⟨cmode, cholders, cstore, cidle, cresponse⟩ := countStep_fields u i (ch1, ch2) (!forward)
  refine ⟨?_, fun j hj => ?_, hmode'.trans (cmode.trans hmode), hholders'.trans (cholders.trans hholders),
    hstore'.trans (cstore.trans hstore), hidle'.trans (cidle.trans hidle), hresponse'.trans (cresponse.trans hresponse)⟩
  · rw [htravel, countStep_travel, same]
    refine ⟨?_, rfl, rfl⟩
    have := counted_count_toNat (s.travel i) (!forward)
    rw [Bool.not_not] at this
    exact this
  · rw [htravel, countStep_travel_ne u i _ _ hj, same]

/-! ### O14: samples that count nothing -/

/-- An illegal transition leaves outputs and reservations as they are: only ALERT follows. -/
theorem illegalStep_alert (x : Bool × Bool) (h : s.PinsFollow) : s.illegalStep i x =
    State.alertAfresh ((s.setTravel i { s.travel i with reference := some x }).recordFault
      { kind := .encoderSkip, position := s.pos i, input := i, unit := some (.travel i) }) := by
  obtain ⟨hshown, -, hres⟩ := h
  unfold State.illegalStep
  generalize (FaultRecord.mk .encoderSkip (s.pos i) i none none (some (.travel i)) none) = f
  have hpos : ∀ j, ((s.setTravel i { s.travel i with reference := some x }).recordFault f).pos j = s.pos j := by
    unfold State.recordFault
    split <;> cases i <;> exact fun j => by cases j <;> rfl
  have hmode : ((s.setTravel i { s.travel i with reference := some x }).recordFault f).mode = s.mode := by simp
  have hstep : ((s.setTravel i { s.travel i with reference := some x }).recordFault f).lastStep = s.lastStep := by simp
  have hview : ((s.setTravel i { s.travel i with reference := some x }).recordFault f).suspensionView =
      s.suspensionView := by
    unfold State.recordFault
    split <;> cases i <;> rfl
  refine refresh_alert _ (fun c => ?_) fun g hg => ?_
  · rw [shown_congr hpos hmode hstep]
    simpa [State.channel] using hshown c
  · rw [suspended_congr hview] at hg
    simpa [State.ownReservation] using hres g hg

/-- Settles O14: each sample by the branch of R1, R2 and R5 that it takes. -/
theorem samplesThatCountNothing : Obligations.SamplesThatCountNothing := by
  unfold Obligations.SamplesThatCountNothing
  intro s i ch1 ch2 ref hpins
  have sample : ∀ x y, exec (.travelStep i x y) s = .next (s.onTravelSample i (x, y)) := fun _ _ => rfl
  have illegal : exec (.illegalTransition i) s = .next (s.onIllegalTransition i) := rfl
  refine ⟨fun hp => ⟨?_, ?_⟩, fun hp hr => ?_, fun hr => ?_, fun hp hr => ⟨?_, ?_⟩⟩
  · rw [sample, State.onTravelSample, if_pos hp]
  · rw [illegal, State.onIllegalTransition]
    split
    · rw [if_pos hp]
    · rfl
  · rw [sample, State.onTravelSample, if_neg hp, hr]
  · rw [sample, State.onTravelSample]
    split
    · rfl
    · rw [hr]
      dsimp only
      rw [decodeSample_same]
  · rw [illegal, State.onIllegalTransition, hr]
    dsimp only
    rw [if_neg hp, illegalStep_alert s i _ hpins]
  · rw [sample, State.onTravelSample, if_neg hp, hr]
    dsimp only
    rw [decodeSample_illegal, illegalStep_alert s i _ hpins]

end Sys2Proof.Machine
end

section
namespace Sys2Proof.Machine

/-! ### O59: what a response holds -/

@[simp] theorem fillFree_length (n : Nat) (d : List MaskedByte) : (fillFree n d).length = d.length := by
  induction d generalizing n with
  | nil => rfl
  | cons b d ih => simp [fillFree, ih]

/-- A byte whose bits all have a meaning is shifted out as it is. -/
@[simp] theorem fillFree_full (n : Nat) (b : Byte) (d : List MaskedByte) :
    fillFree n (full b :: d) = b :: fillFree (n + 1) d := by
  have hb : b &&& 0xFF = b := by
    have : (0xFF : Byte) = BitVec.allOnes 8 := rfl
    rw [this, BitVec.and_allOnes]
  have hn : b ||| Config.freeByte n &&& ~~~(0xFF : Byte) = b := by
    have : ~~~(0xFF : Byte) = 0#8 := rfl
    rw [this, BitVec.and_zero, BitVec.or_zero]
  calc fillFree n (full b :: d) = ((b &&& 0xFF) ||| Config.freeByte n &&& ~~~(0xFF : Byte)) :: fillFree (n + 1) d := rfl
    _ = b :: fillFree (n + 1) d := by rw [hb, hn]

@[simp] theorem fillFree_nil (n : Nat) : fillFree n [] = [] := rfl

@[simp] theorem fillFree_flagByte (n : Nat) (m : Byte) (l : List (Bool × Nat)) (d : List MaskedByte) :
    fillFree n (flagByte m l :: d) =
      ((flagByte m l).value &&& m ||| Config.freeByte n &&& ~~~m) :: fillFree (n + 1) d := rfl

@[simp] theorem fillFree_byte (n v : Nat) (d : List MaskedByte) :
    fillFree n (byte v :: d) = BitVec.ofNat 8 v :: fillFree (n + 1) d := fillFree_full ..

@[simp] theorem bytesOf_length (n v : Nat) : (bytesOf n v).length = n := by simp [bytesOf]

theorem bytesOf_two (v : Nat) : bytesOf 2 v = [byte (v / 256), byte v] := by
  simp [bytesOf, List.range_succ, byte]

theorem bytesOf_three (v : Nat) : bytesOf 3 v = [byte (v / 65536), byte (v / 256), byte v] := by
  simp [bytesOf, List.range_succ, byte]

@[simp] theorem orZero_length {w : Nat} (n : Nat) (v : Option (BitVec w)) : (orZero n v).length = n := by
  unfold orZero
  split <;> simp

@[simp] theorem orUnstated_length {w : Nat} (n : Nat) (v : Option (BitVec w)) : (orUnstated n v).length = n := by
  unfold orUnstated
  split <;> simp

/-- The bytes of a value, most significant first, are its bits from the top. -/
theorem ofNat_div_eq_extract {w : Nat} (v : BitVec w) (k : Nat) :
    BitVec.ofNat 8 (v.toNat / 2 ^ k) = v.extractLsb' k 8 := by
  apply BitVec.eq_of_toNat_eq
  rw [BitVec.toNat_ofNat, BitVec.extractLsb'_toNat, Nat.shiftRight_eq_div_pow]

theorem tag_high (a : Addr) (n : Serial) : (a ++ n).extractLsb' 8 8 = a ++ n.extractLsb' 8 3 := by
  have ha := a.isLt
  have hn := n.isLt
  apply BitVec.eq_of_toNat_eq
  rw [BitVec.extractLsb'_toNat, BitVec.toNat_append, BitVec.toNat_append, BitVec.extractLsb'_toNat,
    ← Nat.shiftLeft_add_eq_or_of_lt hn, ← Nat.shiftLeft_add_eq_or_of_lt (Nat.mod_lt _ (by decide))]
  simp only [Nat.shiftLeft_eq, Nat.shiftRight_eq_div_pow]
  omega

theorem tag_low (a : Addr) (n : Serial) : (a ++ n).extractLsb' 0 8 = n.extractLsb' 0 8 := by
  have hn := n.isLt
  apply BitVec.eq_of_toNat_eq
  rw [BitVec.extractLsb'_toNat, BitVec.toNat_append, BitVec.extractLsb'_toNat, ← Nat.shiftLeft_add_eq_or_of_lt hn]
  simp only [Nat.shiftLeft_eq, Nat.shiftRight_eq_div_pow]
  omega

/-! #### Lengths of the layouts -/

variable (s : State)

theorem recordBytes_length (n : Nat) (r : Record) : (recordBytes n r).length = 26 := by simp [recordBytes]

theorem sourceBytes_length (x : Source) : (sourceBytes x).length = 6 := by simp [sourceBytes]

theorem lotBytes_length (k : Fin 16) (p : Option Nat) (e : LotEntry) :
    (lotBytes k p e).length = 11 + 6 * e.sources.length := by
  have sources : ∀ l : List Source, (l.flatMap sourceBytes).length = 6 * l.length := by
    intro l
    induction l with
    | nil => rfl
    | cons x l ih => simp [sourceBytes_length, ih]; omega
  simp only [lotBytes, List.length_append, List.length_cons, List.length_nil, bytesOf_length, sources]

theorem gateBytes_length (g : GateIx) : (s.gateBytes g).length = 4 := by
  unfold State.gateBytes
  dsimp only
  split <;> simp

theorem watchBytes_length (w : Fin 8) : (s.watchBytes w).length = 2 := by
  unfold State.watchBytes
  split <;> rfl

theorem destBytes_length (d : DestIx) : (s.destBytes d).length = 5 := by
  unfold State.destBytes
  dsimp only
  split <;> rfl

theorem lastJoinBytes_length : s.lastJoinBytes.length = 3 := by
  unfold State.lastJoinBytes
  split <;> rfl

theorem statusBytes_length : s.statusBytes.length = 103 := by
  simp [State.statusBytes, State.reasonBytes, addrs, gateIxs, destIxs, gateBytes_length, watchBytes_length,
    destBytes_length, lastJoinBytes_length]

/-! #### The reads one by one -/

theorem respond_data (r : Result) (d : List MaskedByte) :
    (s.respond r d).response = r.code :: fillFree s.freeDraws d := rfl

theorem onReadStatus_reports : ∃ t, exec .readStatus s = .next t ∧
    t = { s with response := t.response, freeDraws := s.freeDraws + 103 } ∧ t.response.length = 104 ∧
    t.response.take 4 = [0, BitVec.ofNat 8 s.mode.code, s.conditions, s.alertMask] := by
  refine ⟨s.respond .ok s.statusBytes, rfl, ?_, ?_, ?_⟩
  · rw [State.respond, statusBytes_length]
  · rw [respond_data, List.length_cons, fillFree_length, statusBytes_length]
  · simp [respond_data, State.statusBytes, Result.code]

theorem onReadTravel_reports : ∃ t, exec .readTravel s = .next t ∧
    t = { s with response := t.response, freeDraws := s.freeDraws + 9 } ∧ t.response.length = 10 ∧
    t.response.take 7 = [0, (s.pos .a).extractLsb' 16 8, (s.pos .a).extractLsb' 8 8, (s.pos .a).extractLsb' 0 8,
      (s.pos .b).extractLsb' 16 8, (s.pos .b).extractLsb' 8 8, (s.pos .b).extractLsb' 0 8] ∧
    t.response.drop 8 = [BitVec.ofNat 8 (s.slip / 256), BitVec.ofNat 8 s.slip] := by
  have ha := ofNat_div_eq_extract s.travelA.position
  have hb := ofNat_div_eq_extract s.travelB.position
  refine ⟨s.onReadTravel, rfl, rfl, ?_, ?_, ?_⟩
  · simp [State.onReadTravel, respond_data]
  · have := ha 16
    have := ha 8
    have := ha 0
    have := hb 16
    have := hb 8
    have := hb 0
    simp_all [State.onReadTravel, respond_data, bytesOf_three, Result.code, State.pos, State.travel]
  · simp [State.onReadTravel, respond_data, bytesOf_three, bytesOf_two]

theorem onReadTrain_reports (index : Byte) : ∃ t, exec (.readTrain index) s = .next t ∧
    t = { s with response := t.response, freeDraws := t.freeDraws } ∧ (47 < index.toNat → t.response = [4]) ∧
    (index.toNat ≤ 47 → s.train.length ≤ index.toNat → t.response = [5, BitVec.ofNat 8 s.train.length]) ∧
    (index.toNat ≤ 47 → index.toNat < s.train.length →
      t.response.length = 28 ∧ t.response.take 3 = [0, BitVec.ofNat 8 s.train.length, index]) := by
  refine ⟨s.onReadTrain index, rfl, ?_, fun h => ?_, fun h hl => ?_, fun h hl => ?_⟩ <;> unfold State.onReadTrain
  · split
    · rfl
    · split <;> rfl
  · rw [if_pos h]
    rfl
  · rw [if_neg (Nat.not_lt.mpr h), List.getElem?_eq_none hl]
    simp [respond_data, Result.code]
  · rw [if_neg (Nat.not_lt.mpr h), List.getElem?_eq_getElem hl]
    dsimp only
    rw [respond_data]
    refine ⟨by simp [recordBytes_length], ?_⟩
    simp [recordBytes, Result.code]

theorem onReadRecord_reports (tag : Tag) : ∃ t, exec (.readRecord tag) s = .next t ∧
    t = { s with response := t.response, freeDraws := t.freeDraws } ∧
    ((s.findRecord tag).isNone = true → t.response = [5]) ∧
    ((s.findRecord tag).isSome = true → t.response.length = 27 ∧ (t.response.drop 2).take 2 =
      [tag.origin ++ tag.serial.extractLsb' 8 3, tag.serial.extractLsb' 0 8]) := by
  refine ⟨s.onReadRecord tag, rfl, ?_, fun h => ?_, fun h => ?_⟩ <;> unfold State.onReadRecord
  · split <;> rfl
  · rw [Option.isNone_iff_eq_none.mp h]
    rfl
  · obtain ⟨r, hr⟩ := Option.isSome_iff_exists.mp h
    rw [hr]
    dsimp only
    rw [respond_data]
    refine ⟨by simp [recordBytes_length], ?_⟩
    obtain ⟨-, rfl⟩ := findRecord_some s hr
    have high := (ofNat_div_eq_extract r.tag.word 8).trans (tag_high r.tag.origin r.tag.serial)
    have low := (ofNat_div_eq_extract r.tag.word 0).trans (tag_low r.tag.origin r.tag.serial)
    rw [Nat.pow_zero, Nat.div_one] at low
    simp [recordBytes, bytesOf_two, ← high, ← low]

theorem onReadLot_reports (slot : Byte) : ∃ t, exec (.readLot slot) s = .next t ∧
    t = { s with response := t.response, freeDraws := t.freeDraws } ∧ (15 < slot.toNat → t.response = [4]) ∧
    (∀ k : Fin 16, k.val = slot.toNat → s.lotSlot k = none → t.response = [5]) ∧
    (∀ k : Fin 16, ∀ e ∈ (s.lotSlot k).toList, k.val = slot.toNat →
      t.response.length = 12 + 6 * e.sources.length ∧
        t.response.take 4 = [0, e.lot, BitVec.ofNat 8 e.state.code, BitVec.ofNat 8 e.inFlight]) := by
  have named : ∀ k : Fin 16, k.val = slot.toNat → s.onReadLot slot = match s.lotSlot k with
      | some e => s.respond .ok (lotBytes k (s.closureList.findIdx? (· == k)) e)
      | none => s.respond .empty := by
    rintro ⟨k, hk⟩ rfl
    exact dif_pos hk
  refine ⟨s.onReadLot slot, rfl, ?_, fun h => ?_, fun k hk hn => ?_, fun k e he hk => ?_⟩
  · unfold State.onReadLot
    split
    · dsimp only
      split <;> rfl
    · rfl
  · unfold State.onReadLot
    rw [dif_neg (by omega)]
    rfl
  · rw [named k hk, hn]
    rfl
  · rw [named k hk, Option.mem_toList.mp he]
    dsimp only
    rw [respond_data]
    refine ⟨?_, ?_⟩
    · rw [List.length_cons, fillFree_length, lotBytes_length]
      omega
    · simp [lotBytes, Result.code]

/-- Clearing a notice moves no output and no gate. -/
theorem refresh_setLotSlot (h : s.PinsFollow) (k : Fin 16) (x : Option LotEntry) :
    (s.setLotSlot k x).refresh = (s.setLotSlot k x).alertAfresh := by
  obtain ⟨hshown, -, hres⟩ := h
  refine refresh_alert _ (fun c => ?_) fun g hg => hres g ?_
  · rw [shown_congr (fun _ => rfl) rfl rfl]
    exact hshown c
  · exact (suspended_congr (t := s.setLotSlot k x) rfl g) ▸ hg

theorem onReadLotNotice_reports (h : s.PinsFollow) : ∃ t, exec .readLotNotice s = .next t ∧
    t = { s with response := t.response, freeDraws := t.freeDraws, lots := t.lots, alertPin := t.alertPin } ∧
    (s.firstNotice = none → t.response = [5] ∧ t.lots = s.lots) ∧
    (∀ k : Fin 16, s.firstNotice = some k → ∀ e ∈ (s.lotSlot k).toList,
      t.lotSlot k = some { e with noticeUnread := false } ∧ (∀ j, j ≠ k → t.lotSlot j = s.lotSlot j) ∧
        t.response = [0, e.lot, BitVec.ofNat 8 (e.departed / 256), BitVec.ofNat 8 e.departed,
          BitVec.ofNat 8 (e.rejects / 256), BitVec.ofNat 8 e.rejects, if e.incomplete then 1 else 0]) := by
  refine ⟨s.onReadLotNotice, rfl, ?_, fun hn => ?_, fun k hk e he => ?_⟩ <;> unfold State.onReadLotNotice
  · split
    · rfl
    · split
      · rfl
      · rw [refresh_setLotSlot s h]
        rfl
  · rw [hn]
    exact ⟨rfl, rfl⟩
  · rw [hk]
    dsimp only
    rw [Option.mem_toList.mp he]
    dsimp only
    rw [refresh_setLotSlot s h]
    refine ⟨setLotSlot_lotSlot .., fun j hj => setLotSlot_lotSlot_ne _ _ hj, ?_⟩
    rw [respond_data]
    cases hi : e.incomplete <;> simp [noticeBytes, bytesOf_two, Result.code, hi]

/-- Settles O59: each read by its layout. -/
theorem readsReportTheState : Obligations.ReadsReportTheState := by
  unfold Obligations.ReadsReportTheState
  intro s index slot tag h
  exact ⟨onReadStatus_reports s, onReadTravel_reports s, onReadTrain_reports s index, onReadRecord_reports s tag,
    onReadLot_reports s slot, onReadLotNotice_reports s h⟩

end Sys2Proof.Machine
end

section
namespace Sys2Proof.Machine

variable (s : State)

/-! ### The outputs taken afresh, channel by channel (R35, R45) -/

theorem foldl_shown (l : List ChannelIx) (hl : l.Nodup) (k : ChannelIx) :
    (l.foldl (fun s c => s.setChannel c (s.shown (s.channel c))) s).channel k =
      if k ∈ l then s.shown (s.channel k) else s.channel k := by
  induction l generalizing s with
  | nil => rfl
  | cons c l ih =>
    obtain ⟨hc, hl⟩ := List.nodup_cons.mp hl
    have same : (s.setChannel c (s.shown (s.channel c))).shown = s.shown :=
      funext (shown_congr (fun _ => rfl) rfl rfl)
    rw [List.foldl_cons, ih _ hl, same]
    by_cases hk : k = c
    · subst hk
      rw [if_neg hc, if_pos (by simp), setChannel_channel]
    · rw [setChannel_channel_ne _ _ hk]
      simp [hk]

theorem channelIxs_all (k : ChannelIx) : k ∈ channelIxs := by
  revert k
  decide

theorem outputsAfresh_channel (k : ChannelIx) : s.outputsAfresh.channel k = s.shown (s.channel k) :=
  (foldl_shown s channelIxs (by decide) k).trans (if_pos (channelIxs_all k))

/-- Every output follows its channel at the position and tracker state now (R35, R45). -/
theorem outputsAfresh_eq :
    s.outputsAfresh = { s with channels := Vector.ofFn fun c => s.shown (s.channel c) } := by
  have hc : s.outputsAfresh.channels = Vector.ofFn fun c => s.shown (s.channel c) := by
    apply Vector.ext
    intro k hk
    rw [Vector.getElem_ofFn]
    exact outputsAfresh_channel s ⟨k, hk⟩
  rw [outputsAfresh_frame, hc]

/-! ### No own reservation, and none made -/

theorem ownReservation_none {l : List Reservation} {g : GateIx} (h : l.find? (·.isOwn g) = none) {t : State}
    (ht : t.reservations.Sublist l) : t.ownReservation g = none := by
  rw [State.ownReservation, List.find?_eq_none]
  exact fun r hr => List.find?_eq_none.mp h r (ht.subset hr)

/-- Outside RUNNING every gate is suspended, so that no own reservation stands (R95). -/
theorem ownReservation_stopped {s : State} (h : s.PinsFollow) (hm : s.mode ≠ .running) (g : GateIx) :
    s.ownReservation g = none := by
  obtain ⟨-, -, hres⟩ := h
  exact hres g (by simp [State.suspended, hm])

/-! ### O50: the STOP pin released -/

/-- Where no edge has persisted long enough and no train event is due, there is nothing to decide. -/
theorem settleMatching_none (he : ∀ e, s.eyeRuns e = false ∨ (s.eye e).acceptDue = false) (hd : s.nextDue = none) :
    s.settleMatching = s := by
  have edges : ∀ e, s.onEdgeAccepted e = s := fun e => by
    unfold State.onEdgeAccepted
    rw [if_neg]
    obtain h | h := he e <;> simp [h]
  unfold State.settleMatching
  rw [List.foldl_fixed' edges, trainEventLimit, State.settleTrain, hd]

/-- A state in which no gate holds an own reservation is followed up by its outputs and ALERT alone. -/
theorem refresh_unreserved (h : ∀ g, s.ownReservation g = none) :
    s.refresh = State.alertAfresh { s with channels := Vector.ofFn fun c => s.shown (s.channel c) } := by
  rw [refresh_unwithdrawn s fun g _ => h g, outputsAfresh_eq]

/-- STOP released in STOPPED (R65, R110, R195). -/
theorem onStopReleased_eq (h : s.PinsFollow) (hm : s.mode = .stopped) (u : State)
    (hu : State.settleMatching { s with stopPin := false } = u) : s.onStopReleased = State.alertAfresh
      { u with
        mode := .running, train := u.train.map Record.unverify, waiting := u.waiting.map u.widen
        freshWindows := u.widenedTags ++ u.freshWindows
        channels := Vector.ofFn fun c => State.shown { u with mode := .running } (u.channel c) } := by
  have shrunk : u.reservations.Sublist s.reservations :=
    hu ▸ (reservationsShrink _).settleMatching (List.Sublist.refl s.reservations)
  have none : ∀ g, State.ownReservation { u with
      mode := .running, train := u.train.map Record.unverify, waiting := u.waiting.map u.widen
      freshWindows := u.widenedTags ++ u.freshWindows } g = .none := fun g =>
    ownReservation_none (ownReservation_stopped h (by simp [hm]) g) shrunk
  unfold State.onStopReleased
  dsimp only
  rw [if_pos hm, hu, refresh_unreserved _ none]
  have same : State.shown { u with
      mode := .running, train := u.train.map Record.unverify, waiting := u.waiting.map u.widen
      freshWindows := u.widenedTags ++ u.freshWindows } = State.shown { u with mode := .running } :=
    funext (shown_congr (fun i => by cases i <;> rfl) rfl rfl)
  rw [same]
  rfl

/-! ### O50: the settle timer -/

/-- The expiry noted (R193). -/
def State.timed (s : State) (x : Settling) : State := { s with settling := some { x with expired := true } }

theorem onSettleTimer_eq {x : Settling} (hm : s.mode = .joining) (hs : s.settling = some x) (hx : x.expired = false) :
    s.onSettleTimer = (s.timed x).endJoining.refresh := by
  unfold State.onSettleTimer State.timed
  split
  · rename_i y _ hy
    obtain rfl : x = y := Option.some.inj (hs.symm.trans hy)
    rw [if_neg (by simp [hx])]
  · rename_i h
    exact absurd hs (h x hm)

theorem endJoining_timed {x : Settling} (hm : s.mode = .joining) : (s.timed x).endJoining =
    if x.heard then { s with mode := if s.stopPin then .stopped else .running, settling := none } else s.timed x := by
  unfold State.endJoining
  split
  · rename_i y _ hy
    obtain rfl : { x with expired := true } = y := Option.some.inj hy
    rfl
  · rename_i h
    exact absurd rfl (h _ hm)

theorem onSettleTimer_heard (h : s.PinsFollow) {x : Settling} (hm : s.mode = .joining) (hs : s.settling = some x)
    (hx : x.expired = false) (hh : x.heard = true) :
    ∃ t, exec .settleTimerExpiry s = .next t ∧ t.mode = (if s.stopPin then .stopped else .running) ∧
      t = { s with mode := t.mode, settling := none, channels := t.channels, alertPin := t.alertPin } := by
  have none : ∀ g, State.ownReservation { s with
      mode := if s.stopPin then .stopped else .running, settling := .none } g = .none := fun g =>
    ownReservation_stopped h (by simp [hm]) g
  refine ⟨s.onSettleTimer, rfl, ?_⟩
  rw [onSettleTimer_eq s hm hs hx, endJoining_timed s hm, if_pos hh, refresh_unreserved _ none]
  exact ⟨rfl, rfl⟩

/-- Settles O50: outside RUNNING no own reservation stands, so that an event there is followed up by outputs and ALERT. -/
theorem stopReleaseAndSettleTimer : Obligations.StopReleaseAndSettleTimer := by
  unfold Obligations.StopReleaseAndSettleTimer
  intro s x h
  have released : exec .stopReleased s = .next s.onStopReleased := rfl
  have timer : exec .settleTimerExpiry s = .next s.onSettleTimer := rfl
  refine ⟨fun hm => ?_, fun hm => ⟨?_, fun he hd => ?_⟩, fun hm => ?_, fun hm hs hx => ⟨fun hh => ?_, fun hh => ?_⟩⟩
  · rw [released, State.onStopReleased]
    dsimp only
    rw [if_neg hm]
  · dsimp only
    generalize hu : State.settleMatching { s with stopPin := false } = u
    rw [released, onStopReleased_eq s h hm u hu]
    rfl
  · exact settleMatching_none { s with stopPin := false } he hd
  · rw [timer, State.onSettleTimer]
    split
    · rename_i hj _
      exact absurd hj hm
    · rfl
  · have follows : (s.timed x).PinsFollow := h
    rw [timer, onSettleTimer_eq s hm hs hx, endJoining_timed s hm, if_neg (by simp [hh]), refresh_follows _ follows]
    rfl
  · exact onSettleTimer_heard s h hm hs hx hh

end Sys2Proof.Machine
end

section
namespace Sys2Proof.Machine

/-! ### O40: voids before an attempt (R117) -/

/-- Gate g holds no own entry and no RESERVE of it waits. -/
def State.unreserved (s : State) (g : GateIx) : Prop :=
  s.ownReservation g = none ∧ ∀ x ∈ s.queue, isReserveOf g x = false

/-- On the way from s, while due voids are taken: no attempt is under way, gate g is unreserved or (not yet `done`) stands as
it stood. -/
structure VoidPath (s : State) (g : GateIx) (done : Prop) (t : State) : Prop where
  still : ∀ x ∈ t.queue, x.underWay = false
  beside : t.besideRefresh = s.besideRefresh
  gate : (t.gate g).set = (s.gate g).set ∧ (t.gate g).cls = (s.gate g).cls
  entry : t.unreserved g ∨ (¬ done ∧ t.ownReservation g = s.ownReservation g)

section
variable {s t : State} {g k : GateIx} {done : Prop}

theorem find?_filter_of_imp {α : Type} {p q : α → Bool} {l : List α} (h : ∀ x, p x = true → q x = true) :
    (l.filter q).find? p = l.find? p := by
  rw [List.find?_filter]
  refine congrArg (List.find? · l) (funext fun x => ?_)
  have := h x
  cases hp : p x <;> simp_all

theorem dropOwn_ownReservation_ne (s : State) (h : g ≠ k) : (s.dropOwn k).ownReservation g = s.ownReservation g :=
  find?_filter_of_imp fun x hx => by
    simp only [Reservation.isOwn, Bool.and_eq_true, beq_iff_eq] at hx
    simp [Reservation.isOwn, hx.1, hx.2, h]

theorem dropOwn_ownReservation (s : State) (g : GateIx) : (s.dropOwn g).ownReservation g = none := by
  simp [State.dropOwn, State.ownReservation]

/-- Where no attempt is under way, a voided RESERVE has left the queue at once. -/
theorem mem_voidReserve_queue (h : ∀ x ∈ t.queue, x.underWay = false) {x : TxFrame} :
    x ∈ (t.voidReserve k).queue ↔ x ∈ t.queue ∧ isReserveOf k x = false := by
  simp only [State.voidReserve, List.mem_filterMap]
  constructor
  · rintro ⟨y, hy, hyx⟩
    have hu := h y hy
    cases hr : isReserveOf k y with
    | true => simp [hr, hu] at hyx
    | false =>
      obtain rfl : y = x := by simpa [hr] using hyx
      exact ⟨hy, hr⟩
  · rintro ⟨hx, hr⟩
    exact ⟨x, hx, by simp [hr]⟩

namespace VoidPath

theorem setGate (h : VoidPath s g done t) (x : Gate) (hx : x.set = (t.gate k).set ∧ x.cls = (t.gate k).cls) :
    VoidPath s g done (t.setGate k x) := by
  refine ⟨h.still, h.beside, ?_, h.entry⟩
  by_cases hk : g = k
  · subst hk
    rw [setGate_gate, hx.1, hx.2]
    exact h.gate
  · rw [setGate_gate_ne _ _ hk]
    exact h.gate

theorem dropOwn_ne (h : VoidPath s g done t) (hk : g ≠ k) : VoidPath s g done (t.dropOwn k) := by
  refine ⟨h.still, h.beside, h.gate, ?_⟩
  unfold State.unreserved
  rw [dropOwn_ownReservation_ne t hk]
  exact h.entry

theorem voidReserve (h : VoidPath s g done t) : VoidPath s g done (t.voidReserve k) :=
  ⟨fun x hx => h.still x ((mem_voidReserve_queue h.still).mp hx).1, h.beside, h.gate,
    h.entry.imp (fun hu => ⟨hu.1, fun x hx => hu.2 x ((mem_voidReserve_queue h.still).mp hx).1⟩) id⟩

/-- The gate's own entry dropped with its RESERVE: it is unreserved from here on. -/
theorem voidOwn (h : VoidPath s g done t) : VoidPath s g True ((t.dropOwn g).voidReserve g) :=
  have still : ∀ x ∈ (t.dropOwn g).queue, x.underWay = false := h.still
  ⟨fun x hx => h.still x ((mem_voidReserve_queue still).mp hx).1, h.beside, h.gate,
    .inl ⟨dropOwn_ownReservation t g, fun _ hx => ((mem_voidReserve_queue still).mp hx).2⟩⟩

theorem weaken (h : VoidPath s g True t) : VoidPath s g done t :=
  ⟨h.still, h.beside, h.gate, .inl (h.entry.resolve_right fun hn => hn.1 trivial)⟩

theorem queueWithdraw (h : VoidPath s g done t) : VoidPath s g done (t.queueWithdraw k) := by
  unfold State.queueWithdraw
  obtain ⟨-, ho⟩ | ⟨-, ho⟩ := offer_cases t (.withdraw k) 0 <;> rw [ho]
  · refine ⟨fun x hx => ?_, h.beside, h.gate, h.entry.imp (fun hu => ⟨hu.1, fun x hx => ?_⟩) id⟩
    · obtain hx | hx := List.mem_append.mp hx
      · exact h.still x hx
      · rw [List.mem_singleton.mp hx]
        rfl
    · obtain hx | hx := List.mem_append.mp hx
      · exact hu.2 x hx
      · rw [List.mem_singleton.mp hx]
        rfl
  · exact h.setGate _ ⟨rfl, rfl⟩

/-- A withdrawal voids a QUEUED entry; the entry of g, while it stands as it stood, is one. -/
theorem withdrawEntry (h : VoidPath s g done t) (hq : ∀ r, s.ownReservation g = some r → r.phase = .queued) :
    VoidPath s g done (t.withdrawEntry k) := by
  unfold State.withdrawEntry
  split
  · exact h
  · rename_i r hr
    by_cases hk : g = k
    · subst hk
      obtain hu | ⟨-, he⟩ := h.entry
      · rw [hu.1] at hr
        cases hr
      · rw [hq r (he ▸ hr)]
        exact h.voidOwn.weaken
    · split
      · exact (h.dropOwn_ne hk).voidReserve
      · exact (h.dropOwn_ne hk).queueWithdraw

theorem refresh (h : VoidPath s g done t) (hq : ∀ r, s.ownReservation g = some r → r.phase = .queued) :
    VoidPath s g done t.refresh := by
  have withdrawn : ∀ u, VoidPath s g done u → VoidPath s g done u.withdrawSuspended := fun u hu =>
    List.foldlRecOn _ _ hu fun v hv k _ => hv.withdrawEntry hq
  have h2 := withdrawn _ (withdrawn _ h)
  unfold State.refresh
  generalize t.withdrawSuspended.withdrawSuspended = u at h2
  rw [outputsAfresh_frame]
  generalize u.outputsAfresh.channels = c
  exact ⟨h2.still, h2.beside, h2.gate, h2.entry⟩

/-- Voiding the QUEUED entry of any gate. -/
theorem voidQueued (h : VoidPath s g done t) : VoidPath s g done (t.voidQueued k) := by
  unfold State.voidQueued
  by_cases hk : g = k
  · subst hk
    exact h.voidOwn.weaken.setGate _ ⟨rfl, rfl⟩
  · exact ((h.dropOwn_ne hk).voidReserve).setGate _ ⟨rfl, rfl⟩

theorem onReservationVoid (h : VoidPath s g done t) (hq : ∀ r, s.ownReservation g = some r → r.phase = .queued) :
    VoidPath s g done (t.onReservationVoid k) := by
  unfold State.onReservationVoid
  split
  · exact h.voidQueued.refresh hq
  · exact h

/-- An entry that stands as it stood is void as it was. -/
theorem voidDue_eq (h : VoidPath s g done t) (he : t.ownReservation g = s.ownReservation g) :
    t.voidDue g = s.voidDue g := by
  have hf := besideRefresh_frame h.beside
  have hreached : ∀ p, t.reached .a p = s.reached .a p := fun p => by rw [hf]; rfl
  have hclass : t.classOf = s.classOf := by rw [hf]; rfl
  have halign : ∀ r, t.alignment g r = s.alignment g r := fun r => by
    simp only [State.alignment, State.gateGap, State.dropWait, h.gate.1, h.gate.2, hclass]
  simp only [State.voidDue, he, hreached, halign]

/-- The turn of a gate whose entry is void leaves it unreserved. -/
theorem turn (h : VoidPath s g False t) (hd : s.voidDue g = true)
    (hq : ∀ r, s.ownReservation g = some r → r.phase = .queued) : VoidPath s g True (t.onReservationVoid g) := by
  unfold State.onReservationVoid
  obtain hu | ⟨-, he⟩ := h.entry
  · have done : VoidPath s g True t := ⟨h.still, h.beside, h.gate, .inl hu⟩
    split
    · exact done.voidQueued.refresh hq
    · exact done
  · rw [h.voidDue_eq he, if_pos hd]
    refine VoidPath.refresh ?_ hq
    unfold State.voidQueued
    exact h.voidOwn.setGate _ ⟨rfl, rfl⟩

end VoidPath

theorem gateIxs_all (k : GateIx) : k ∈ gateIxs := by
  revert k
  decide

theorem phase_of_voidDue (hd : s.voidDue g = true) : ∀ r, s.ownReservation g = some r → r.phase = .queued := by
  intro r hr
  simp only [State.voidDue, hr, Bool.and_eq_true, beq_iff_eq] at hd
  exact hd.1

/-- Once the due voids are taken, a gate whose entry was void is unreserved (R117). -/
theorem voidReached_unreserved (ha : s.attempting = false) (hd : s.voidDue g = true) : s.voidReached.unreserved g := by
  have hq := phase_of_voidDue hd
  have start : VoidPath s g False s :=
    ⟨by simpa [State.attempting] using ha, rfl, ⟨rfl, rfl⟩, .inr ⟨id, rfl⟩⟩
  obtain ⟨before, after, hl⟩ := List.append_of_mem (gateIxs_all g)
  unfold State.voidReached
  rw [hl, List.foldl_append, List.foldl_cons]
  have h1 : VoidPath s g False (before.foldl State.onReservationVoid s) :=
    List.foldlRecOn _ _ start fun _ ht _ _ => ht.onReservationVoid hq
  have h2 : VoidPath s g True (after.foldl State.onReservationVoid _) :=
    List.foldlRecOn _ _ (h1.turn hd hq) fun _ ht _ _ => ht.onReservationVoid hq
  exact h2.entry.resolve_right fun hn => hn.1 trivial

end

/-! #### The attempt -/

theorem onReservationVoid_besideRefresh (s : State) (g : GateIx) :
    (s.onReservationVoid g).besideRefresh = s.besideRefresh := by
  unfold State.onReservationVoid
  split
  · rw [refresh_besideRefresh]
    rfl
  · rfl

theorem voidReached_besideRefresh (s : State) : s.voidReached.besideRefresh = s.besideRefresh :=
  foldl_view State.besideRefresh _ onReservationVoid_besideRefresh ..

theorem onTxAttemptStart_eq {s : State} (ha : s.attempting = false) (hi : s.busIdle = true) (hm : s.mode ≠ .conflict) :
    s.onTxAttemptStart = s.voidReached.startAttempt := if_pos (by simp [State.canAttempt, ha, hi, hm])

/-- The fields of a head frame are filled from position, train, sequence and free values, and from the gate's own entry. -/
theorem filledFrame_of_beside {s u : State} (h : u.besideRefresh = s.besideRefresh) (q : TxFrame) :
    (u.filledFrame q = match q.frame with
      | .release f => .release { f with
          offset := BitVec.ofInt 13 (max (-4096) (min 4095 (diff (s.pos .a) q.edge)))
          seq := if q.stamped then f.seq else s.passageSeq }
      | .handoff f => .handoff { f with
          offset := BitVec.ofInt 13 (max (-4096) (min 4095 (diff (s.pos .b) q.edge)))
          seq := if q.stamped then f.seq else s.passageSeq
          flags := ((s.findRecord f.tag).map fun r => r.flags.handoff).getD f.flags }
      | .reserve f => ((u.ownReservation f.gate).map fun r => Frame.reserve { f with
          lead := BitVec.ofInt 16 (diff r.start (s.pos .a))
          length := BitVec.ofInt 16 (diff r.stop r.start) }).getD (.reserve { f with
            lead := freeWord s.freeDraws, length := freeWord (s.freeDraws + 2) })
      | f => f) := by
  have frame := besideRefresh_frame h
  have hpos : ∀ i, u.pos i = s.pos i := fun i => by rw [frame]; cases i <;> rfl
  have hseq : u.passageSeq = s.passageSeq := by rw [frame]
  have hfind : u.findRecord = s.findRecord := by rw [frame]; rfl
  have hdraws : u.freeDraws = s.freeDraws := by rw [frame]
  unfold State.filledFrame
  cases q.frame with
  | release f => simp only [edgeOffset, hpos, hseq]
  | handoff f =>
    simp only [edgeOffset, hpos, hseq, hfind]
    cases s.findRecord f.tag <;> rfl
  | reserve f =>
    simp only [hpos, hdraws]
    cases u.ownReservation f.gate <;> rfl
  | _ => rfl

/-- Settles O40: the due voids are taken gate by gate, then the head frame is filled from a state equal but for queue, gates
and reservations. -/
theorem attemptStartsAtIdle : Obligations.AttemptStartsAtIdle := by
  unfold Obligations.AttemptStartsAtIdle
  intro s q rest ha
  have start : exec .txAttemptStart s = .next s.onTxAttemptStart := rfl
  have frame := besideRefresh_frame (voidReached_besideRefresh s)
  refine ⟨?_, fun h => ?_, fun h => ?_, fun g hg => ?_, fun hi hm hu => ?_, fun hi hm hu => ?_⟩
  · have : exec .busIdle s = .next s.onBusIdle := rfl
    rw [this, State.onBusIdle, if_neg (by simp [ha])]
  · rw [start, State.onTxAttemptStart, if_neg]
    obtain h | h := h <;> simp [State.canAttempt, h]
  · exact List.foldl_fixed' (fun g => by simp [State.onReservationVoid, h g]) _
  · obtain ⟨hown, hqueue⟩ := voidReached_unreserved ha hg
    exact ⟨hown, by simpa using hqueue⟩
  · rw [start, onTxAttemptStart_eq ha hi hm, State.startAttempt, hu]
  · rw [start, onTxAttemptStart_eq ha hi hm, State.startAttempt, hu]
    have hfill := filledFrame_of_beside (voidReached_besideRefresh s) q
    have hseq : s.voidReached.passageSeq = s.passageSeq := by rw [frame]
    have hdraws : s.voidReached.freeDraws = s.freeDraws := by rw [frame]
    have haddress : s.voidReached.ownAddress = s.address.getD 0 := by rw [frame]; rfl
    dsimp only
    rw [hfill, hseq, hdraws, haddress]
    refine ⟨?_, rfl⟩
    unfold State.attemptDraws takesSequence
    cases q.frame <;> rfl

end Sys2Proof.Machine
end

section
namespace Sys2Proof.Machine

/-! ### O13: a quiet step -/

/-- A fold that takes the entries of a table one by one, each by its own function, takes every entry of its list once. -/
theorem foldl_pointwise {ι β : Type} [DecidableEq ι] (get : State → ι → β) (f : State → ι → State)
    (F : ι → β → β)
    (P : State → Prop) (hP : ∀ u i, P u → P (f u i)) (hsame : ∀ u i, P u → get (f u i) i = F i (get u i))
    (hne : ∀ u i j, P u → j ≠ i → get (f u i) j = get u j) (l : List ι) (hl : l.Nodup)
    (s : State) (hs : P s) (j : ι) :
    get (l.foldl f s) j = if j ∈ l then F j (get s j) else get s j := by
  induction l generalizing s with
  | nil => rfl
  | cons i l ih =>
    obtain ⟨hi, hl⟩ := List.nodup_cons.mp hl
    rw [List.foldl_cons, ih hl _ (hP s i hs)]
    by_cases hj : j = i
    · subst hj
      rw [if_neg hi, if_pos (by simp), hsame s j hs]
    · rw [hne s i j hs hj]
      simp [hj]

/-! #### The eyes -/

/-- The state beside its eyes. -/
def State.besideEyes (s : State) : State := { s with eyes := State.reset.eyes }

theorem besideEyes_frame {s t : State} (h : t.besideEyes = s.besideEyes) : t = { s with eyes := t.eyes } :=
  congrArg (fun u : State => { u with eyes := t.eyes }) h

/-- Where no closure waits, a step at an eye is a change of that eye. -/
theorem stepEye_quiet (s : State) (hw : s.waiting = []) (i : TravelInput) (first : Bool) (inc : Nat) (e : EyeIx) :
    s.stepEye i first inc e =
      if s.eyeRuns e && (s.eye e).set.input == i then s.setEye e ((s.eye e).atForwardStep first inc) else s := by
  have ended : (s.setEye e ((s.eye e).atForwardStep first inc)).candidateEnded e =
      s.setEye e ((s.eye e).atForwardStep first inc) :=
    candidateEnded_none _ e (by rw [setEye_waiting, hw]; exact fun w hm => nomatch hm)
  unfold State.stepEye
  dsimp only
  rw [ended, ite_self]

theorem eyeIxs_all (k : EyeIx) : k ∈ eyeIxs := by
  revert k
  decide

/-- A forward step with no closure waiting is counted eye by eye (R23, R27, R28). -/
theorem foldl_stepEye_quiet (s : State) (hw : s.waiting = []) (i : TravelInput) (first : Bool) (inc : Nat) :
    eyeIxs.foldl (fun s e => s.stepEye i first inc e) s =
      { s with
        eyes := Vector.ofFn fun e =>
          if s.eyeRuns e && (s.eye e).set.input == i then (s.eye e).atForwardStep first inc else s.eye e } := by
  have waits : ∀ u : State, u.besideEyes = s.besideEyes → u.waiting = [] := fun u hu => by
    rw [besideEyes_frame hu]
    exact hw
  have beside : ∀ (u : State) e, u.besideEyes = s.besideEyes → (u.stepEye i first inc e).besideEyes = s.besideEyes :=
    fun u e hu => by
      rw [stepEye_quiet u (waits u hu)]
      split
      · exact hu
      · exact hu
  have eyes := foldl_pointwise State.eye (fun s e => s.stepEye i first inc e)
    (fun _ x => if s.joined && x.set.enable && x.set.input == i then x.atForwardStep first inc else x)
    (fun u => u.besideEyes = s.besideEyes) beside
    (fun u e hu => by
      have hm : u.mode = s.mode := by rw [besideEyes_frame hu]
      rw [stepEye_quiet u (waits u hu), State.eyeRuns, State.joined, hm, ← State.joined]
      split
      · rw [setEye_eye]
      · rfl)
    (fun u e k hu hk => by
      rw [stepEye_quiet u (waits u hu)]
      split
      · rw [setEye_eye_ne _ _ hk]
      · rfl)
    eyeIxs (by decide) s rfl
  have frame := besideEyes_frame (List.foldlRecOn (motive := fun u => State.besideEyes u = s.besideEyes) eyeIxs
    (fun (s : State) e => s.stepEye i first inc e) rfl fun u hu e _ => beside u e hu)
  have all : (eyeIxs.foldl (fun s e => s.stepEye i first inc e) s).eyes = Vector.ofFn fun e =>
      if s.eyeRuns e && (s.eye e).set.input == i then (s.eye e).atForwardStep first inc else s.eye e := by
    apply Vector.ext
    intro k hk
    rw [Vector.getElem_ofFn]
    exact (eyes ⟨k, hk⟩).trans (if_pos (eyeIxs_all _))
  rw [all] at frame
  exact frame

/-! #### Patience -/

/-- The state beside its gates. -/
def State.besideGates (s : State) : State := { s with gates := State.reset.gates }

theorem besideGates_frame {s t : State} (h : t.besideGates = s.besideGates) : t = { s with gates := t.gates } :=
  congrArg (fun u : State => { u with gates := t.gates }) h

/-- The flags of a gate that its suspension looks at. -/
abbrev Gate.SameFlags (x y : Gate) : Prop := x.hold = y.hold ∧ x.block = y.block ∧ x.lock = y.lock

theorem suspended_of_flags {s u : State} (h : u.besideGates = s.besideGates) {g : GateIx}
    (hg : (u.gate g).SameFlags (s.gate g)) : u.suspended g = s.suspended g := by
  obtain ⟨hhold, hblock, hlock⟩ := hg
  have hheld : u.held = s.held := by rw [besideGates_frame h]; rfl
  have hmode : u.mode = s.mode := by rw [besideGates_frame h]
  have hfull : u.trainFull = s.trainFull := by rw [besideGates_frame h]; rfl
  have hfeed : u.feedCount = s.feedCount := by rw [besideGates_frame h]; rfl
  have hrev : u.travelA = s.travelA := by rw [besideGates_frame h]
  simp only [State.suspended, hhold, hblock, hlock, hheld, hmode, hfull, hfeed, hrev]

/-- The patience of the gates after an increment (R115). -/
def Gate.waited (x : Gate) (suspended : Bool) (inc : Nat) : Gate :=
  if x.state == .ready && !suspended && decide (x.patienceCount < x.set.patience) then
    { x with patienceCount := min x.set.patience (x.patienceCount + inc) }
  else x

theorem waited_flags (x : Gate) (b : Bool) (inc : Nat) : (x.waited b inc).SameFlags x := by
  unfold Gate.waited
  split <;> exact ⟨rfl, rfl, rfl⟩

theorem setGate_self (s : State) (g : GateIx) : s.setGate g (s.gate g) = s := by
  have : s.gates.set g (s.gate g) = s.gates := by simp [State.gate]
  unfold State.setGate
  rw [this]

theorem stepPatience_eq (s : State) (inc : Nat) (g : GateIx) :
    s.stepPatience inc g = s.setGate g ((s.gate g).waited (s.suspended g) inc) := by
  unfold State.stepPatience Gate.waited
  dsimp only
  split
  · rfl
  · rw [setGate_self]

theorem foldl_stepPatience (s : State) (inc : Nat) :
    gateIxs.foldl (fun s g => s.stepPatience inc g) s =
      { s with gates := Vector.ofFn fun g => (s.gate g).waited (s.suspended g) inc } := by
  have kept : ∀ (u : State) g, (u.besideGates = s.besideGates ∧ ∀ k, (u.gate k).SameFlags (s.gate k)) →
      (u.stepPatience inc g).besideGates = s.besideGates ∧ ∀ k, ((u.stepPatience inc g).gate k).SameFlags (s.gate k) := by
    intro u g hu
    rw [stepPatience_eq]
    refine ⟨hu.1, fun k => ?_⟩
    by_cases hk : k = g
    · subst hk
      rw [setGate_gate]
      obtain ⟨hhold, hblock, hlock⟩ := waited_flags (u.gate k) (u.suspended k) inc
      obtain ⟨hhold', hblock', hlock'⟩ := hu.2 k
      exact ⟨hhold.trans hhold', hblock.trans hblock', hlock.trans hlock'⟩
    · rw [setGate_gate_ne _ _ hk]
      exact hu.2 k
  have start : s.besideGates = s.besideGates ∧ ∀ k, (s.gate k).SameFlags (s.gate k) := ⟨rfl, fun _ => ⟨rfl, rfl, rfl⟩⟩
  have gates := foldl_pointwise State.gate (fun s g => s.stepPatience inc g)
    (fun g x => x.waited (s.suspended g) inc) _ kept
    (fun u g hu => by rw [stepPatience_eq, setGate_gate, suspended_of_flags hu.1 (hu.2 g)])
    (fun u g k _ hk => by rw [stepPatience_eq, setGate_gate_ne _ _ hk])
    gateIxs (by decide) s start
  have frame := besideGates_frame (List.foldlRecOn
    (motive := fun u => State.besideGates u = s.besideGates ∧ ∀ k, (State.gate u k).SameFlags (s.gate k)) gateIxs
    (fun (s : State) g => s.stepPatience inc g) start fun u hu g _ => kept u g hu).1
  have all : (gateIxs.foldl (fun s g => s.stepPatience inc g) s).gates =
      Vector.ofFn fun g => (s.gate g).waited (s.suspended g) inc := by
    apply Vector.ext
    intro k hk
    rw [Vector.getElem_ofFn]
    exact (gates ⟨k, hk⟩).trans (if_pos (gateIxs_all _))
  rw [all] at frame
  exact frame

end Sys2Proof.Machine
end

section
namespace Sys2Proof.Machine

/-! #### What a withdrawal leaves in the gates -/

/-- Between s and t the gates have changed at most in their pending WITHDRAW. -/
def State.PendingApart (s t : State) : Prop :=
  ∀ g, t.gate g = { s.gate g with withdrawPending := (t.gate g).withdrawPending }

theorem State.PendingApart.trans {s t u : State} (h : s.PendingApart t) (h' : t.PendingApart u) :
    s.PendingApart u := fun g => by
  rw [h' g, h g]

theorem withdrawEntry_pendingApart (s : State) (k : GateIx) : s.PendingApart (s.withdrawEntry k) := by
  have queued : ∀ u : State, u.PendingApart (u.queueWithdraw k) := fun u g => by
    unfold State.queueWithdraw
    obtain ⟨-, ho⟩ | ⟨-, ho⟩ := offer_cases u (.withdraw k) 0 <;> rw [ho]
    · rfl
    · dsimp only
      by_cases hg : g = k
      · subst hg
        rw [setGate_gate]
      · rw [setGate_gate_ne _ _ hg]
  unfold State.withdrawEntry
  split
  · exact fun g => rfl
  · split
    · exact fun g => rfl
    · exact (queued (s.dropOwn k) : _)

theorem withdrawSuspended_pendingApart (s : State) : s.PendingApart s.withdrawSuspended :=
  List.foldlRecOn (motive := fun u => s.PendingApart u) _ _ (fun _ => rfl) fun u hu k _ =>
    State.PendingApart.trans hu (withdrawEntry_pendingApart u k)

theorem refresh_pendingApart (s : State) : s.PendingApart s.refresh := by
  have h := State.PendingApart.trans (withdrawSuspended_pendingApart s) (withdrawSuspended_pendingApart _)
  unfold State.refresh
  rw [outputsAfresh_frame]
  generalize s.withdrawSuspended.withdrawSuspended = u at h ⊢
  generalize u.outputsAfresh.channels = c
  exact h

/-! #### Every gate suspended: every own reservation is withdrawn -/

theorem filter_not_isOwn_of_none {l : List Reservation} {g : GateIx} (h : l.find? (·.isOwn g) = none) :
    l.filter (fun x => !x.isOwn g) = l :=
  List.filter_eq_self.mpr fun x hx => by simpa using List.find?_eq_none.mp h x hx

theorem queueWithdraw_reservations (s : State) (g : GateIx) : (s.queueWithdraw g).reservations = s.reservations := by
  unfold State.queueWithdraw
  obtain ⟨-, ho⟩ | ⟨-, ho⟩ := offer_cases s (.withdraw g) 0 <;> rw [ho] <;> rfl

theorem withdrawEntry_reservations (s : State) (g : GateIx) :
    (s.withdrawEntry g).reservations = s.reservations.filter fun x => !x.isOwn g := by
  unfold State.withdrawEntry
  split
  · rename_i h
    exact (filter_not_isOwn_of_none h).symm
  · split
    · rfl
    · exact queueWithdraw_reservations _ g

theorem foldl_withdrawEntry_reservations (l : List GateIx) (s : State) :
    (l.foldl State.withdrawEntry s).reservations = s.reservations.filter fun x => !(x.own && l.contains x.gate) := by
  induction l generalizing s with
  | nil => simp
  | cons g l ih =>
    rw [List.foldl_cons, ih, withdrawEntry_reservations, List.filter_filter]
    refine List.filter_congr fun x _ => ?_
    cases hx : x.own <;> by_cases hg : x.gate = g <;> simp [Reservation.isOwn, hx, hg]

/-- A WITHDRAW of the gate is pending or queued. -/
def State.withdrawn (s : State) (g : GateIx) : Prop :=
  (s.gate g).withdrawPending = true ∨ (s.queue.any fun q => q.frame == .withdraw g) = true

theorem withdrawn_queueWithdraw (s : State) (g : GateIx) : (s.queueWithdraw g).withdrawn g := by
  unfold State.queueWithdraw
  obtain ⟨-, ho⟩ | ⟨-, ho⟩ := offer_cases s (.withdraw g) 0 <;> rw [ho]
  · exact .inr (by simp [State.push, TxFrame.new])
  · exact .inl (by simp)

theorem queueWithdraw_withdrawn {s : State} {g : GateIx} (h : s.withdrawn g) (k : GateIx) :
    (s.queueWithdraw k).withdrawn g := by
  unfold State.queueWithdraw
  obtain ⟨-, ho⟩ | ⟨-, ho⟩ := offer_cases s (.withdraw k) 0 <;> rw [ho]
  · refine h.imp id fun hq => ?_
    rw [push_queue, List.any_append, hq, Bool.true_or]
  · refine h.imp (fun hg => ?_) id
    by_cases hk : g = k
    · subst hk
      simp
    · rw [setGate_gate_ne _ _ hk]
      exact hg

theorem voidReserve_withdrawn {s : State} {g : GateIx} (h : s.withdrawn g) (k : GateIx) : (s.voidReserve k).withdrawn g := by
  refine h.imp id fun hq => ?_
  obtain ⟨x, hx, hf⟩ := List.any_eq_true.mp hq
  have hf : x.frame = .withdraw g := by simpa using hf
  refine List.any_eq_true.mpr ⟨x, List.mem_filterMap.mpr ⟨x, hx, ?_⟩, by simp [hf]⟩
  have : isReserveOf k x = false := by simp [isReserveOf, hf]
  simp [this]

theorem withdrawEntry_withdrawn {s : State} {g : GateIx} (h : s.withdrawn g) (k : GateIx) :
    (s.withdrawEntry k).withdrawn g := by
  have dropped : (s.dropOwn k).withdrawn g := h
  unfold State.withdrawEntry
  split
  · exact h
  · split
    · exact voidReserve_withdrawn dropped k
    · exact queueWithdraw_withdrawn dropped k

theorem withdrawEntry_ownReservation_ne (s : State) {g k : GateIx} (h : g ≠ k) :
    (s.withdrawEntry k).ownReservation g = s.ownReservation g := by
  rw [State.ownReservation, withdrawEntry_reservations]
  exact dropOwn_ownReservation_ne s h

theorem foldl_withdrawEntry_withdrawn {l : List GateIx} (s : State) {g : GateIx} (hg : g ∈ l)
    (h : ((s.ownReservation g).any fun x => x.phase == .standing) = true) : (l.foldl State.withdrawEntry s).withdrawn g := by
  induction l generalizing s with
  | nil => cases hg
  | cons k l ih =>
    rw [List.foldl_cons]
    by_cases hk : g = k
    · subst hk
      have now : (s.withdrawEntry g).withdrawn g := by
        unfold State.withdrawEntry
        cases hr : s.ownReservation g with
        | none => simp [hr] at h
        | some r =>
          have hp : r.phase = .standing := by simpa [hr] using h
          dsimp only
          rw [hp]
          exact withdrawn_queueWithdraw _ g
      exact List.foldlRecOn (motive := fun u => State.withdrawn u g) _ _ now fun u hu k _ => withdrawEntry_withdrawn hu k
    · refine ih _ (List.mem_of_ne_of_mem hk hg) ?_
      rw [withdrawEntry_ownReservation_ne s hk]
      exact h

/-- Where every gate is suspended, a refresh withdraws every own reservation (R95, R119). -/
theorem refresh_all_suspended (s : State) (h : ∀ g, s.suspended g = true) :
    s.refresh.reservations = s.reservations.filter (fun x => !x.own) ∧
      ∀ g, ((s.ownReservation g).any fun x => x.phase == .standing) = true → s.refresh.withdrawn g := by
  have all : gateIxs.filter s.suspended = gateIxs := List.filter_eq_self.mpr fun g _ => h g
  have once : s.withdrawSuspended = gateIxs.foldl State.withdrawEntry s := by rw [State.withdrawSuspended, all]
  have gone : s.withdrawSuspended.reservations = s.reservations.filter fun x => !x.own := by
    rw [once, foldl_withdrawEntry_reservations]
    refine List.filter_congr fun x _ => ?_
    have : gateIxs.contains x.gate = true := List.contains_iff_mem.mpr (gateIxs_all _)
    rw [this, Bool.and_true]
  have twice : s.withdrawSuspended.withdrawSuspended = s.withdrawSuspended := withdrawSuspended_none _ fun g _ => by
    rw [State.ownReservation, gone, List.find?_eq_none]
    intro x hx
    have := (List.mem_filter.mp hx).2
    simp_all [Reservation.isOwn]
  have standing : ∀ g, ((s.ownReservation g).any fun x => x.phase == .standing) = true →
      s.withdrawSuspended.withdrawn g := fun g hg => by
    rw [once]
    exact foldl_withdrawEntry_withdrawn s (gateIxs_all g) hg
  unfold State.refresh
  rw [twice, outputsAfresh_frame]
  generalize s.withdrawSuspended = u at gone standing ⊢
  generalize u.outputsAfresh.channels = c
  exact ⟨gone, standing⟩

/-! #### Suspension over a step -/

/-- What suspension looks at, beside gates, eyes and the direction of travel. -/
def State.suspensionRest (s : State) : State :=
  { s.suspensionView with travelA := Travel.reset, eyes := State.reset.eyes, gates := State.reset.gates }

/-- The fields of an eye that the LEVEL and JAM causes look at. -/
abbrev Eye.SameCauses (x y : Eye) : Prop :=
  x.set = y.set ∧ (y.set.function = .levelHold → x.accepted = y.accepted) ∧ x.jammed = y.jammed

theorem suspensionRest_fields {s t : State} (h : t.suspensionRest = s.suspensionRest) :
    t.mode = s.mode ∧ t.trainFull = s.trainFull ∧ t.feedCount = s.feedCount ∧ t.lineHold = s.lineHold ∧
      t.wrapAlarm = s.wrapAlarm ∧ t.trainCause = s.trainCause ∧ t.address = s.address ∧
      t.announcedReason = s.announcedReason ∧ t.holders = s.holders := by
  have view : ∀ u : State, (u.mode, u.trainFull, u.feedCount, u.lineHold, u.wrapAlarm, u.trainCause, u.address,
      u.announcedReason, u.holders) = (u.suspensionRest.mode, u.suspensionRest.trainFull, u.suspensionRest.feedCount,
      u.suspensionRest.lineHold, u.suspensionRest.wrapAlarm, u.suspensionRest.trainCause, u.suspensionRest.address,
      u.suspensionRest.announcedReason, u.suspensionRest.holders) := fun _ => rfl
  have := (view t).trans ((by rw [h]) : _ = _) |>.trans (view s).symm
  simpa only [Prod.mk.injEq] using this

theorem held_congr {s t : State} (h : t.suspensionRest = s.suspensionRest)
    (he : ∀ e, (t.eye e).SameCauses (s.eye e)) : t.held = s.held := by
  obtain ⟨hmode, -, -, hline, hwrap, htrain, haddress, hreason, hholders⟩ := suspensionRest_fields h
  have hjam : t.jamCause = s.jamCause := by
    unfold State.jamCause
    exact congrArg _ (funext fun e => (he e).2.2)
  have hlevel : t.levelCause = s.levelCause := by
    unfold State.levelCause
    refine congrArg _ (funext fun e => ?_)
    obtain ⟨hset, haccepted, -⟩ := he e
    rw [hset]
    by_cases hf : (s.eye e).set.function = .levelHold
    · rw [haccepted hf]
    · rw [beq_false_of_ne hf, Bool.and_false, Bool.false_and, Bool.false_and]
  have hholder : t.holder = s.holder := funext fun a => by simp only [State.holder, hholders]
  have hholding : t.holding = s.holding := by
    simp only [State.holding, State.anyCause, State.causes, State.joined, hmode, hline, hwrap, htrain, hjam, hlevel]
  have hreasons : t.reasonHeld = s.reasonHeld := funext fun a => by
    unfold State.reasonHeld
    rw [hholding, haddress, hreason, hholder]
  simp only [State.held, hholding, hreasons]

theorem suspended_mono {s t : State} (h : t.suspensionRest = s.suspensionRest)
    (he : ∀ e, (t.eye e).SameCauses (s.eye e)) {g : GateIx} (hg : (t.gate g).SameFlags (s.gate g))
    (hr : t.travelA.reverse = true → s.travelA.reverse = true) (ht : t.suspended g = true) : s.suspended g = true := by
  obtain ⟨hhold, hblock, hlock⟩ := hg
  obtain ⟨hmode, hfull, hfeed, -⟩ := suspensionRest_fields h
  simp only [State.suspended, hhold, hblock, hlock, held_congr h he, hmode, hfull, hfeed, Bool.or_eq_true] at ht ⊢
  exact ht.imp id hr

end Sys2Proof.Machine
end

section
namespace Sys2Proof.Machine

/-! #### The quiet step -/

/-- The whole millimetres of a counted step (R4). -/
def State.increment (s : State) (i : TravelInput) (forward : Bool) : Nat :=
  (diff ((s.travel i).counted (!forward)).position (s.pos i)).toNat

/-- Counters and eyes after a quiet step. -/
def State.counted (s : State) (i : TravelInput) (x : Bool × Bool) (forward : Bool) : State :=
  { s.setTravel i { (s.travel i).counted (!forward) with reference := some x } with
    lastStep := some { input := i, before := s.pos i, forward := forward }, freshWindows := []
    undoneReserves := []
    eyes := Vector.ofFn fun e =>
      if forward = true ∧ s.eyeRuns e = true ∧ (s.eye e).set.input = i then
        (s.eye e).atForwardStep (s.travel i).reverse (s.increment i forward)
      else s.eye e }

/-- The gates after a quiet step. -/
def State.countedGates (s : State) (i : TravelInput) (x : Bool × Bool) (forward : Bool) : Vector Gate 4 :=
  Vector.ofFn fun g =>
    if forward = true ∧ i = .a ∧ (s.gate g).state = .ready ∧ (s.counted i x forward).suspended g = false ∧
        (s.gate g).patienceCount < (s.gate g).set.patience then
      { s.gate g with
        patienceCount := min (s.gate g).set.patience ((s.gate g).patienceCount + s.increment i forward) }
    else s.gate g

variable {s : State} {i : TravelInput} {x : Bool × Bool}

theorem ofFn_gate (s : State) : (Vector.ofFn fun g => s.gate g) = s.gates := by
  apply Vector.ext
  intro k hk
  simp [State.gate]

theorem ofFn_eye (s : State) : (Vector.ofFn fun e => s.eye e) = s.eyes := by
  apply Vector.ext
  intro k hk
  simp [State.eye]

theorem countStep_increment (s : State) (i : TravelInput) (x : Bool × Bool) (forward : Bool) :
    (diff ((s.countStep i x (!forward)).pos i) (s.pos i)).toNat = s.increment i forward := by
  cases i <;> rfl

/-- The counters alone: the eyes as they were. -/
theorem counted_eq (s : State) (i : TravelInput) (x : Bool × Bool) (forward : Bool) :
    s.counted i x forward = { s.countStep i x (!forward) with
      eyes := Vector.ofFn fun e =>
        if forward = true ∧ s.eyeRuns e = true ∧ (s.eye e).set.input = i then
          (s.eye e).atForwardStep (s.travel i).reverse (s.increment i forward)
        else s.eye e } := by
  unfold State.counted State.countStep
  rw [Bool.not_not]
  rfl

theorem foldl_stepEye_countStep (hw : s.waiting = []) :
    eyeIxs.foldl (fun u e => u.stepEye i (s.travel i).reverse (s.increment i true) e) (s.countStep i x (!true)) =
      s.counted i x true := by
  have hw' : (s.countStep i x (!true)).waiting = [] := by cases i <;> exact hw
  have hruns : ∀ e, (s.countStep i x (!true)).eyeRuns e = s.eyeRuns e := by cases i <;> exact fun _ => rfl
  have heye : ∀ e, (s.countStep i x (!true)).eye e = s.eye e := by cases i <;> exact fun _ => rfl
  rw [foldl_stepEye_quiet _ hw', counted_eq]
  simp only [hruns, heye, Bool.and_eq_true, beq_iff_eq, true_and]

/-- Where the outlet owes nothing, nothing is paid (R157). -/
theorem payOutlet_unowed {u : State} (ho : ∀ d, (u.dest d).owed = none)
    (hr : u.role = some .outlet → ∀ r ∈ u.train, r.unrouted = false) : u.payOutlet = u := by
  unfold State.payOutlet
  split
  · rename_i h
    have none : u.train.filter Record.unrouted = [] := List.filter_eq_nil_iff.mpr fun r hr' => by simp [hr h.1 r hr']
    rw [none, List.map_nil, List.foldl_nil]
    exact List.foldl_fixed' (fun d => by simp [State.payTrigger, ho d]) _
  · rfl

theorem countedGates_of_not {forward : Bool} (h : ¬ (forward = true ∧ i = .a)) :
    s.countedGates i x forward = s.gates := by
  unfold State.countedGates
  rw [← ofFn_gate]
  congr 1
  funext g
  rw [if_neg fun hg => h ⟨hg.1, hg.2.1⟩]

theorem waited_countedGates (s : State) (x : Bool × Bool) :
    (Vector.ofFn fun g =>
      ((s.counted .a x true).gate g).waited ((s.counted .a x true).suspended g) (s.increment .a true)) =
      s.countedGates .a x true := by
  unfold State.countedGates
  congr 1
  funext g
  have hg : (s.counted .a x true).gate g = s.gate g := rfl
  simp only [Gate.waited, hg, Bool.and_eq_true, beq_iff_eq, Bool.not_eq_true', decide_eq_true_eq, true_and, and_assoc]

/-- A step with no closure waiting and nothing owed counts distance and nothing else (R23, R28, R115). -/
theorem takeStep_quiet (hw : s.waiting = []) (ho : ∀ d, (s.dest d).owed = none)
    (hr : s.role = some .outlet → ∀ r ∈ s.train, r.unrouted = false) (forward : Bool) :
    s.takeStep i x (!forward) = { s.counted i x forward with gates := s.countedGates i x forward } := by
  unfold State.takeStep
  dsimp only
  rw [countStep_increment]
  cases forward with
  | false =>
    rw [if_pos (by rfl), countedGates_of_not (by simp), counted_eq]
    have : (Vector.ofFn fun e => if false = true ∧ s.eyeRuns e = true ∧ (s.eye e).set.input = i then
        (s.eye e).atForwardStep (s.travel i).reverse (s.increment i false) else s.eye e) = s.eyes := by
      rw [← ofFn_eye]
      simp
    rw [this]
    cases i <;> rfl
  | true =>
    rw [if_neg (by simp)]
    cases i with
    | a =>
      dsimp only
      have unpaid : (s.countStep .a x (!true)).payOutlet = s.countStep .a x (!true) := payOutlet_unowed ho hr
      rw [unpaid, foldl_stepEye_countStep hw, foldl_stepPatience]
      rw [waited_countedGates]
    | b =>
      dsimp only
      rw [foldl_stepEye_countStep hw, countedGates_of_not (by simp)]
      rfl

/-! #### What follows a quiet step -/

theorem counted_suspensionRest (forward : Bool) (g : Vector Gate 4) :
    State.suspensionRest { s.counted i x forward with gates := g } = s.suspensionRest := by
  cases i <;> rfl

theorem countedGates_flags (forward : Bool) (g : GateIx) :
    (State.gate { s.counted i x forward with gates := s.countedGates i x forward } g).SameFlags (s.gate g) := by
  unfold State.gate State.countedGates
  simp only [Fin.getElem_fin, Vector.getElem_ofFn, Fin.eta]
  split <;> exact ⟨rfl, rfl, rfl⟩

/-- Unless it is the first forward step after reverse travel, a step leaves what the LEVEL and JAM causes look at. -/
theorem counted_causes {forward : Bool} (h : forward = false ∨ (s.travel i).reverse = false) (e : EyeIx) :
    ((s.counted i x forward).eye e).SameCauses (s.eye e) := by
  have he : (s.counted i x forward).eye e = if forward = true ∧ s.eyeRuns e = true ∧ (s.eye e).set.input = i then
      (s.eye e).atForwardStep (s.travel i).reverse (s.increment i forward) else s.eye e := by
    simp [State.counted, State.eye]
  rw [he]
  split
  · rename_i hf
    obtain h | h := h
    · exact absurd hf.1 (by simp [h])
    · rw [h]
      exact ⟨rfl, fun _ => rfl, rfl⟩
  · exact ⟨rfl, fun _ => rfl, rfl⟩

/-- Where a quiet step suspends no gate anew, no reservation is withdrawn (R95). -/
theorem counted_unwithdrawn (hp : s.PinsFollow) {forward : Bool}
    (h : i = .a ∧ forward = true ∨ i = .b ∧ (forward = false ∨ (s.travel i).reverse = false)) (g : GateIx)
    (hg : State.suspended { s.counted i x forward with gates := s.countedGates i x forward } g = true) :
    s.ownReservation g = none := by
  obtain ⟨-, -, hres⟩ := hp
  by_cases hall : s.travelA.reverse = true
  · exact hres g (by simp [State.suspended, hall])
  · refine hres g (suspended_mono (counted_suspensionRest forward _) (fun e => ?_) (countedGates_flags forward g) ?_ hg)
    · refine counted_causes (x := x) ?_ e
      obtain ⟨rfl, -⟩ | ⟨-, h⟩ := h
      · exact .inr (by simpa [State.travel] using hall)
      · exact h
    · obtain ⟨rfl, rfl⟩ | ⟨rfl, -⟩ := h
      · exact fun hr => absurd hr (by simp [State.counted, State.setTravel, Travel.counted])
      · exact id

theorem outputsAfresh_shape {v w : State} (h : v.besideWithdrawals = w.besideWithdrawals) :
    v.outputsAfresh = { w with
      gates := v.gates, reservations := v.reservations, queue := v.queue
      channels := Vector.ofFn fun c => w.shown (w.channel c) } := by
  have frame := besideWithdrawals_frame h
  have hshown : v.shown = w.shown := by
    rw [frame]
    exact funext (shown_congr (fun i => by cases i <;> rfl) rfl rfl)
  have hchannel : v.channel = w.channel := by
    rw [frame]
    rfl
  rw [outputsAfresh_eq, hshown, hchannel]
  exact congrArg (fun u : State => { u with channels := Vector.ofFn fun c => w.shown (w.channel c) }) frame

theorem alertAfresh_shape {o w : State} {g : Vector Gate 4} {r : List Reservation} {q : List TxFrame} {c : Vector Channel 8}
    (h : o = { w with gates := g, reservations := r, queue := q, channels := c }) :
    o.alertAfresh = { w with
      gates := o.alertAfresh.gates, reservations := o.alertAfresh.reservations, queue := o.alertAfresh.queue
      channels := c, alertPin := (o.alertAfresh.conditions &&& w.alertMask) != 0 } := by
  subst h
  rfl

/-- After the withdrawals outputs and ALERT are taken afresh. -/
theorem refresh_shape (w : State) : w.refresh = { w with
    gates := w.refresh.gates, reservations := w.refresh.reservations, queue := w.refresh.queue
    channels := Vector.ofFn fun c => w.shown (w.channel c)
    alertPin := (w.refresh.conditions &&& w.alertMask) != 0 } :=
  alertAfresh_shape (outputsAfresh_shape
    ((withdrawSuspended_besideWithdrawals _).trans (withdrawSuspended_besideWithdrawals _)))

end Sys2Proof.Machine
end

section
namespace Sys2Proof.Machine

/-- The state once a quiet step has been counted and before it is followed. -/
def State.quiet (s : State) (i : TravelInput) (x : Bool × Bool) (forward : Bool) : State :=
  { s.counted i x forward with gates := s.countedGates i x forward }

variable {s : State} {i : TravelInput} {x : Bool × Bool} {forward : Bool}

theorem quiet_reservations : (s.quiet i x forward).reservations = s.reservations := by
  cases i <;> rfl

theorem quiet_ownReservation (g : GateIx) : (s.quiet i x forward).ownReservation g = s.ownReservation g := by
  rw [State.ownReservation, quiet_reservations, State.ownReservation]

theorem quiet_channel : (s.quiet i x forward).channel = s.channel := by
  cases i <;> rfl

theorem quiet_shown : (s.quiet i x forward).shown = (s.counted i x forward).shown :=
  funext (shown_congr (fun j => by cases j <;> rfl) rfl rfl)

/-- A reverse step of input A suspends every gate (R9, R95). -/
theorem quiet_reverse_suspended (g : GateIx) : (s.quiet .a x false).suspended g = true := by
  have reverse : (s.quiet .a x false).travelA.reverse = true := rfl
  rw [State.suspended, reverse, Bool.or_true]

theorem quiet_refresh_frame : (s.quiet i x forward).refresh = { s.counted i x forward with
    gates := (s.quiet i x forward).refresh.gates, reservations := (s.quiet i x forward).refresh.reservations
    queue := (s.quiet i x forward).refresh.queue
    channels := Vector.ofFn fun c => (s.counted i x forward).shown (s.channel c)
    alertPin := ((s.quiet i x forward).refresh.conditions &&& (s.counted i x forward).alertMask) != 0 } := by
  have shape := refresh_shape (s.quiet i x forward)
  rw [quiet_shown, quiet_channel] at shape
  exact shape

theorem quiet_refresh_unwithdrawn (hp : s.PinsFollow)
    (h : i = .a ∧ forward = true ∨ i = .b ∧ (forward = false ∨ (s.travel i).reverse = false)) :
    (s.quiet i x forward).refresh.gates = s.countedGates i x forward ∧
      (s.quiet i x forward).refresh.reservations = s.reservations ∧ (s.quiet i x forward).refresh.queue = s.queue := by
  rw [refresh_unwithdrawn _ fun g hg => by rw [quiet_ownReservation]; exact counted_unwithdrawn hp h g hg, outputsAfresh_eq]
  exact ⟨rfl, quiet_reservations, by cases i <;> rfl⟩

theorem quiet_refresh_reverse :
    (s.quiet .a x false).refresh.reservations = s.reservations.filter (fun x => !x.own) ∧
      ∀ g, ((s.ownReservation g).any fun x => x.phase == .standing) = true → (s.quiet .a x false).refresh.withdrawn g :=
  refresh_all_suspended (s.quiet .a x false) quiet_reverse_suspended

/-- Settles O13: the step counts distance, and what follows it withdraws reservations and shows the outputs. -/
theorem quietStepCountsDistance : Obligations.QuietStepCountsDistance := by
  unfold Obligations.QuietStepCountsDistance
  intro s i ch1 ch2 ref hpins hsettle hw ho hu hpitch href hx forward
  have taken : exec (.travelStep i ch1 ch2) s = .next (s.quiet i (ch1, ch2) forward).refresh := by
    have sample : exec (.travelStep i ch1 ch2) s = .next (s.onTravelSample i (ch1, ch2)) := rfl
    rw [sample, onTravelSample_step s i hpitch href hx, hsettle, takeStep_quiet hw ho hu]
    rfl
  have hmask : (s.counted i (ch1, ch2) forward).alertMask = s.alertMask := by cases i <;> rfl
  have frame := quiet_refresh_frame (s := s) (i := i) (x := (ch1, ch2)) (forward := forward)
  rw [hmask] at frame
  refine ⟨_, taken, ?_, ?_, fun h => ?_, fun hi hf => ?_⟩
  · exact frame
  · exact refresh_pendingApart (s.quiet i (ch1, ch2) forward)
  · exact quiet_refresh_unwithdrawn hpins h
  · subst hi
    rw [hf]
    exact quiet_refresh_reverse

end Sys2Proof.Machine
end

section
namespace Sys2Proof.Machine

/-! #### A record taken from its place and set again (R51) -/

/-- Whether x stands before y looks at stage, p and admission alone. -/
abbrev Record.SamePlace (x y : Record) : Prop := x.stage = y.stage ∧ x.p = y.p ∧ x.order = y.order

/-- A change that does not move the record it is made to, made before or after the record is set in its place. -/
theorem map_insertRecord (f : Record → Record) {r : Record} {l : List Record} (hf : (f r).SamePlace r)
    (hl : ∀ x ∈ l, x.tag ≠ r.tag) :
    (insertRecord r l).map (fun x => if x.tag == r.tag then f x else x) = insertRecord (f r) l := by
  obtain ⟨hstage, hp, horder⟩ := hf
  induction l with
  | nil => simp [insertRecord]
  | cons y l ih =>
    obtain ⟨hy, hl⟩ := List.forall_mem_cons.mp hl
    have before : (f r).before y = r.before y := by simp only [Record.before, hstage, hp, horder]
    have others : l.map (fun x => if x.tag == r.tag then f x else x) = l :=
      (List.map_congr_left fun x hx => if_neg (by simpa using hl x hx)).trans (List.map_id' l)
    unfold insertRecord
    rw [before]
    split
    · rw [List.map_cons, List.map_cons, if_pos (beq_self_eq_true _), if_neg (by simpa using hy), others]
    · rw [List.map_cons, if_neg (by simpa using hy), ih hl]

theorem find_insertRecord {r : Record} {l : List Record} (hl : ∀ x ∈ l, x.tag ≠ r.tag) :
    (insertRecord r l).find? (fun x => x.tag == r.tag) = some r := by
  induction l with
  | nil => simp [insertRecord]
  | cons y l ih =>
    obtain ⟨hy, hl⟩ := List.forall_mem_cons.mp hl
    have hy' : (y.tag == r.tag) = false := by simpa using hy
    unfold insertRecord
    split
    · simp
    · simp [hy', ih hl]

theorem filter_tag_ne (l : List Record) (tag : Tag) : ∀ x ∈ l.filter (fun x => x.tag != tag), x.tag ≠ tag := fun x hx => by
  simpa using (List.mem_filter.mp hx).2

variable {s t : State}

@[simp] theorem replaceRecord_findRecord (s : State) (r : Record) : (s.replaceRecord r).findRecord r.tag = some r :=
  find_insertRecord (filter_tag_ne _ _)

/-- A record replaced and then changed in place is the changed record replaced. -/
theorem updateRecord_replaceRecord (s : State) (r : Record) (f : Record → Record) (hf : (f r).SamePlace r)
    (ht : (f r).tag = r.tag) : (s.replaceRecord r).updateRecord r.tag f = s.replaceRecord (f r) := by
  unfold State.updateRecord State.replaceRecord
  rw [ht]
  dsimp only
  rw [map_insertRecord f hf (filter_tag_ne _ _)]

theorem replaceRecord_trainFull (h : s.TrainSound) {r y : Record} (hr : r ∈ s.train) (ht : y.tag = r.tag) :
    (s.replaceRecord y).trainFull = s.trainFull := by
  obtain ⟨-, htags, -⟩ := h
  have kept : (s.replaceRecord y).train.length = s.train.length := by
    rw [State.replaceRecord, length_insertRecord, ht]
    exact filter_tag_length htags hr
  rw [State.trainFull, kept, State.trainFull]

/-! #### What follows a change of the train -/

/-- The state beside the train, what its events note, and what they queue, teach and record; and beside ALERT. -/
def State.besideTrain (s : State) : State :=
  { s with train := [], waiting := [], freshWindows := [], exitRejectNext := false, queue := [], slip := 0, passageSeq := 0
           faults := [], overflow := 0, alertPin := false }

theorem besideTrain_frame (h : t.besideTrain = s.besideTrain) : t = { s with
    train := t.train, waiting := t.waiting, freshWindows := t.freshWindows, exitRejectNext := t.exitRejectNext
    queue := t.queue, slip := t.slip, passageSeq := t.passageSeq, faults := t.faults, overflow := t.overflow
    alertPin := t.alertPin } :=
  congrArg (fun u : State => { u with
    train := t.train, waiting := t.waiting, freshWindows := t.freshWindows, exitRejectNext := t.exitRejectNext
    queue := t.queue, slip := t.slip, passageSeq := t.passageSeq, faults := t.faults, overflow := t.overflow
    alertPin := t.alertPin }) h

theorem besideTrain_held (h : t.besideTrain = s.besideTrain) : t.held = s.held := by
  rw [besideTrain_frame h]
  rfl

/-- A change of the train that neither fills nor empties it suspends no gate. -/
theorem besideTrain_suspended (h : t.besideTrain = s.besideTrain) (hfull : t.trainFull = s.trainFull)
    (hfeed : t.feedCount = s.feedCount) (g : GateIx) : t.suspended g = s.suspended g := by
  have hgate : t.gate g = s.gate g := by rw [besideTrain_frame h]; rfl
  have hmode : t.mode = s.mode := by rw [besideTrain_frame h]
  have htravel : t.travelA = s.travelA := by rw [besideTrain_frame h]
  simp only [State.suspended, hgate, hmode, htravel, besideTrain_held h, hfull, hfeed]

theorem besideTrain_shown (h : t.besideTrain = s.besideTrain)
    (hshown : ∀ c, s.channel c = s.shown (s.channel c)) (c : ChannelIx) : t.channel c = t.shown (t.channel c) := by
  have hchannel : t.channel c = s.channel c := by rw [besideTrain_frame h]; rfl
  have hpos : ∀ i, t.pos i = s.pos i := fun i => by rw [besideTrain_frame h]; cases i <;> rfl
  have hmode : t.mode = s.mode := by rw [besideTrain_frame h]
  have hstep : t.lastStep = s.lastStep := by rw [besideTrain_frame h]
  rw [hchannel, shown_congr hpos hmode hstep]
  exact hshown c

/-- After such a change only ALERT is left to follow. -/
theorem refresh_besideTrain (h : t.besideTrain = s.besideTrain) (hfull : t.trainFull = s.trainFull)
    (hfeed : t.feedCount = s.feedCount) (hshown : ∀ c, s.channel c = s.shown (s.channel c))
    (hres : ∀ g, s.suspended g = true → s.ownReservation g = none) : t.refresh = t.alertAfresh := by
  have hown : ∀ g, t.ownReservation g = s.ownReservation g := fun g => by rw [besideTrain_frame h]; rfl
  refine refresh_alert t (besideTrain_shown h hshown) fun g hg => ?_
  rw [hown]
  exact hres g ((besideTrain_suspended h hfull hfeed g).symm.trans hg)

/-- And where no fault is recorded, nothing. -/
theorem refresh_besideTrain_eq (h : t.besideTrain = s.besideTrain) (hfull : t.trainFull = s.trainFull)
    (hfeed : t.feedCount = s.feedCount) (hfaults : t.faults = s.faults) (hover : t.overflow = s.overflow)
    (pin : t.alertPin = s.alertPin) (hp : s.PinsFollow) : t.refresh = t := by
  have conditions : t.conditions = s.conditions := by
    rw [besideTrain_frame h, hfaults, hover]
    rfl
  have mask : t.alertMask = s.alertMask := by rw [besideTrain_frame h]
  obtain ⟨hshown, halert, hres⟩ := hp
  rw [refresh_besideTrain h hfull hfeed hshown hres]
  exact alertAfresh_follows t (by rw [pin, conditions, mask, halert])

end Sys2Proof.Machine
end

section
namespace Sys2Proof.Machine

variable {s : State} {tag : Tag} {r : Record}

/-! #### Routing and the exit steps of a record just set in its place -/

theorem dueRecord_some {k : TravelEvent} (h : s.dueRecord k tag = some r) : r ∈ s.train ∧ r.tag = tag := by
  unfold State.dueRecord at h
  split at h
  · split at h
    · cases h
      exact findRecord_some s ‹_›
    · cases h
  · cases h

theorem exec_deadReckoning (h : s.dueRecord .reckoning tag = some r) :
    exec (.deadReckoning tag) s = .next (s.reckon r).refresh := by
  have taken : s.onDeadReckoning tag = (s.reckon r).refresh := by
    unfold State.onDeadReckoning State.takeEvent
    rw [h]
  exact congrArg Host.Outcome.next taken

/-- The reject destination, or the one of the class (R151), with its two tests for REJECT and for an unknown lot in one. -/
theorem routeOf_eq (s : State) (r : Record) : s.routeOf r =
    if r.flags.reject = true ∨ r.lot = 255 ∨
        ((r.flags.double || r.flags.stray || r.flags.unverified || r.flags.length) = true ∧ s.doubtfulToClass = false) then
      s.rejectDest
    else (s.classOf r.cls).dest := by
  have unknown : Config.unknownLot = 255 := rfl
  unfold State.routeOf
  rw [unknown]
  by_cases hreject : r.flags.reject = true
  · simp [hreject]
  · by_cases hlot : r.lot = 255
    · simp [hlot]
    · rw [if_neg hreject, if_neg hlot]
      simp only [hreject, hlot, Flags.doubtful, false_or, Bool.not_eq_true', Bool.false_eq_true]

/-- A destination without a divert channel is asked for nothing (R152). -/
theorem requestDivert_none {d : DestIx} (h : (s.dest d).set.divert = none) (r : Record) (e : Pos) :
    s.requestDivert r e d = s := by
  unfold State.requestDivert
  dsimp only
  rw [h]

/-- A record whose departure is ahead does not depart at once (R155). -/
theorem departIfPassed_ahead (hr : s.findRecord tag = some r)
    (hahead : ((s.departureAt r).all fun y => !atOrPast (s.pos .a) y) = true) : s.departIfPassed tag = s := by
  unfold State.departIfPassed
  rw [hr]
  dsimp only
  split
  · rename_i p hp
    rw [hp] at hahead
    have ahead : atOrPast (s.pos .a) p = false := by simpa using hahead
    rw [if_neg (by simp [ahead])]
  · rfl

/-- Where the destination has no divert and its departure is ahead, routing gives the record its destination and nothing
else (R151). -/
theorem route_replaceRecord {e : Pos} (hrev : s.travelA.reverse = false) (hlead : r.lead = some e)
    (hdivert : (s.dest (s.routeOf r)).set.divert = none)
    (hahead : ((s.departureAt { r with dest := some (s.routeOf r) }).all fun y => !atOrPast (s.pos .a) y) = true) :
    (s.replaceRecord r).route r.tag = s.replaceRecord { r with dest := some (s.routeOf r) } := by
  have waits : (s.replaceRecord r).outletWaits = false := hrev
  have routed : (s.replaceRecord r).routeOf r = s.routeOf r := rfl
  unfold State.route
  rw [waits, replaceRecord_findRecord]
  dsimp only
  rw [routed, updateRecord_replaceRecord s r (fun x => { x with dest := some (s.routeOf r) }) ⟨rfl, rfl, rfl⟩ rfl]
  generalize hd : s.routeOf r = d at *
  have found : (s.replaceRecord { r with dest := some d }).findRecord r.tag = some { r with dest := some d } :=
    replaceRecord_findRecord s { r with dest := some d }
  have direct : ((s.replaceRecord { r with dest := some d }).dest d).set.divert = none := hdivert
  rw [if_neg (by simp)]
  split
  · rename_i hnone
    rw [hlead] at hnone
    cases hnone
  · rw [requestDivert_none direct]
    exact departIfPassed_ahead found hahead

/-- The record that leaves the exit, with the exit reject-next on it (R147). -/
def State.leavingRecord (s : State) (r : Record) : Record :=
  { r with flags := { r.flags with reject := r.flags.reject || s.exitRejectNext } }

/-- The train with that record in its place, and the exit reject-next consumed. -/
def State.leave (s : State) (r : Record) : State :=
  { s.replaceRecord (s.leavingRecord r) with exitRejectNext := false }

theorem takeExitReject_replaceRecord (s : State) (r : Record) :
    (s.replaceRecord r).takeExitReject r.tag = s.leave r := by
  have next : (s.replaceRecord r).exitRejectNext = s.exitRejectNext := rfl
  unfold State.takeExitReject State.leave State.leavingRecord
  rw [next]
  cases hx : s.exitRejectNext with
  | false =>
    rw [if_neg (by simp), Bool.or_false]
    exact congrArg (fun b => { s.replaceRecord r with exitRejectNext := b }) hx
  | true =>
    rw [if_pos rfl, State.markReject, updateRecord_replaceRecord s r Record.reject ⟨rfl, rfl, rfl⟩ rfl, Bool.or_true]
    rfl

theorem leave_findRecord (s : State) (r : Record) : (s.leave r).findRecord r.tag = some (s.leavingRecord r) :=
  replaceRecord_findRecord s (s.leavingRecord r)

/-- The exit steps of a record just moved to LEAVING by dead reckoning: the exit reject-next and the HANDOFF (R141). -/
theorem exitSteps_reckoned (s : State) (r : Record) :
    (s.replaceRecord r).exitSteps r.tag none = (s.leave r).queueHandoff (s.leavingRecord r) := by
  simp only [State.exitSteps, takeExitReject_replaceRecord, leave_findRecord]

/-- Where the exit edge was captured, the lesson comes last (R142). -/
theorem exitSteps_captured (s : State) (r : Record) (x : Pos) : (s.replaceRecord r).exitSteps r.tag (some x) =
    ((s.leave r).queueHandoff (s.leavingRecord r)).slipLesson (s.leavingRecord r) x := by
  simp only [State.exitSteps, takeExitReject_replaceRecord, leave_findRecord]

theorem queueHandoff_room (h : s.queue.length < 16) (r : Record) :
    s.queueHandoff r = { s with queue := s.queue ++ [TxFrame.new (.handoff (handoffFrame r)) (r.lead.getD 0)] } := by
  have room : s.roomFor (.handoff (handoffFrame r)) = true := by
    simp [State.roomFor, feedClass, State.queueRoom, Config.queueCapacity, h]
  unfold State.queueHandoff State.offer
  rw [if_pos room]
  rfl

end Sys2Proof.Machine
end

section
namespace Sys2Proof.Machine

/-! #### Dead reckoning (R82) -/

variable {s : State} {tag : Tag} {r : Record}

/-- A replaced record, with what else no pin looks at: nothing is left to follow. -/
theorem refresh_replaceRecord (hp : s.PinsFollow) (ht : s.TrainSound) (hr : r ∈ s.train) {y : Record} (hy : y.tag = r.tag)
    (fresh : List Tag) (exit : Bool) (q : List TxFrame) (hq : (q.countP fun x => feedClass x.frame) = 0) :
    State.refresh { s.replaceRecord y with
        freshWindows := fresh, exitRejectNext := exit, queue := s.queue ++ q } =
      { s.replaceRecord y with freshWindows := fresh, exitRejectNext := exit, queue := s.queue ++ q } := by
  refine refresh_besideTrain_eq (s := s) rfl (replaceRecord_trainFull ht hr hy) ?_ rfl rfl rfl hp
  have count : State.feedCount { s.replaceRecord y with
      freshWindows := fresh, exitRejectNext := exit, queue := s.queue ++ q } =
      (s.queue ++ q).countP fun x => feedClass x.frame := rfl
  rw [count, List.countP_append, hq, Nat.add_zero, State.feedCount]

theorem refresh_replaceRecord_alone (hp : s.PinsFollow) (ht : s.TrainSound) (hr : r ∈ s.train) {y : Record}
    (hy : y.tag = r.tag) : (s.replaceRecord y).refresh = s.replaceRecord y := by
  have h := refresh_replaceRecord hp ht hr hy s.freshWindows s.exitRejectNext [] rfl
  rw [List.append_nil] at h
  exact h

theorem reckon_feed (hrole : s.role = some .feed) (hstage : r.stage = .pending) :
    s.reckon r = s.replaceRecord { r with stage := .inside, lead := some r.p } := by
  unfold State.reckon
  rw [hrole, hstage]

/-- The entry reckoned where the exit lane has an eye: rebased on input B, and no more (R60, R82). -/
theorem reckon_entry (hrole : s.role = some .ironer) (hstage : r.stage = .pending)
    (hexit : (s.eyeAt .exit r.lane).isSome = true) :
    s.reckon r = (s.replaceRecord (s.rebased r (s.pos .b) .inside)).markFresh r.tag := by
  have found : ((s.replaceRecord (s.rebased r (s.pos .b) .inside)).markFresh r.tag).findRecord r.tag =
      some (s.rebased r (s.pos .b) .inside) := replaceRecord_findRecord s (s.rebased r (s.pos .b) .inside)
  have eye : ((s.replaceRecord (s.rebased r (s.pos .b) .inside)).markFresh r.tag).eyeAt .exit
      (s.rebased r (s.pos .b) .inside).lane = s.eyeAt .exit r.lane := rfl
  unfold State.reckon
  rw [hrole, hstage]
  dsimp only
  unfold State.reckonExitIfPassed
  rw [found]
  dsimp only
  rw [eye, if_neg]
  rintro ⟨-, -, hnone, -⟩
  simp [Option.isNone_iff_eq_none.mp hnone] at hexit

theorem reckon_exit (hrole : s.role = some .ironer) (hstage : r.stage = .inside) : s.reckon r = s.reckonExit r := by
  unfold State.reckon
  rw [hrole, hstage]

theorem reckon_outlet (hrole : s.role = some .outlet) (hstage : r.stage = .pending) :
    s.reckon r = (s.replaceRecord { r with stage := .entering, lead := some r.p }).route r.tag := by
  unfold State.reckon
  rw [hrole, hstage]

/-- The exit reckoned where the queue has room: LEAVING with its HANDOFF queued, and no lesson (R82, R141). -/
theorem reckonExit_room (hq : s.queue.length < 16) {y : Record} (hy : y = { r with stage := .leaving, lead := some r.p }) :
    s.reckonExit r = { s.leave y with
      queue := s.queue ++ [TxFrame.new (.handoff (handoffFrame (s.leavingRecord y))) r.p] } := by
  have room : (s.leave y).queueHandoff (s.leavingRecord y) = { s.leave y with
      queue := s.queue ++ [TxFrame.new (.handoff (handoffFrame (s.leavingRecord y))) (y.lead.getD 0)] } :=
    queueHandoff_room (s := s.leave y) hq _
  subst hy
  exact (exitSteps_reckoned s _).trans room

/-- Settles O31: per role and stage, the record is set in its new place and nothing else is left to follow. -/
theorem deadReckoningAdvances : Obligations.DeadReckoningAdvances := by
  unfold Obligations.DeadReckoningAdvances
  intro s tag r hp ht hdue
  obtain ⟨hr, rfl⟩ := dueRecord_some hdue
  rw [exec_deadReckoning hdue]
  refine ⟨fun hrole hstage => ?_, fun hrole hstage hexit => ?_, fun hrole hstage hq => ?_,
    fun hrole hstage hrev hdivert hahead => ?_⟩
  · rw [reckon_feed hrole hstage]
    exact congrArg Host.Outcome.next
      (refresh_replaceRecord_alone hp ht hr (y := { r with stage := .inside, lead := some r.p }) rfl)
  · have still := refresh_replaceRecord hp ht hr (y := s.rebased r (s.pos .b) .inside) rfl (r.tag :: s.freshWindows)
      s.exitRejectNext [] rfl
    rw [List.append_nil] at still
    rw [reckon_entry hrole hstage hexit]
    exact congrArg Host.Outcome.next still
  · let y : Record := { r with stage := .leaving, lead := some r.p }
    have left : s.reckonExit r = { s.leave y with
        queue := s.queue ++ [TxFrame.new (.handoff (handoffFrame (s.leavingRecord y))) r.p] } := reckonExit_room hq rfl
    rw [reckon_exit hrole hstage, left]
    exact congrArg Host.Outcome.next
      (refresh_replaceRecord hp ht hr (y := s.leavingRecord y) rfl s.freshWindows false _ rfl)
  · let y : Record := { r with stage := .entering, lead := some r.p }
    have route : s.routeOf y = _ := routeOf_eq s y
    have routed : (s.replaceRecord y).route r.tag = s.replaceRecord { y with dest := some (s.routeOf y) } :=
      route_replaceRecord hrev rfl (by rw [route]; exact hdivert) (by rw [route]; exact hahead)
    have still := refresh_replaceRecord_alone hp ht hr (y := { y with dest := some (s.routeOf y) }) rfl
    rw [reckon_outlet hrole hstage, routed, still, route]
    rfl

end Sys2Proof.Machine
end

section
namespace Sys2Proof.Machine

/-! #### The HANDOFF announced and the lesson taught -/

variable {s z : State} {e : EyeIx}

/-- The HANDOFF of a record queued, or dropped with its sequence spent (R143, R145). -/
def State.announce (s : State) (r : Record) : State :=
  if s.queue.length < 16 then
    { s with queue := s.queue ++ [TxFrame.new (.handoff (handoffFrame r)) (r.lead.getD 0)] }
  else
    { s.recordFault
        { kind := .txOverrun, position := s.pos .b, input := .b, tag := some r.tag, lot := some r.lot } with
      passageSeq := s.passageSeq + 1 }

theorem queueHandoff_eq (s : State) (r : Record) : s.queueHandoff r = s.announce r := by
  unfold State.announce
  split
  · exact queueHandoff_room ‹_› r
  · rename_i h
    have full : s.offer (.handoff (handoffFrame r)) (r.lead.getD 0) = none := by
      have : s.roomFor (.handoff (handoffFrame r)) = false := by
        simp [State.roomFor, feedClass, State.queueRoom, Config.queueCapacity, h]
      rw [State.offer, this]
      rfl
    unfold State.queueHandoff State.dropHandoff State.recordFault
    rw [full]
    dsimp only
    split <;> rfl

/-- What the announcement looks at and changes. -/
theorem announce_beside (s : State) (r : Record) (eyes : Vector Eye 8) (train : List Record)
    (waiting : List Waiting) (x : Bool) :
    State.announce { s with eyes := eyes, train := train, waiting := waiting, exitRejectNext := x } r =
      { s.announce r with eyes := eyes, train := train, waiting := waiting, exitRejectNext := x } := by
  unfold State.announce State.recordFault
  dsimp only
  split
  · rfl
  · split <;> rfl

theorem announce_besideTrain (s : State) (r : Record) : (s.announce r).besideTrain = s.besideTrain := by
  unfold State.announce State.recordFault
  split
  · rfl
  · split <;> rfl

theorem announce_feedCount (s : State) (r : Record) : (s.announce r).feedCount = s.feedCount := by
  unfold State.announce State.recordFault State.feedCount
  split
  · rw [List.countP_append]
    rfl
  · split <;> rfl

theorem announce_fields (s : State) (r : Record) :
    (s.announce r).ironer = s.ironer ∧ (s.announce r).slip = s.slip ∧ (s.announce r).train = s.train ∧
      (s.announce r).waiting = s.waiting := by
  unfold State.announce State.recordFault
  split
  · exact ⟨rfl, rfl, rfl, rfl⟩
  · split <;> exact ⟨rfl, rfl, rfl, rfl⟩

/-- The lesson is a change of the slip factor alone (R142). -/
theorem slipLesson_eq {x : IronerSettings} (hx : s.ironer = some x) {r : Record} {b : Pos} (hb : r.entryB = some b)
    (c : Pos) :
    s.slipLesson r c = { s with
      slip := if x.learning && !r.flags.dirty then learnedSlip x.pathLength s.slip c b else s.slip } := by
  have lesson : s.slipLesson r c = if x.learning && !r.flags.dirty then
      { s with slip := learnedSlip x.pathLength s.slip c b } else s := by
    simp only [State.slipLesson, hx, hb]
  rw [lesson]
  split <;> rfl

/-! #### An edge delivered to the exit eye -/

theorem become_blocked_causes (h : (s.eye e).set.function ≠ .levelHold) (k : EyeIx) :
    ((s.setEye e ((s.eye e).become .blocked)).eye k).SameCauses (s.eye k) := by
  by_cases hk : k = e
  · subst hk
    rw [setEye_eye]
    exact ⟨rfl, fun hf => absurd hf h, rfl⟩
  · have other : (s.setEye e ((s.eye e).become .blocked)).eye k = s.eye k := by
      simp [State.setEye, State.eye, Fin.val_ne_of_ne (Ne.symm hk)]
    rw [other]
    exact ⟨rfl, fun _ => rfl, rfl⟩

/-- What the matcher asks of eyes: their settings alone. -/
theorem eyeAt_congr {t : State} (h : ∀ k, (t.eye k).set = (s.eye k).set) : t.eyeAt = s.eyeAt :=
  funext fun k => funext fun l => by simp only [State.eyeAt, h]

theorem offsetAt_congr {t : State} (h : ∀ k, (t.eye k).set = (s.eye k).set) : t.offsetAt = s.offsetAt :=
  funext fun k => funext fun l => by
    unfold State.offsetAt
    rw [eyeAt_congr h]
    split
    · rw [h]
    · rfl

theorem inWindow_congr {t : State} (h : ∀ k, (t.eye k).set = (s.eye k).set) : t.inWindow = s.inWindow :=
  funext fun r => funext fun k => funext fun x => by
    have anchor : t.anchor r k x.eye = s.anchor r k x.eye := by
      unfold State.anchor
      rw [h, offsetAt_congr h]
    unfold State.inWindow
    rw [anchor]

/-- An edge delivered to the exit eye whose record is known: it is moved on with the edge as its capture (R70, R141). -/
theorem edge_exit (hf : (s.eye e).set.function = .exit) {c : Candidate} (hc : c.level = .blocked) {r : Record}
    (hr : (s.train.find? fun y =>
      y.awaitsLead .exit && y.lane == (s.eye e).set.lane && s.inWindow y .exit (c.edge e)) = some r) :
    s.edge (c.edge e) = s.advanceLead r .exit (c.snap (s.eye e).set.input) c.snapB true := by
  have leading : (c.edge e).leading = true := by simp [Candidate.edge, hc]
  have capture : s.capture (c.edge e) = c.snap (s.eye e).set.input := by
    unfold State.capture
    cases h : (s.eye e).set.input <;> simp only [Candidate.edge, h] <;> rfl
  have at_ : (c.edge e).eye = e := rfl
  unfold State.edge
  rw [at_, hf]
  dsimp only [EyeFunction.checkpoint]
  rw [if_pos leading]
  unfold State.leadingEdge
  dsimp only
  rw [at_, hr, capture]
  rfl

end Sys2Proof.Machine
end

section
namespace Sys2Proof.Machine

/-! #### An exit edge accepted -/

variable {s : State} {e : EyeIx} {r : Record} {c : Candidate}

/-- The tracker once the exit has handed record m on: its eye blocked, m in its place, the HANDOFF announced, the lesson. -/
def State.handedOn (s : State) (e : EyeIx) (m : Record) (slip : Nat) : State :=
  { s.announce m with
    eyes := s.eyes.set e ((s.eye e).become .blocked), exitRejectNext := false
    train := insertRecord m (s.train.filter fun y => y.tag != m.tag)
    waiting := s.waiting.filter fun w => w.tag != m.tag, slip := slip }

/-- The record as the exit edge leaves it (R60, R141, R147). -/
def State.exited (s : State) (r : Record) (capture : Pos) : Record :=
  s.leavingRecord { r with stage := .leaving, lead := some capture, p := Pos.plus capture (-(s.offsetAt .exit r.lane)) }

/-- The factor the exit edge of a record leaves (R18, R142). -/
def State.taught (s : State) (x : IronerSettings) (r : Record) (capture b : Pos) : Nat :=
  if x.learning && !r.flags.dirty then learnedSlip x.pathLength s.slip capture b else s.slip

theorem setEye_become_set (s : State) (e : EyeIx) (l : Level) (k : EyeIx) :
    ((s.setEye e ((s.eye e).become l)).eye k).set = (s.eye k).set := by
  by_cases hk : k = e
  · subst hk
    rw [setEye_eye]
    cases l <;> rfl
  · have other : (s.setEye e ((s.eye e).become l)).eye k = s.eye k := by
      simp [State.setEye, State.eye, Fin.val_ne_of_ne (Ne.symm hk)]
    rw [other]

theorem advanceLead_exit {x : IronerSettings} (hx : s.ironer = some x) {b : Pos} (hb : r.entryB = some b)
    (capture snapB : Pos) :
    (s.setEye e ((s.eye e).become .blocked)).advanceLead r .exit capture snapB true =
      s.handedOn e (s.exited r capture) (s.taught x r capture b) := by
  have offsets := offsetAt_congr (setEye_become_set s e .blocked)
  let m := s.exited r capture
  have steps : (s.setEye e ((s.eye e).become .blocked)).advanceLead r .exit capture snapB true =
      (State.queueHandoff { s with
        eyes := s.eyes.set e ((s.eye e).become .blocked), exitRejectNext := false
        train := insertRecord m (s.train.filter fun y => y.tag != m.tag)
        waiting := s.waiting.filter fun w => w.tag != m.tag } m).slipLesson m capture := by
    unfold State.advanceLead
    dsimp only
    rw [offsets]
    exact exitSteps_captured _ _ capture
  obtain ⟨hironer, hslip, -⟩ := announce_fields s m
  have announced : State.queueHandoff { s with
      eyes := s.eyes.set e ((s.eye e).become .blocked), exitRejectNext := false
      train := insertRecord m (s.train.filter fun y => y.tag != m.tag)
      waiting := s.waiting.filter fun w => w.tag != m.tag } m = s.handedOn e m (s.announce m).slip :=
    (queueHandoff_eq _ m).trans (announce_beside s m _ _ _ false)
  have lesson := slipLesson_eq (s := s.handedOn e m (s.announce m).slip) (hironer.trans hx) (r := m) hb capture
  rw [hslip] at announced lesson
  rw [steps, announced, lesson]
  rfl

theorem handedOn_besideTrain (s : State) (e : EyeIx) (m : Record) (n : Nat) :
    (s.handedOn e m n).besideTrain = (s.setEye e ((s.eye e).become .blocked)).besideTrain :=
  congrArg (fun u : State => { u with eyes := s.eyes.set e ((s.eye e).become .blocked) }) (announce_besideTrain s m)

/-- What follows the hand-on is ALERT alone. -/
theorem handedOn_refresh (hp : s.PinsFollow) (ht : s.TrainSound) (hf : (s.eye e).set.function = .exit) {m : Record}
    (hr : r ∈ s.train) (hm : m.tag = r.tag) (n : Nat) {t : State}
    (h : t = s.handedOn e m n ∨ t = (s.handedOn e m n).alertAfresh) :
    t.refresh = (s.handedOn e m n).alertAfresh := by
  obtain ⟨hshown, -, hres⟩ := hp
  have full : (s.handedOn e m n).trainFull = s.trainFull := replaceRecord_trainFull (y := m) ht hr hm
  have feed : (s.handedOn e m n).feedCount = s.feedCount := announce_feedCount s m
  have shown : ∀ k, (s.setEye e ((s.eye e).become .blocked)).channel k =
      (s.setEye e ((s.eye e).become .blocked)).shown ((s.setEye e ((s.eye e).become .blocked)).channel k) := fun k => by
    have same := shown_congr (s := s) (t := s.setEye e ((s.eye e).become .blocked)) (fun i => by cases i <;> rfl) rfl rfl
    exact (hshown k).trans (same (s.channel k)).symm
  have apart : ∀ g, (s.setEye e ((s.eye e).become .blocked)).suspended g = true →
      (s.setEye e ((s.eye e).become .blocked)).ownReservation g = none := fun g hg =>
    hres g (suspended_mono (s := s) (t := s.setEye e ((s.eye e).become .blocked)) rfl
      (become_blocked_causes (by simp [hf])) ⟨rfl, rfl, rfl⟩ id hg)
  obtain rfl | rfl := h
  · exact refresh_besideTrain (handedOn_besideTrain s e m n) full feed shown apart
  · exact refresh_besideTrain (t := (s.handedOn e m n).alertAfresh) (handedOn_besideTrain s e m n) full feed shown apart

/-- The acceptance of a candidate whose edge is delivered and leaves no closure waiting on its eye (R23, R84). -/
theorem onEdgeAccepted_delivered {k : Checkpoint} (h : s.EdgeDue e c k) {u : State}
    (hu : ((s.setEye e ((s.eye e).become c.level)).edge (c.edge e)).refresh = u) (hw : ∀ w ∈ u.waiting, w.eye ≠ e) :
    s.onEdgeAccepted e = u.refresh := by
  obtain ⟨hruns, hdelivers, -, hcandidate, hfilter⟩ := h
  have due : (s.eye e).acceptDue = true := by simp [Eye.acceptDue, hcandidate, hfilter]
  have delivers : (s.setEye e ((s.eye e).become c.level)).delivers e = s.delivers e := by
    have hset := setEye_become_set s e c.level e
    unfold State.delivers Eye.isCheckpoint
    rw [hset]
    rfl
  have accepted : s.acceptCandidate e c = u := by
    unfold State.acceptCandidate
    dsimp only
    rw [delivers, if_pos hdelivers, hu, candidateEnded_none u e hw]
  unfold State.onEdgeAccepted State.acceptIfDue
  rw [hruns, due, hcandidate]
  dsimp only
  rw [if_pos (by rfl), if_pos (by rfl), accepted]

/-- Settles O23: the edge is delivered, the record is moved on and announced, and ALERT follows. -/
theorem exitEdgeHandsItemOn : Obligations.ExitEdgeHandsItemOn := by
  unfold Obligations.ExitEdgeHandsItemOn
  intro s e c r x b hp ht hdue _ hlevel hr hw hx hb
  have hf : (s.eye e).set.function = .exit := hdue.2.2.1
  have member : r ∈ s.train := List.mem_of_find?_eq_some hr
  let capture := c.snap (s.eye e).set.input
  have hset := setEye_become_set s e .blocked
  have edge : (s.setEye e ((s.eye e).become .blocked)).edge (c.edge e) =
      s.handedOn e (s.exited r capture) (s.taught x r capture b) := by
    rw [edge_exit (by rw [hset]; exact hf) hlevel (r := r) (by rw [hset, inWindow_congr hset]; exact hr), hset]
    exact advanceLead_exit hx hb capture c.snapB
  have followed := fun t => handedOn_refresh (t := t) hp ht hf (m := s.exited r capture) member rfl (s.taught x r capture b)
  have accepted : s.onEdgeAccepted e = (s.handedOn e (s.exited r capture) (s.taught x r capture b)).alertAfresh := by
    rw [onEdgeAccepted_delivered hdue (u := (s.handedOn e (s.exited r capture) (s.taught x r capture b)).alertAfresh)
      (by rw [hlevel, edge]; exact followed _ (.inl rfl)) fun w hm he => ?_]
    · exact followed _ (.inr rfl)
    · obtain ⟨hm, hne⟩ := List.mem_filter.mp hm
      have other : w.tag ≠ r.tag := by
        have : (w.tag != r.tag) = true := hne
        simpa using this
      exact absurd (hw w hm he) other
  have clean : (!r.flags.dirty) = (!r.flags.double && !r.flags.stray && !r.flags.unverified && !r.flags.lateAnnounce &&
      !r.flags.length) := by simp only [Flags.dirty, Bool.not_or]
  have taught := congrArg (fun z => if x.learning && z then learnedSlip x.pathLength s.slip capture b else s.slip) clean
  refine (congrArg Host.Outcome.next accepted).trans ?_
  unfold State.taught
  rw [taught]
  rfl

end Sys2Proof.Machine
end

section
namespace Sys2Proof.Machine

/-! #### What an admission can change -/

/-- The state beside what the admission of a record, its miss and what follows them change. -/
def State.besideAdmission (s : State) : State :=
  { s.besideLots.besideRefresh with train := [], trainCause := false, waiting := [], freshWindows := [], watch := [] }

theorem besideAdmission_frame {s t : State} (h : t.besideAdmission = s.besideAdmission) : t = { s with
    train := t.train, trainCause := t.trainCause, freshWindows := t.freshWindows, waiting := t.waiting, lots := t.lots
    closureList := t.closureList, dests := t.dests, channels := t.channels, faults := t.faults, overflow := t.overflow
    watch := t.watch, gates := t.gates, reservations := t.reservations, queue := t.queue, alertPin := t.alertPin } :=
  congrArg (fun u : State => { u with
    train := t.train, trainCause := t.trainCause, freshWindows := t.freshWindows, waiting := t.waiting, lots := t.lots
    closureList := t.closureList, dests := t.dests, channels := t.channels, faults := t.faults, overflow := t.overflow
    watch := t.watch, gates := t.gates, reservations := t.reservations, queue := t.queue, alertPin := t.alertPin }) h

variable {s t : State} {tag : Tag} {r : Record}

theorem besideAdmission_of_besideLots (h : t.besideLots = s.besideLots) : t.besideAdmission = s.besideAdmission :=
  congrArg (fun u : State =>
    { u.besideRefresh with train := [], trainCause := false, waiting := [], freshWindows := [], watch := [] }) h

theorem besideAdmission_of_besideRefresh (h : t.besideRefresh = s.besideRefresh) : t.besideAdmission = s.besideAdmission :=
  congrArg (fun u : State =>
    { u.besideLots.besideRefresh with train := [], trainCause := false, waiting := [], freshWindows := [], watch := [] }) h

theorem recordFault_besideLots (s : State) (f : FaultRecord) : (s.recordFault f).besideLots = s.besideLots :=
  (besideLots_kept _).fault f rfl

theorem recordFault_besideAdmission (s : State) (f : FaultRecord) :
    (s.recordFault f).besideAdmission = s.besideAdmission := besideAdmission_of_besideLots (recordFault_besideLots s f)

/-- What the window and the reckoning of a record look at. -/
theorem besideAdmission_fields (h : t.besideAdmission = s.besideAdmission) :
    t.role = s.role ∧ t.pos = s.pos ∧ t.windowOf = s.windowOf ∧ t.reckoningAt = s.reckoningAt ∧
      t.travelA = s.travelA := by
  rw [besideAdmission_frame h]
  exact ⟨rfl, rfl, rfl, rfl, rfl⟩

/-! #### Faults once recorded -/

/-- A fault stands in the list, or the list is full. -/
abbrev State.Records (s : State) (f : FaultRecord) : Prop := 8 ≤ s.faults.length ∨ f ∈ s.faults

theorem recordFault_records (s : State) (f : FaultRecord) : (s.recordFault f).Records f := by
  unfold State.recordFault
  split
  · exact .inr (by simp)
  · rename_i h
    exact .inl (Nat.le_of_not_lt h)

theorem records_recordFault {f : FaultRecord} (h : s.Records f) (y : FaultRecord) : (s.recordFault y).Records f := by
  unfold State.recordFault
  split
  · refine h.imp (fun hlen => ?_) fun hf => List.mem_append_left _ hf
    rw [List.length_append]
    exact Nat.le_add_right_of_le hlen
  · exact h

theorem records_kept (f : FaultRecord) : KeptByLots fun t => t.Records f where
  channel _ _ h _ := h
  dest _ _ h _ := h
  lot _ _ h _ := h
  closures h ht := by
    rw [ht]
    exact h
  fault y h := records_recordFault h y

theorem refresh_faults (s : State) : s.refresh.faults = s.faults := by
  rw [refresh_frame]

/-! #### Frames that withdrawals leave in the queue -/

theorem mem_queueWithdraw {q : TxFrame} (h : q ∈ s.queue) (g : GateIx) : q ∈ (s.queueWithdraw g).queue := by
  unfold State.queueWithdraw
  obtain ⟨-, ho⟩ | ⟨-, ho⟩ := offer_cases s (.withdraw g) 0 <;> rw [ho]
  · exact List.mem_append_left _ h
  · exact h

theorem mem_withdrawEntry {q : TxFrame} (hq : ∀ g, isReserveOf g q = false) (h : q ∈ s.queue) (g : GateIx) :
    q ∈ (s.withdrawEntry g).queue := by
  have dropped : q ∈ (s.dropOwn g).queue := h
  unfold State.withdrawEntry
  split
  · exact h
  · split
    · exact List.mem_filterMap.mpr ⟨q, dropped, by simp [hq g]⟩
    · exact mem_queueWithdraw dropped g

theorem mem_withdrawSuspended {q : TxFrame} (hq : ∀ g, isReserveOf g q = false) (h : q ∈ s.queue) :
    q ∈ s.withdrawSuspended.queue :=
  List.foldlRecOn (motive := fun u : State => q ∈ u.queue) _ _ h fun _ hu g _ => mem_withdrawEntry hq hu g

theorem mem_refresh_queue {q : TxFrame} (hq : ∀ g, isReserveOf g q = false) (h : q ∈ s.queue) : q ∈ s.refresh.queue := by
  have kept := mem_withdrawSuspended hq (mem_withdrawSuspended hq h)
  unfold State.refresh
  rw [outputsAfresh_eq]
  exact kept

/-! #### The record admitted -/

/-- The state once a record has been added and handed to the lots, and its saturated offset is recorded (R12, R53). -/
def State.added (s : State) (r : Record) : State :=
  if r.flags.lateAnnounce then
    ((s.addRecord r).handToLots r.tag r.lot r.gate).recordFault
      { kind := .lateAnnounce, position := s.pos .a, input := .a, tag := some r.tag, lot := some r.lot }
  else (s.addRecord r).handToLots r.tag r.lot r.gate

/-- The record as it stands in the train: its place by admission, and what the lot table says of it (R165). -/
def State.admitted (s : State) (r : Record) (u : Bool) : Record :=
  { r with order := s.admissions, flags := { r.flags with lotUntracked := u } }

theorem clearIfPassed_elsewhere (h : s.role ≠ some .feed) (tag : Tag) : s.clearIfPassed tag = s := by
  unfold State.clearIfPassed
  split
  · rw [if_neg fun hc => h hc.1]
  · rfl

theorem train_of_besideLots (h : t.besideLots = s.besideLots) :
    t.train = s.train ∧ t.waiting = s.waiting ∧ t.freshWindows = s.freshWindows ∧ t.queue = s.queue :=
  have view : ∀ u : State, (u.train, u.waiting, u.freshWindows, u.queue) =
      (u.besideLots.train, u.besideLots.waiting, u.besideLots.freshWindows, u.besideLots.queue) := fun _ => rfl
  by simpa only [Prod.mk.injEq] using (view t).trans (by rw [h]; rfl : _ = (s.train, s.waiting, s.freshWindows, s.queue))

theorem handToLots_beside (s : State) (tag : Tag) (lot : Lot) (gate : Option GateIx) :
    (s.handToLots tag lot gate).besideAdmission = s.besideAdmission ∧
      (s.handToLots tag lot gate).waiting = s.waiting ∧ (s.handToLots tag lot gate).freshWindows = s.freshWindows := by
  have lots := lotAdmit_besideLots s tag lot gate
  obtain ⟨-, hwaiting, hfresh, -⟩ := train_of_besideLots lots
  have beside := besideAdmission_of_besideLots lots
  unfold State.handToLots
  dsimp only
  split
  · exact ⟨beside, hwaiting, hfresh⟩
  · exact ⟨beside, hwaiting, hfresh⟩

theorem addRecord_handToLots_train (h : ∀ x ∈ s.train, x.tag ≠ r.tag) (hu : r.flags.lotUntracked = false) :
    ∃ u, ((s.addRecord r).handToLots r.tag r.lot r.gate).train = insertRecord (s.admitted r u) s.train := by
  obtain ⟨htrain, -⟩ := train_of_besideLots (lotAdmit_besideLots (s.addRecord r) r.tag r.lot r.gate)
  have added : (s.addRecord r).train = insertRecord (s.admitted r false) s.train := by
    have same : s.admitted r false = { r with order := s.admissions } := by
      unfold State.admitted
      rw [← hu]
    rw [same]
    rfl
  rw [added] at htrain
  unfold State.handToLots
  dsimp only
  split
  · refine ⟨true, ?_⟩
    unfold State.updateRecord
    dsimp only
    rw [htrain]
    exact map_insertRecord (r := s.admitted r false) (fun x => { x with flags := { x.flags with lotUntracked := true } })
      ⟨rfl, rfl, rfl⟩ h
  · exact ⟨false, htrain⟩

end Sys2Proof.Machine
end

section
namespace Sys2Proof.Machine

variable {s t : State} {tag : Tag} {r : Record}

/-! #### The record added -/

theorem added_beside (s : State) (r : Record) :
    (s.added r).besideAdmission = (s.addRecord r).besideAdmission ∧ (s.added r).waiting = s.waiting ∧
      (s.added r).freshWindows = s.freshWindows ∧ (s.added r).queue = s.queue := by
  obtain ⟨beside, hwaiting, hfresh⟩ := handToLots_beside (s.addRecord r) r.tag r.lot r.gate
  have hqueue := handToLots_queue (s.addRecord r) r.tag r.lot r.gate
  unfold State.added
  split
  · generalize (s.addRecord r).handToLots r.tag r.lot r.gate = u at *
    obtain ⟨-, hw, hf, hq⟩ := train_of_besideLots (recordFault_besideLots u
      { kind := .lateAnnounce, position := s.pos .a, input := .a, tag := some r.tag, lot := some r.lot })
    exact ⟨(recordFault_besideAdmission u _).trans beside, hw.trans hwaiting, hf.trans hfresh, hq.trans hqueue⟩
  · exact ⟨beside, hwaiting, hfresh, hqueue⟩

theorem added_train (h : ∀ x ∈ s.train, x.tag ≠ r.tag) (hu : r.flags.lotUntracked = false) :
    ∃ u, (s.added r).train = insertRecord (s.admitted r u) s.train := by
  obtain ⟨u, htrain⟩ := addRecord_handToLots_train h hu
  refine ⟨u, ?_⟩
  unfold State.added
  split
  · rw [recordFault_train, htrain]
  · exact htrain

theorem added_late (h : r.flags.lateAnnounce = true) : (s.added r).Records
    { kind := .lateAnnounce, position := s.pos .a, input := .a, tag := some r.tag, lot := some r.lot } := by
  unfold State.added
  rw [if_pos h]
  exact recordFault_records _ _

/-- Admission at an OUTLET: the record is added, and then missed or advanced where that is due (R82, R88). -/
theorem takeIn_outlet (hrole : s.role = some .outlet) (r : Record)
    (hkept : (((s.added r).missIfClosed r.tag).reckonIfPassed r.tag).role = some .outlet) :
    s.takeIn r = ((s.added r).missIfClosed r.tag).reckonIfPassed r.tag := by
  have notFeed : ¬ s.role = some .feed := by simp [hrole]
  have taken : s.takeIn r = (((s.added r).missIfClosed r.tag).reckonIfPassed r.tag).clearIfPassed r.tag := by
    unfold State.takeIn State.added
    dsimp only
    rw [if_neg notFeed]
  rw [taken, clearIfPassed_elsewhere (by simp [hkept])]

/-! #### Nothing due at the admission -/

theorem missIfClosed_ahead (hr : s.findRecord tag = some r)
    (h : (s.windowOf r).all (fun x => !atOrPast (s.pos r.basis) x.2.2) = true) : s.missIfClosed tag = s := by
  unfold State.missIfClosed
  rw [hr]
  dsimp only
  split
  · rfl
  · rename_i k e closing hw
    rw [hw] at h
    have ahead : atOrPast (s.pos r.basis) closing = false := by simpa using h
    rw [ahead, if_neg (by simp)]

theorem missIfClosed_past (hr : s.findRecord tag = some r) {k : Checkpoint} {e : EyeIx} {closing : Pos}
    (hw : s.windowOf r = some (k, e, closing)) (h : atOrPast (s.pos r.basis) closing = true) :
    s.missIfClosed tag = s.miss r k e := by
  unfold State.missIfClosed
  rw [hr]
  dsimp only
  rw [hw]
  dsimp only
  rw [if_pos h]

theorem reckonIfPassed_absent (h : s.findRecord tag = none) : s.reckonIfPassed tag = s := by
  unfold State.reckonIfPassed
  rw [h]

/-- A PENDING record at an OUTLET that awaits dead reckoning is advanced where its position is behind; in reverse travel it
is left unrouted (R82, R159). -/
theorem reckonIfPassed_outlet (hrole : s.role = some .outlet) (hr : s.findRecord tag = some r) (hstage : r.stage = .pending)
    (hrev : (s.reckoningAt r).any (fun p => atOrPast (s.pos r.basis) p) = false ∨ s.travelA.reverse = true) :
    s.reckonIfPassed tag =
      if (s.reckoningAt r).any (fun p => atOrPast (s.pos r.basis) p) then
        s.replaceRecord { r with stage := .entering, lead := some r.p }
      else s := by
  have waits : s.travelA.reverse = true → s.reckon r = s.replaceRecord { r with stage := .entering, lead := some r.p } :=
    fun hreverse => by
      have outletWaits : (s.replaceRecord { r with stage := .entering, lead := some r.p }).outletWaits = true := hreverse
      rw [reckon_outlet hrole hstage, State.route, outletWaits, if_pos rfl]
  unfold State.reckonIfPassed
  rw [hr]
  dsimp only
  rw [hstage]
  cases hx : s.reckoningAt r with
  | none => rfl
  | some p =>
    rw [hx] at hrev
    rw [Option.any_some] at hrev ⊢
    dsimp only
    split
    · obtain hno | hreverse := hrev
      · rename_i hpast
        rw [hpast] at hno
        cases hno
      · exact waits hreverse
    · rfl

/-! #### A record missed -/

theorem offerOrDrop_beside (s : State) (f : Frame) (tag : Tag) :
    (s.offerOrDrop f tag).besideAdmission = s.besideAdmission ∧ (s.offerOrDrop f tag).train = s.train := by
  unfold State.offerOrDrop
  obtain ⟨-, ho⟩ | ⟨-, ho⟩ := offer_cases s f 0 <;> rw [ho]
  · exact ⟨rfl, rfl⟩
  · exact ⟨recordFault_besideAdmission s _, recordFault_train ..⟩

/-- The miss of a PENDING record at an OUTLET, as CLEARED or as MISSED (R62, R87). -/
def Flags.missedAs (f : Flags) : FaultKind × Byte := if f.unverified then (.cleared, 2) else (.missed, 1)

/-- A miss away from the exit and from the record's own gate: LOST, then the fault (R62, R87). -/
theorem miss_outlet (s : State) (r : Record) (e : EyeIx) : s.miss r .outlet e =
    (let u := (s.takeOut r.tag).lotRemove r false
     let v := u.offerOrDrop (.lost r.tag r.flags.missedAs.2) r.tag
     v.recordFault
      { kind := r.flags.missedAs.1, position := v.pos r.basis, input := r.basis, tag := some r.tag, lot := some r.lot
        unit := some (.eye e) }) := by
  have notOwn : s.ownAtGateEye r .outlet e = false := by simp [State.ownAtGateEye]
  unfold State.miss State.missCause Flags.missedAs
  rw [if_neg (by simp), notOwn]
  cases r.flags.unverified <;> rfl

theorem windowOf_outlet (hrole : s.role = some .outlet) {k : Checkpoint} {e : EyeIx} {closing : Pos}
    (hw : s.windowOf r = some (k, e, closing)) : k = .outlet := by
  unfold State.windowOf at hw
  split at hw
  · cases hw
  · rename_i j hj
    have outlet : j = .outlet := by
      unfold State.awaitsAt at hj
      rw [hrole] at hj
      split at hj <;> simp_all
    split at hw
    · cases hw
    · cases hw
      exact outlet

end Sys2Proof.Machine
end

section
namespace Sys2Proof.Machine

variable {s t : State} {tag : Tag} {r : Record}

theorem filter_insertRecord {y : Record} {l : List Record} (h : ∀ x ∈ l, x.tag ≠ y.tag) :
    (insertRecord y l).filter (fun x => x.tag != y.tag) = l := by
  induction l with
  | nil => simp [insertRecord]
  | cons x l ih =>
    have others : (x :: l).filter (fun z => z.tag != y.tag) = x :: l :=
      List.filter_eq_self.mpr fun z hz => by simpa using h z hz
    obtain ⟨hx, hl⟩ := List.forall_mem_cons.mp h
    have kept : (x.tag != y.tag) = true := by simpa using hx
    unfold insertRecord
    split
    · rw [List.filter_cons_of_neg (by simp), others]
    · rw [List.filter_cons_of_pos (by simpa using hx), ih hl]

/-- Where no record of the train bears the tag, the record just added is the one found by it. -/
theorem added_found {u : Bool} (h : ∀ x ∈ s.train, x.tag ≠ r.tag)
    (ht : (s.added r).train = insertRecord (s.admitted r u) s.train) :
    (s.added r).findRecord r.tag = some (s.admitted r u) := by
  unfold State.findRecord
  rw [ht]
  exact find_insertRecord (r := s.admitted r u) h

/-- An added record has the window and the reckoning that it had. -/
theorem added_fields (s : State) (r : Record) : (s.added r).role = s.role ∧ (s.added r).pos = s.pos ∧
    (s.added r).windowOf = s.windowOf ∧ (s.added r).reckoningAt = s.reckoningAt ∧ (s.added r).travelA = s.travelA := by
  obtain ⟨beside, -⟩ := added_beside s r
  exact besideAdmission_fields (s := s.addRecord r) beside

theorem admitted_window (s : State) (r : Record) (u : Bool) : s.windowOf (s.admitted r u) = s.windowOf r := rfl

theorem admitted_reckoning (s : State) (r : Record) (u : Bool) : s.reckoningAt (s.admitted r u) = s.reckoningAt r := rfl

/-- Travel has reached the position at which a record advances by dead reckoning. -/
def State.crossed (s : State) (r : Record) : Bool := (s.reckoningAt r).any fun p => atOrPast (s.pos r.basis) p

/-- A record whose window is ahead is admitted, and advanced where its crossing is behind (R55, R82). -/
theorem takeIn_ahead (hrole : s.role = some .outlet) (htags : ∀ x ∈ s.train, x.tag ≠ r.tag)
    (hu : r.flags.lotUntracked = false) (hstage : r.stage = .pending)
    (hwindow : (s.windowOf r).all (fun x => !atOrPast (s.pos r.basis) x.2.2) = true)
    (hrev : s.crossed r = false ∨ s.travelA.reverse = true) :
    ∃ u, (s.added r).train = insertRecord (s.admitted r u) s.train ∧ s.takeIn r =
      if s.crossed r then (s.added r).replaceRecord { s.admitted r u with stage := .entering, lead := some r.p }
      else s.added r := by
  obtain ⟨u, htrain⟩ := added_train htags hu
  obtain ⟨hrole', hpos, hwindows, hreckoning, htravel⟩ := added_fields s r
  have found := added_found htags htrain
  have crossed : ((s.added r).reckoningAt (s.admitted r u)).any
      (fun p => atOrPast ((s.added r).pos (s.admitted r u).basis) p) = s.crossed r := by
    rw [hreckoning, hpos, admitted_reckoning]
    rfl
  have open_ : (s.added r).missIfClosed r.tag = s.added r :=
    missIfClosed_ahead found (by rw [hwindows, hpos, admitted_window]; exact hwindow)
  have advanced := reckonIfPassed_outlet (hrole'.trans hrole) found hstage (by rw [crossed, htravel]; exact hrev)
  rw [crossed] at advanced
  refine ⟨u, htrain, ?_⟩
  rw [takeIn_outlet hrole r, open_, advanced]
  · rfl
  · rw [open_, advanced]
    split
    · exact hrole'.trans hrole
    · exact hrole'.trans hrole

/-- The LOST of a removal is queued, or its TX_OVERRUN recorded (R62). -/
theorem offerOrDrop_queues (s : State) (f : Frame) (tag : Tag) (hf : feedClass f = false) :
    (s.queue.length < 16 → TxFrame.new f 0 ∈ (s.offerOrDrop f tag).queue) ∧
      (TxFrame.new f 0 ∈ (s.offerOrDrop f tag).queue ∨
        (s.offerOrDrop f tag).Records { kind := .txOverrun, position := s.pos .a, input := .a, tag := some tag }) := by
  unfold State.offerOrDrop
  obtain ⟨-, ho⟩ | ⟨hroom, ho⟩ := offer_cases s f 0 <;> rw [ho]
  · have queued : TxFrame.new f 0 ∈ (s.push f 0).queue := by simp
    exact ⟨fun _ => queued, .inl queued⟩
  · refine ⟨fun hlen => ?_, .inr (recordFault_records s _)⟩
    simp [State.roomFor, hf, State.queueRoom, Config.queueCapacity, hlen] at hroom

theorem offerOrDrop_records {f : FaultRecord} (h : s.Records f) (y : Frame) (tag : Tag) :
    (s.offerOrDrop y tag).Records f := by
  unfold State.offerOrDrop
  obtain ⟨-, ho⟩ | ⟨-, ho⟩ := offer_cases s y 0 <;> rw [ho]
  · exact h
  · exact records_recordFault h _

/-- What the miss of a record on input A's basis leaves at an OUTLET (R62, R87). -/
structure MissedAt (s : State) (r : Record) (e : EyeIx) (t : State) : Prop where
  beside : t.besideAdmission = s.besideAdmission
  train : t.train = s.train.filter fun x => x.tag != r.tag
  queued : s.queue.length < 16 → TxFrame.new (.lost r.tag r.flags.missedAs.2) 0 ∈ t.queue
  overrun : TxFrame.new (.lost r.tag r.flags.missedAs.2) 0 ∈ t.queue ∨
    t.Records { kind := .txOverrun, position := s.pos .a, input := .a, tag := some r.tag }
  fault : t.Records { kind := r.flags.missedAs.1, position := s.pos .a, input := .a, tag := some r.tag, lot := some r.lot
                      unit := some (.eye e) }
  records : ∀ f, s.Records f → t.Records f

theorem miss_missedAt (s : State) (hr : r.basis = .a) (e : EyeIx) : MissedAt s r e (s.miss r .outlet e) := by
  have lots := lotRemove_besideLots (s.takeOut r.tag) r false
  have out : ∀ f, s.Records f → ((s.takeOut r.tag).lotRemove r false).Records f := fun f hf =>
    (records_kept f).lotRemove (s := s.takeOut r.tag) hf r false
  obtain ⟨htrain, -, -, hqueue⟩ := train_of_besideLots lots
  have beside : ((s.takeOut r.tag).lotRemove r false).besideAdmission = s.besideAdmission :=
    (besideAdmission_of_besideLots lots).trans rfl
  obtain ⟨-, hpos, -⟩ := besideAdmission_fields beside
  rw [miss_outlet]
  dsimp only
  generalize (s.takeOut r.tag).lotRemove r false = u at *
  obtain ⟨queued, overrun⟩ := offerOrDrop_queues u (.lost r.tag r.flags.missedAs.2) r.tag rfl
  obtain ⟨dropBeside, dropTrain⟩ := offerOrDrop_beside u (.lost r.tag r.flags.missedAs.2) r.tag
  have dropped : ∀ f, u.Records f → (u.offerOrDrop (.lost r.tag r.flags.missedAs.2) r.tag).Records f := fun f hf =>
    offerOrDrop_records hf _ _
  obtain ⟨-, dropPos, -⟩ := besideAdmission_fields dropBeside
  generalize u.offerOrDrop (.lost r.tag r.flags.missedAs.2) r.tag = v at *
  rw [hr, dropPos, hpos]
  rw [hpos] at overrun
  rw [hqueue] at queued
  refine ⟨?_, ?_, ?_, ?_, recordFault_records v _, fun f hf => records_recordFault (dropped f (out f hf)) _⟩
  · exact (recordFault_besideAdmission v _).trans (dropBeside.trans beside)
  · rw [recordFault_train, dropTrain, htrain]
    rfl
  · rw [recordFault_queue]
    exact queued
  · rw [recordFault_queue]
    exact overrun.imp id fun h => records_recordFault h _

/-- A record whose window is behind is missed at once (R88). -/
theorem takeIn_past (hrole : s.role = some .outlet) (htags : ∀ x ∈ s.train, x.tag ≠ r.tag)
    (hu : r.flags.lotUntracked = false) (hbasis : r.basis = .a) {k : Checkpoint} {e : EyeIx} {closing : Pos}
    (hwindow : s.windowOf r = some (k, e, closing)) (hpast : atOrPast (s.pos .a) closing = true) :
    ∃ u, (s.takeIn r).train = s.train ∧ MissedAt (s.added r) (s.admitted r u) e (s.takeIn r) := by
  obtain rfl := windowOf_outlet hrole hwindow
  obtain ⟨u, htrain⟩ := added_train htags hu
  obtain ⟨hrole', hpos, hwindows, -⟩ := added_fields s r
  have missed : (s.added r).missIfClosed r.tag = (s.added r).miss (s.admitted r u) .outlet e :=
    missIfClosed_past (added_found htags htrain) (by rw [hwindows, admitted_window]; exact hwindow)
      (by rw [hpos]; exact hbasis ▸ hpast)
  have at_ : MissedAt (s.added r) (s.admitted r u) e ((s.added r).miss (s.admitted r u) .outlet e) :=
    miss_missedAt (s.added r) (r := s.admitted r u) hbasis e
  have gone : ((s.added r).miss (s.admitted r u) .outlet e).train = s.train := by
    rw [at_.train, htrain]
    exact filter_insertRecord (y := s.admitted r u) htags
  have absent : ((s.added r).miss (s.admitted r u) .outlet e).findRecord r.tag = none := by
    unfold State.findRecord
    rw [gone]
    exact List.find?_eq_none.mpr fun x hx => by simpa using htags x hx
  obtain ⟨role, -⟩ := besideAdmission_fields at_.beside
  have taken : s.takeIn r = (s.added r).miss (s.admitted r u) .outlet e := by
    have chain : ((s.added r).missIfClosed r.tag).reckonIfPassed r.tag = (s.added r).miss (s.admitted r u) .outlet e := by
      rw [missed, reckonIfPassed_absent absent]
    rw [takeIn_outlet hrole r (by rw [chain, role, hrole', hrole]), chain]
  rw [taken]
  exact ⟨u, gone, at_⟩

end Sys2Proof.Machine
end

section
namespace Sys2Proof.Machine

/-! #### A HANDOFF accepted -/

variable {s : State} {sender : Addr} {f : HandoffFrame} {w : WatchEntry}

theorem attemptEnded_idle (h : s.attempting = false) : s.attemptEnded = s := by
  unfold State.attemptEnded
  split
  · rfl
  · rename_i q rest hq
    have idle : q.underWay = false := by
      have := List.any_eq_false.mp h q (by rw [hq]; exact List.mem_cons_self)
      simpa using this
    rw [idle]
    rfl

/-- The tracker once the sequence of an announcement in order has been checked (R133). -/
def State.inSequence (s : State) (w : WatchEntry) (q : Seq) : State :=
  State.updateWatch { s with busIdle := false } w.address fun x => x.checked q

/-- A HANDOFF in sequence from upstream that names lanes and a new tag is taken in where there is room (R53, R135). -/
theorem exec_handoff (hlive : s.live = true) (hrole : s.role = some .outlet) (hidle : s.attempting = false)
    (hown : s.address ≠ some sender) (hw : s.watchOf sender = some w) (hseq : w.expected = some f.seq) (hup : 0 < w.offset)
    (hlanes : f.lanes ≠ 0) (hnew : s.findRecord f.tag = none) (hroom : s.trainFull = false) :
    exec (.handoff sender f) s = .next (((s.inSequence w f.seq).takeIn
      ((s.inSequence w f.seq).announcedRecord w.offset f.offset (handoffRecord f))).refresh) := by
  have joined : ¬ s.mode = .config := fun h => by simp [State.live, h] at hlive
  have noClash : State.clash { s with busIdle := false } sender = false := by
    have : (s.address == some sender) = false := by simpa using hown
    exact (congrArg (State.serving s && ·) this).trans (Bool.and_false _)
  have serving : State.serving { s with busIdle := false } = true := by
    have : State.serving { s with busIdle := false } = (s.mode == .joining || s.live) := rfl
    rw [this, hlive, Bool.or_true]
  have missing : w.missing f.seq = 0 := by simp [WatchEntry.missing, hseq]
  have checked : State.sequenceCheck { s with busIdle := false } w f.seq f.tag = s.inSequence w f.seq := by
    unfold State.sequenceCheck
    rw [serving, missing]
    rfl
  have watched : State.watchOf { s with busIdle := false } sender = some w := hw
  have fresh : ((s.inSequence w f.seq).train.any fun x => x.tag == f.tag) = false := by
    have none := List.find?_eq_none.mp hnew
    exact List.any_eq_false.mpr none
  have room : (s.inSequence w f.seq).trainFull = false := hroom
  have tested : ∀ r, (s.inSequence w f.seq).testedAdmission w.offset f.tag f.lot f.lanes r =
      (s.inSequence w f.seq).takeIn r :=
    fun r => by
      unfold State.testedAdmission
      rw [if_neg hlanes, fresh, room, if_neg (by simp), if_neg (by simp), if_neg (by omega)]
  have takes : ((s.inSequence w f.seq).live && (s.inSequence w f.seq).role == some .outlet) = true := by
    have : ((s.inSequence w f.seq).live && (s.inSequence w f.seq).role == some .outlet) =
        (s.live && s.role == some .outlet) := rfl
    rw [this, hlive, hrole]
    rfl
  have taken : State.takeHandoff { s with busIdle := false } sender f = (s.inSequence w f.seq).takeIn
      ((s.inSequence w f.seq).announcedRecord w.offset f.offset (handoffRecord f)) := by
    unfold State.takeHandoff
    rw [watched]
    dsimp only
    rw [checked, if_pos takes, tested]
  have accepted : s.accept sender (.handoff f) = (State.takeHandoff { s with busIdle := false } sender f).refresh := by
    unfold State.accept
    dsimp only
    rw [attemptEnded_idle hidle, if_neg joined, noClash]
    rfl
  rw [← taken, ← accepted]
  rfl

/-- What follows an admission changes nothing that the admission is about. -/
theorem refresh_admission (s : State) : s.refresh.besideAdmission = s.besideAdmission ∧ s.refresh.train = s.train ∧
    s.refresh.waiting = s.waiting ∧ s.refresh.freshWindows = s.freshWindows ∧ s.refresh.faults = s.faults := by
  refine ⟨besideAdmission_of_besideRefresh (refresh_besideRefresh s), refresh_train s, ?_, ?_, refresh_faults s⟩ <;>
    rw [refresh_frame]

/-- The state beside an admission: one record more has been admitted, and the bus is not idle. -/
def State.afterAdmission (s : State) : State :=
  State.besideAdmission { s with admissions := s.admissions + 1, busIdle := false }

theorem inSequence_added (s : State) (w : WatchEntry) (q : Seq) (r : Record) :
    ((s.inSequence w q).added r).besideAdmission = s.afterAdmission :=
  (added_beside (s.inSequence w q) r).1

theorem inSequence_late {q : Seq} {r : Record} {t : State} (h : r.flags.lateAnnounce = true)
    (ht : ∀ y, ((s.inSequence w q).added r).Records y → t.Records y) : t.Records
      { kind := .lateAnnounce, position := s.pos .a, input := .a, tag := some r.tag, lot := some r.lot } :=
  ht _ (added_late h)

/-- What the admission of a record whose window is ahead leaves (R55, R82, R159). -/
theorem admission_ahead {q : Seq} {r : Record} (hrole : s.role = some .outlet) (htags : ∀ x ∈ s.train, x.tag ≠ r.tag)
    (hu : r.flags.lotUntracked = false) (hstage : r.stage = .pending) (hbasis : r.basis = .a)
    (hwindow : (s.windowOf r).all (fun x => !atOrPast (s.pos .a) x.2.2) = true)
    (hrev : s.crossed r = false ∨ s.travelA.reverse = true) {t : State} (ht : ((s.inSequence w q).takeIn r).refresh = t) :
    (∃ u, t.train = insertRecord
      (if s.crossed r then { s.admitted r u with stage := .entering, lead := some r.p } else s.admitted r u) s.train) ∧
      t.waiting = s.waiting ∧ t.freshWindows = s.freshWindows ∧ t.besideAdmission = s.afterAdmission ∧
      ∀ y, ((s.inSequence w q).added r).Records y → t.Records y := by
  obtain ⟨u, htrain, htaken⟩ := takeIn_ahead (s := s.inSequence w q) hrole htags hu hstage (hbasis ▸ hwindow) hrev
  have crossed : (s.inSequence w q).crossed r = s.crossed r := rfl
  obtain ⟨-, hwaiting, hfresh, -⟩ := added_beside (s.inSequence w q) r
  obtain ⟨beside, train, waiting, fresh, faults⟩ := refresh_admission ((s.inSequence w q).takeIn r)
  rw [ht] at beside train waiting fresh faults
  rw [htaken, crossed] at beside train waiting fresh faults
  have addedBeside := inSequence_added s w q r
  generalize (s.inSequence w q).added r = a at *
  have inserted : a.train = insertRecord (s.admitted r u) s.train := htrain
  have replaced : (a.replaceRecord { s.admitted r u with stage := .entering, lead := some r.p }).train =
      insertRecord { s.admitted r u with stage := .entering, lead := some r.p } s.train := by
    unfold State.replaceRecord
    dsimp only
    rw [inserted]
    exact congrArg (insertRecord _) (filter_insertRecord (y := s.admitted r u) htags)
  cases hc : s.crossed r with
  | true =>
    rw [hc, if_pos rfl] at beside train waiting fresh faults
    exact ⟨⟨u, train.trans replaced⟩, waiting.trans hwaiting, fresh.trans hfresh, beside.trans addedBeside,
      fun y hy => by unfold State.Records; rw [faults]; exact hy⟩
  | false =>
    rw [hc, if_neg (by simp)] at beside train waiting fresh faults
    exact ⟨⟨u, train.trans inserted⟩, waiting.trans hwaiting, fresh.trans hfresh, beside.trans addedBeside,
      fun y hy => by unfold State.Records; rw [faults]; exact hy⟩

/-- What the admission of a record whose window is behind leaves (R62, R88). -/
theorem admission_past {q : Seq} {r : Record} (hrole : s.role = some .outlet) (htags : ∀ x ∈ s.train, x.tag ≠ r.tag)
    (hu : r.flags.lotUntracked = false) (hbasis : r.basis = .a) {k : Checkpoint} {e : EyeIx} {closing : Pos}
    (hwindow : s.windowOf r = some (k, e, closing)) (hpast : atOrPast (s.pos .a) closing = true) {t : State}
    (ht : ((s.inSequence w q).takeIn r).refresh = t) :
    t.train = s.train ∧
      (s.queue.length < 16 → TxFrame.new (.lost r.tag r.flags.missedAs.2) 0 ∈ t.queue) ∧
      (TxFrame.new (.lost r.tag r.flags.missedAs.2) 0 ∈ t.queue ∨
        t.Records { kind := .txOverrun, position := s.pos .a, input := .a, tag := some r.tag }) ∧
      t.Records { kind := r.flags.missedAs.1, position := s.pos .a, input := .a, tag := some r.tag, lot := some r.lot
                  unit := some (.eye e) } ∧
      t.besideAdmission = s.afterAdmission ∧ ∀ y, ((s.inSequence w q).added r).Records y → t.Records y := by
  obtain ⟨u, gone, missed⟩ := takeIn_past (s := s.inSequence w q) hrole htags hu hbasis hwindow hpast
  obtain ⟨-, -, -, hqueue⟩ := added_beside (s.inSequence w q) r
  obtain ⟨-, hpos, -⟩ := added_fields (s.inSequence w q) r
  have here : ((s.inSequence w q).added r).pos .a = s.pos .a := congrFun hpos .a
  have addedBeside := inSequence_added s w q r
  obtain ⟨beside, train, -, -, faults⟩ := refresh_admission ((s.inSequence w q).takeIn r)
  have records : ∀ y, ((s.inSequence w q).takeIn r).Records y → t.Records y := fun y hy => by
    unfold State.Records
    rw [← ht, faults]
    exact hy
  have stays : TxFrame.new (.lost r.tag r.flags.missedAs.2) 0 ∈ ((s.inSequence w q).takeIn r).queue →
      TxFrame.new (.lost r.tag r.flags.missedAs.2) 0 ∈ t.queue := fun h => ht ▸ mem_refresh_queue (fun _ => rfl) h
  obtain ⟨missedBeside, -, queued, overrun, fault, kept⟩ := missed
  rw [here] at overrun fault
  rw [hqueue] at queued
  rw [ht] at beside train
  exact ⟨train.trans gone, fun h => stays (queued h), overrun.imp stays (records _), records _ fault,
    beside.trans (missedBeside.trans addedBeside), fun y hy => records y (kept y hy)⟩

end Sys2Proof.Machine
end

section
namespace Sys2Proof.Machine

variable {s : State} {f : HandoffFrame} {w : WatchEntry}

/-- The record of a HANDOFF as it is handed to admission (R55, R11 to R14). -/
def State.handedRecord (s : State) (f : HandoffFrame) (w : WatchEntry) : Record :=
  s.announcedRecord w.offset f.offset (handoffRecord f)

theorem handedRecord_inSequence :
    (s.inSequence w f.seq).announcedRecord w.offset f.offset (handoffRecord f) = s.handedRecord f w := rfl

/-- Its fields, as the frame and the watch entry give them. -/
theorem handedRecord_fields : (s.handedRecord f w).tag = f.tag ∧ (s.handedRecord f w).lot = f.lot ∧
    (s.handedRecord f w).stage = .pending ∧ (s.handedRecord f w).basis = .a ∧
    (s.handedRecord f w).flags = Flags.ofHandoff f.flags (saturated f.offset) := ⟨rfl, rfl, rfl, rfl, rfl⟩

theorem handedRecord_eq (hrole : s.role = some .outlet) : s.handedRecord f w =
    { handoffRecord f with
      p := Pos.plus (s.pos .a) (w.offset - f.offset.toInt)
      h := halfWidth s.baseWidth s.propWidth
        (diff (Pos.plus (Pos.plus (s.pos .a) (w.offset - f.offset.toInt)) (s.offsetAt .outlet (refLane f.lanes))) (s.pos .a))
        (f.flags.unverified || saturated f.offset) } := by
  have first : s.firstCheckpoint = .outlet := by
    unfold State.firstCheckpoint
    rw [hrole]
  unfold State.handedRecord State.announcedRecord
  rw [first]
  rfl

/-- Settles O34: the frame in sequence is taken in; its record is advanced where its crossing is behind, or missed. -/
theorem handoffIsAdmitted : Obligations.HandoffIsAdmitted := by
  unfold Obligations.HandoffIsAdmitted
  intro s sender f w hlive hrole hidle hown hw hseq hup hlanes hnew hroom now late p made fault unchanged
  have taken := exec_handoff hlive hrole hidle hown hw hseq hup hlanes hnew hroom
  rw [handedRecord_inSequence] at taken
  obtain ⟨htag, hlot, hstage, hbasis, hflags⟩ := handedRecord_fields (s := s) (f := f) (w := w)
  have hmade : ∀ u, s.admitted (s.handedRecord f w) u = { made with flags := { made.flags with lotUntracked := u } } :=
    fun u => by
      rw [handedRecord_eq hrole]
      rfl
  have hwindow : s.windowOf (s.handedRecord f w) = s.windowOf made := by
    rw [← admitted_window s _ false, hmade]
  have hcrossed : s.crossed (s.handedRecord f w) = (s.reckoningAt made).any fun x => atOrPast now x := by
    unfold State.crossed
    rw [← admitted_reckoning s _ false, hmade, hbasis]
  have htags : ∀ x ∈ s.train, x.tag ≠ (s.handedRecord f w).tag := fun x hx => by
    have : ¬ (x.tag == f.tag) = true := List.find?_eq_none.mp hnew x hx
    rw [htag]
    exact fun he => this (by simpa using he)
  have hu : (s.handedRecord f w).flags.lotUntracked = false := by rw [hflags]; rfl
  have hlate : (s.handedRecord f w).flags.lateAnnounce = late := by rw [hflags]; rfl
  have recorded : ∀ t : State, (∀ y, ((s.inSequence w f.seq).added (s.handedRecord f w)).Records y → t.Records y) →
      late = true → 8 ≤ t.faults.length ∨ fault .lateAnnounce ∈ t.faults := fun t kept h => by
    have fault := inSequence_late (hlate.trans h) kept
    rw [htag, hlot] at fault
    exact fault
  have framed : ∀ t : State, t.besideAdmission = s.afterAdmission → t = unchanged t := fun t h => besideAdmission_frame h
  generalize ht : ((s.inSequence w f.seq).takeIn (s.handedRecord f w)).refresh = t at taken
  refine ⟨?_, ?_⟩
  · intro hahead passed record hrev
    obtain ⟨⟨u, train⟩, waiting, fresh, beside, kept⟩ := admission_ahead hrole htags hu hstage hbasis
      (by rw [hwindow]; exact hahead) (by rw [hcrossed]; exact hrev) ht
    refine ⟨t, taken, ⟨u, ?_⟩, recorded t kept, ?_⟩
    · have crossed : s.crossed (s.handedRecord f w) = passed := hcrossed
      have chosen : record = if passed then { made with stage := .entering, lead := some p } else made := rfl
      have here : (s.handedRecord f w).p = p := rfl
      rw [train, crossed, hmade, chosen, here]
      clear_value passed
      cases passed <;> rfl
    · rw [← waiting, ← fresh]
      exact framed t beside
  · intro k e closing hclosing hpast cause
    obtain ⟨train, queued, overrun, missed, beside, kept⟩ := admission_past hrole htags hu hbasis
      (by rw [hwindow]; exact hclosing) hpast ht
    have as : (s.handedRecord f w).flags.missedAs = cause := by rw [hflags]; rfl
    rw [htag, as] at queued overrun missed
    rw [hlot] at missed
    exact ⟨t, taken, train, queued, overrun, missed, recorded t kept, framed t beside⟩

end Sys2Proof.Machine
end

section
namespace Sys2Proof.Machine

/-! ### O5: what follows an event leaves the pins and the reservations with the state (R35, R95, R198) -/

variable {s t : State} {g : GateIx}

/-- An output taken afresh is not changed by taking it afresh again. -/
theorem shown_shown (s : State) (x : Channel) : s.shown (s.shown x) = s.shown x := by
  have again : ∀ (x : Channel) (p : Pos) (running ended : Bool),
      (x.afresh p running ended).afresh p running ended = x.afresh p running ended := by
    intro x p running ended
    obtain h | ⟨rfl, rfl, ⟨q, hq, hin⟩, h⟩ | ⟨rfl, rfl, ⟨q, hq, hin⟩, h⟩ := afresh_cases x p running ended
    · unfold Channel.afresh at h ⊢
      split at h <;> split at h <;> simp_all
    · rw [h]
      simp [Channel.afresh, hq, pulseStarted, pulseDrives, hin]
    · rw [h]
      simp [Channel.afresh, hq, pulseStarted, pulseDrives, hin]
  have ended : s.ended (s.shown x) = s.ended x := by
    unfold State.shown
    obtain h | ⟨-, -, -, h⟩ | ⟨-, -, -, h⟩ := afresh_cases x (s.pos x.input) (s.mode == .running) (s.ended x) <;> rw [h]
    · rfl
    · rfl
    · simp only [State.ended, pulseStarted]
      cases x.active <;> rfl
  have same : s.shown (s.shown x) = (s.shown x).afresh (s.pos x.input) (s.mode == .running) (s.ended x) := by
    rw [State.shown, shown_input, ended]
  rw [same]
  exact again ..

/-- A withdrawal suspends a gate that was not suspended only by filling the queue (R95, R182). -/
theorem suspended_withdrawSuspended (h : s.withdrawSuspended.suspended g = true) :
    s.suspended g = true ∨ Config.feedCapacity ≤ s.withdrawSuspended.feedCount := by
  have gate := withdrawSuspended_pendingApart s g
  have frame := besideWithdrawals_frame (withdrawSuspended_besideWithdrawals s)
  generalize s.withdrawSuspended = u at *
  have hheld : u.held = s.held := by rw [frame]; rfl
  have hmode : u.mode = s.mode := by rw [frame]
  have hfull : u.trainFull = s.trainFull := by rw [frame]; rfl
  have htravel : u.travelA = s.travelA := by rw [frame]
  have hhold : (u.gate g).hold = (s.gate g).hold := by rw [gate]
  have hblock : (u.gate g).block = (s.gate g).block := by rw [gate]
  have hlock : (u.gate g).lock = (s.gate g).lock := by rw [gate]
  simp only [State.suspended, hheld, hmode, hfull, htravel, hhold, hblock, hlock, Bool.or_eq_true,
    decide_eq_true_eq] at h ⊢
  tauto

/-- A gate suspended at the withdrawal holds no reservation afterwards. -/
theorem withdrawSuspended_ownReservation (h : s.suspended g = true) : s.withdrawSuspended.ownReservation g = none := by
  have withdrawn : g ∈ gateIxs.filter s.suspended := List.mem_filter.mpr ⟨gateIxs_all g, h⟩
  rw [State.ownReservation, State.withdrawSuspended, foldl_withdrawEntry_reservations, List.find?_eq_none]
  intro x hx hown
  simp only [Reservation.isOwn, Bool.and_eq_true, beq_iff_eq] at hown
  have := (List.mem_filter.mp hx).2
  rw [hown.1, hown.2, List.contains_iff_mem.mpr withdrawn] at this
  cases this

/-- After two passes no suspended gate holds a reservation: where the first fills the queue the second finds every gate
suspended, and elsewhere it finds nothing to withdraw. -/
theorem withdrawSuspended_twice (h : s.withdrawSuspended.withdrawSuspended.suspended g = true) :
    s.withdrawSuspended.withdrawSuspended.ownReservation g = none := by
  have first : ∀ k, s.suspended k = true → s.withdrawSuspended.ownReservation k = none :=
    fun k => withdrawSuspended_ownReservation
  have filled : ∀ k, s.withdrawSuspended.suspended k = true →
      s.suspended k = true ∨ Config.feedCapacity ≤ s.withdrawSuspended.feedCount :=
    fun k => suspended_withdrawSuspended
  generalize s.withdrawSuspended = u at *
  by_cases hu : Config.feedCapacity ≤ u.feedCount
  · exact withdrawSuspended_ownReservation (by simp [State.suspended, hu])
  · have still : u.withdrawSuspended = u :=
      withdrawSuspended_none u fun k hk => first k ((filled k hk).resolve_right hu)
    rw [still] at h ⊢
    exact first g ((filled g h).resolve_right hu)

/-- With outputs shown and suspended gates unreserved, ALERT alone is left to follow. -/
theorem alertAfresh_pinsFollow (hshown : ∀ c, s.channel c = s.shown (s.channel c))
    (hres : ∀ g, s.suspended g = true → s.ownReservation g = none) : s.alertAfresh.PinsFollow :=
  ⟨hshown, rfl, hres⟩

/-- Taking the outputs afresh suspends no gate and touches no reservation. -/
theorem outputsAfresh_reservations (s : State) :
    s.outputsAfresh.suspensionView = s.suspensionView ∧ s.outputsAfresh.ownReservation = s.ownReservation := by
  rw [outputsAfresh_eq]
  exact ⟨rfl, rfl⟩

theorem outputsAfresh_shown_eq (s : State) : s.outputsAfresh.shown = s.shown := by
  rw [outputsAfresh_eq]
  exact funext (shown_congr (fun i => by cases i <;> rfl) rfl rfl)

/-- What follows every event makes the pins and the reservations follow, whatever the event has done. -/
theorem refresh_pinsFollow (s : State) : s.refresh.PinsFollow := by
  unfold State.refresh
  refine alertAfresh_pinsFollow (fun c => ?_) fun g hg => ?_
  · rw [outputsAfresh_shown_eq, outputsAfresh_channel, shown_shown]
  · obtain ⟨view, own⟩ := outputsAfresh_reservations s.withdrawSuspended.withdrawSuspended
    rw [suspended_congr view] at hg
    rw [own]
    exact withdrawSuspended_twice hg

end Sys2Proof.Machine
end

section
namespace Sys2Proof.Machine

variable {s t : State} {g : GateIx}

/-! ### O5: the changes that nothing follows up -/

/-- The causes a tracker holds for are read off its eyes and its alarms (R126). -/
theorem causes_congr (h : t.suspensionRest = s.suspensionRest) (he : ∀ e, (t.eye e).SameCauses (s.eye e)) :
    t.causes = s.causes := by
  obtain ⟨-, -, -, hline, hwrap, htrain, -⟩ := suspensionRest_fields h
  have hjam : t.jamCause = s.jamCause := congrArg eyeIxs.any (funext fun e => (he e).2.2)
  have hlevel : t.levelCause = s.levelCause := by
    refine congrArg eyeIxs.any (funext fun e => ?_)
    obtain ⟨hset, haccepted, -⟩ := he e
    rw [hset]
    by_cases hf : (s.eye e).set.function = .levelHold
    · rw [haccepted hf]
    · rw [beq_false_of_ne hf, Bool.and_false, Bool.false_and, Bool.false_and]
  simp only [State.causes, hjam, hlevel, hline, hwrap, htrain]

namespace State.PinsFollow

/-- A change of a gate beside its state and the flags that suspend it moves no pin. -/
theorem setGate (h : s.PinsFollow) {x : Gate} (hset : x.set = (s.gate g).set) (hstate : x.state = (s.gate g).state)
    (hflags : x.SameFlags (s.gate g)) : (s.setGate g x).PinsFollow := by
  obtain ⟨hshown, halert, hres⟩ := h
  have gates : ∀ k, ((s.setGate g x).gate k).set = (s.gate k).set ∧ ((s.setGate g x).gate k).state = (s.gate k).state ∧
      ((s.setGate g x).gate k).SameFlags (s.gate k) := by
    intro k
    by_cases hk : k = g
    · subst hk
      rw [setGate_gate]
      exact ⟨hset, hstate, hflags⟩
    · rw [setGate_gate_ne _ _ hk]
      exact ⟨rfl, rfl, rfl, rfl, rfl⟩
  have empty : (s.setGate g x).gateEmpty = s.gateEmpty :=
    congrArg gateIxs.any (funext fun k => by rw [(gates k).1, (gates k).2.1])
  have same : (s.setGate g x).conditions = s.conditions := by
    unfold State.conditions
    rw [empty]
    rfl
  refine ⟨hshown, halert.trans (by rw [same]; rfl), fun k hk => ?_⟩
  have rest : (s.setGate g x).besideGates = s.besideGates := rfl
  rw [suspended_of_flags rest (gates k).2.2] at hk
  exact hres k hk

/-- A change of an eye beside its settings, its jam and its level moves no pin. -/
theorem setEye (h : s.PinsFollow) {e : EyeIx} {x : Eye} (hx : x.SameCauses (s.eye e)) : (s.setEye e x).PinsFollow := by
  obtain ⟨hshown, halert, hres⟩ := h
  have eyes : ∀ k, ((s.setEye e x).eye k).SameCauses (s.eye k) := by
    intro k
    by_cases hk : k = e
    · subst hk
      rw [setEye_eye]
      exact hx
    · rw [setEye_eye_ne _ _ hk]
      exact ⟨rfl, fun _ => rfl, rfl⟩
  have rest : (s.setEye e x).suspensionRest = s.suspensionRest := rfl
  have same : (s.setEye e x).conditions = s.conditions := by
    unfold State.conditions State.anyCause
    rw [causes_congr rest eyes, held_congr rest eyes]
    rfl
  refine ⟨hshown, halert.trans (by rw [same]; rfl), fun k hk => ?_⟩
  exact hres k (suspended_mono rest eyes ⟨rfl, rfl, rfl⟩ id hk)

/-- A queue of no more feed-class frames suspends no gate. -/
theorem withQueue (h : s.PinsFollow) {q : List TxFrame}
    (hq : (q.countP fun x => feedClass x.frame) ≤ s.feedCount) : { s with queue := q }.PinsFollow := by
  obtain ⟨hshown, halert, hres⟩ := h
  refine ⟨hshown, halert, fun k hk => hres k ?_⟩
  simp only [State.suspended, Bool.or_eq_true, decide_eq_true_eq] at hk ⊢
  exact hk.imp (fun hk => hk.imp id fun hk => hk.trans hq) id

/-- A frame gone from the queue, or its attempt ended, suspends no gate. -/
theorem attemptEnded (h : s.PinsFollow) : s.attemptEnded.PinsFollow := by
  unfold State.attemptEnded
  split
  · exact h
  · rename_i q rest hq
    have fewer : (rest.countP fun x => feedClass x.frame) ≤ s.feedCount := by
      rw [State.feedCount, hq, List.countP_cons]
      exact Nat.le_add_right ..
    split
    · exact h
    · split
      · split
        · exact h.withQueue fewer
        · exact h.withQueue fewer
      · split
        · exact h.withQueue fewer
        · refine h.withQueue ?_
          rw [State.feedCount, hq, List.countP_cons, List.countP_cons]

/-- Filling the fields of an attempt leaves the class of its frame. -/
theorem startAttempt (h : s.PinsFollow) : s.startAttempt.PinsFollow := by
  unfold State.startAttempt
  split
  · exact h
  · rename_i q rest hq
    refine h.withQueue (q := _ :: rest) ?_
    rw [State.feedCount, hq, List.countP_cons, List.countP_cons, filledFrame_feedClass]

/-- A response moves no pin. -/
theorem respond (h : s.PinsFollow) (r : Result) (d : List MaskedByte) : (s.respond r d).PinsFollow := h

/-- Where a command acts, the follow-up makes the pins follow; elsewhere they followed before. -/
theorem refreshed (h : s.PinsFollow) (c : Prop) [Decidable c] (u : State) : (if c then u.refresh else s).PinsFollow := by
  split
  · exact refresh_pinsFollow u
  · exact h

theorem onReservationVoid (h : s.PinsFollow) (g : GateIx) : (s.onReservationVoid g).PinsFollow := h.refreshed ..

theorem onTxAttemptStart (h : s.PinsFollow) : s.onTxAttemptStart.PinsFollow := by
  unfold State.onTxAttemptStart
  split
  · exact startAttempt (List.foldlRecOn _ _ h fun _ ht g _ => ht.onReservationVoid g)
  · exact h

theorem onSpacerBegun (h : s.PinsFollow) (g : GateIx) : (s.onSpacerBegun g).PinsFollow := by
  unfold State.onSpacerBegun
  split
  · exact h.setGate rfl rfl ⟨rfl, rfl, rfl⟩
  · exact h

theorem onPatienceReached (h : s.PinsFollow) (g : GateIx) : (s.onPatienceReached g).PinsFollow := by
  unfold State.onPatienceReached
  split
  · exact h.setGate rfl rfl ⟨rfl, rfl, rfl⟩
  · exact h

theorem noteUndone (h : s.PinsFollow) (g : GateIx) : (s.noteUndone g).PinsFollow := by
  rw [noteUndone_eq]
  exact h

theorem onReservationSent (h : s.PinsFollow) (g : GateIx) : (s.onReservationSent g).PinsFollow := by
  unfold State.onReservationSent
  split
  · exact noteUndone (refresh_pinsFollow _) g
  · exact h

/-- The pin of an eye that does not run is not sampled, and shows nowhere. -/
theorem onEyeRawChange (h : s.PinsFollow) (e : EyeIx) (high : Bool) : (s.onEyeRawChange e high).PinsFollow := by
  have set : ((s.acceptIfDue e).eye e).set = (s.eye e).set := by
    obtain ⟨hset, -⟩ := installed_iff.mp ((installed_kept s.installed).acceptIfDue rfl e)
    exact congrFun (congrArg Settings.eye hset) e
  have runs : State.eyeRuns ((s.acceptIfDue e).setEye e { (s.acceptIfDue e).eye e with pinHigh := high }) e =
      s.eyeRuns e := by
    unfold State.eyeRuns State.joined
    rw [setEye_eye, mode_of_outside ((setEye_outside _ e _).trans (acceptIfDue_outside s e)), set]
  unfold State.onEyeRawChange
  dsimp only
  rw [runs]
  split
  · exact refresh_pinsFollow _
  · rename_i stopped
    have still : s.acceptIfDue e = s := by
      unfold State.acceptIfDue
      rw [Bool.eq_false_of_not_eq_true stopped]
      split <;> rfl
    rw [still]
    exact h.setEye ⟨rfl, fun _ => rfl, rfl⟩

theorem accept (h : s.PinsFollow) (a : Addr) (f : Frame) : (s.accept a f).PinsFollow := by
  unfold State.accept
  dsimp only
  split
  · exact h.attemptEnded
  · split <;> exact refresh_pinsFollow _

theorem discardedFrame (h : s.PinsFollow) {bits : List Bool} (ht : execDiscardedFrame bits s = .next t) :
    t.PinsFollow := by
  unfold execDiscardedFrame at ht
  split at ht
  · obtain rfl := Host.Outcome.next.inj ht
    exact h.attemptEnded
  · obtain rfl := Host.Outcome.next.inj ht
    exact h.accept ..

theorem dueEvent (h : s.PinsFollow) (k : TravelEvent) (tag : Tag) :
    (match s.dueRecord k tag with
      | some r => (s.takeEvent r k).refresh
      | none => s).PinsFollow := by
  split
  · exact refresh_pinsFollow _
  · exact h

theorem onReservationExpiry (h : s.PinsFollow) (a : Addr) (g : GateIx) : (s.onReservationExpiry a g).PinsFollow := by
  unfold State.onReservationExpiry
  split
  · exact refresh_pinsFollow _
  · exact h

theorem onTxComplete (h : s.PinsFollow) : s.onTxComplete.PinsFollow := by
  unfold State.onTxComplete
  split
  · exact h
  · split
    · exact h
    · dsimp only
      split <;> exact refresh_pinsFollow _

theorem onBusIdle (h : s.PinsFollow) : s.onBusIdle.PinsFollow := by
  unfold State.onBusIdle
  split
  · exact h
  · exact h

/-! The control unit -/

theorem onStopAsserted (h : s.PinsFollow) : s.onStopAsserted.PinsFollow := by
  unfold State.onStopAsserted
  dsimp only
  split
  · exact refresh_pinsFollow _
  · exact h

theorem onStopReleased (h : s.PinsFollow) : s.onStopReleased.PinsFollow := by
  unfold State.onStopReleased
  dsimp only
  split
  · exact refresh_pinsFollow _
  · exact h

theorem onSettleTimer (h : s.PinsFollow) : s.onSettleTimer.PinsFollow := by
  unfold State.onSettleTimer
  split
  · split
    · exact h
    · exact refresh_pinsFollow _
  · exact h

end State.PinsFollow
end Sys2Proof.Machine
end

section
namespace Sys2Proof.Machine

variable {s t : State} {g : GateIx}

namespace State.PinsFollow

/-! ### O5: the port -/

/-- An answer after what follows every event. -/
theorem answered (u : State) (r : Result) (d : List MaskedByte := []) : (u.refresh.respond r d).PinsFollow :=
  respond (refresh_pinsFollow u) r d

theorem transactionCut (h : s.PinsFollow) (x : Cut) : (s.onTransactionCut x).PinsFollow := by
  cases x with
  | command => exact h
  | response => exact h

theorem unknownCommand (h : s.PinsFollow) (b : Byte) : (s.onUnknownCommand b).PinsFollow := by
  unfold State.onUnknownCommand
  split
  · exact h.respond ..
  · exact h

theorem descriptorWrite (h : s.PinsFollow) (i : ItemId) (v : BitVec 32) : (s.onDescriptorWrite i v).PinsFollow := by
  have stored : ∀ x : Store, { s with store := x }.PinsFollow := fun _ => h
  unfold State.onDescriptorWrite
  split
  · exact h.respond ..
  · split
    · exact h.respond ..
    · exact (stored _).respond ..

theorem descriptorRead (h : s.PinsFollow) (i : ItemId) : (s.onDescriptorRead i).PinsFollow := by
  unfold State.onDescriptorRead
  split <;> exact h.respond ..

theorem gateCommand (h : s.PinsFollow) (b : Byte) {take : GateIx → State} (ht : ∀ g, (take g).PinsFollow) :
    (s.gateCommand b take).PinsFollow := by
  unfold State.gateCommand
  split
  · exact h.respond ..
  · split
    · exact h.respond ..
    · exact ht _

theorem loadGate (h : s.PinsFollow) (k : Byte) (g : GateIx) : (s.loadGate k g).PinsFollow := by
  unfold State.loadGate
  split
  · exact h.respond ..
  · split
    · exact answered ..
    · exact h.respond ..

theorem unloadGate (h : s.PinsFollow) (g : GateIx) : (s.unloadGate g).PinsFollow := by
  unfold State.unloadGate
  split
  · exact answered ..
  · exact h.respond ..

/-- A lot change left pending waits for the end of the release, and shows nowhere until then. -/
theorem changeLot (h : s.PinsFollow) (x : Lot) (g : GateIx) : (s.changeLot x g).PinsFollow := by
  unfold State.changeLot
  dsimp only
  split
  · exact h.respond ..
  · split
    · exact h.respond ..
    · split
      · split
        · exact h.respond ..
        · exact answered ..
      · exact h.respond ..
      · exact (h.setGate (x := { s.gate g with lotPending := some x }) rfl rfl ⟨rfl, rfl, rfl⟩).respond ..

theorem rejectNextExit (h : s.PinsFollow) : s.rejectNextExit.PinsFollow := by
  have set : { s with exitRejectNext := true }.PinsFollow := h
  unfold State.rejectNextExit
  split
  · exact h.respond ..
  · split
    · exact set.respond ..
    · exact h.respond ..

theorem rejectTag (h : s.PinsFollow) (tag : Tag) : (s.onRejectTag tag).PinsFollow := by
  unfold State.onRejectTag
  split
  · exact h.respond ..
  · exact answered ..

theorem readTrain (h : s.PinsFollow) (b : Byte) : (s.onReadTrain b).PinsFollow := by
  unfold State.onReadTrain
  split
  · exact h.respond ..
  · split <;> exact h.respond ..

theorem readRecord (h : s.PinsFollow) (tag : Tag) : (s.onReadRecord tag).PinsFollow := by
  unfold State.onReadRecord
  split <;> exact h.respond ..

theorem readLot (h : s.PinsFollow) (b : Byte) : (s.onReadLot b).PinsFollow := by
  unfold State.onReadLot
  split
  · dsimp only
    split <;> exact h.respond ..
  · exact h.respond ..

theorem readLotNotice (h : s.PinsFollow) : s.onReadLotNotice.PinsFollow := by
  unfold State.onReadLotNotice
  split
  · exact h.respond ..
  · split
    · exact h.respond ..
    · exact (refresh_pinsFollow _).respond ..

theorem readFault (h : s.PinsFollow) : s.onReadFault.PinsFollow := by
  unfold State.onReadFault
  split
  · exact (refresh_pinsFollow _).respond ..
  · exact h.respond ..

/-! ### O5: travel, power-on, JOIN and LEAVE -/

/-- The reference state of an input shows nowhere. -/
theorem reference (h : s.PinsFollow) (i : TravelInput) (r : Option (Bool × Bool)) :
    (s.setTravel i { s.travel i with reference := r }).PinsFollow := by
  obtain ⟨hshown, halert, hres⟩ := h
  have pos : ∀ j, (s.setTravel i { s.travel i with reference := r }).pos j = s.pos j := fun j => by
    cases i <;> cases j <;> rfl
  have same : (s.setTravel i { s.travel i with reference := r }).shown = s.shown :=
    funext (shown_congr pos (setTravel_mode ..) (setTravel_lastStep ..))
  refine ⟨fun c => by rw [same]; cases i <;> exact hshown c, ?_, ?_⟩
  · cases i <;> exact halert
  · cases i <;> exact hres

theorem onTravelSample (h : s.PinsFollow) (i : TravelInput) (x : Bool × Bool) : (s.onTravelSample i x).PinsFollow := by
  unfold State.onTravelSample
  dsimp only
  split
  · exact h
  · split
    · exact h.reference i _
    · split
      · exact h
      · exact refresh_pinsFollow _
      · exact refresh_pinsFollow _

theorem onIllegalTransition (h : s.PinsFollow) (i : TravelInput) : (s.onIllegalTransition i).PinsFollow := by
  unfold State.onIllegalTransition
  split
  · split
    · exact h
    · exact refresh_pinsFollow _
  · exact h

/-- At power-on the outputs and ALERT are low, no condition is unmasked and the reservation list is empty. -/
theorem powerOn (s : State) : s.powerOn.PinsFollow := by
  refine ⟨fun c => ?_, ?_, fun g _ => rfl⟩
  · have empty : s.powerOn.channel c = Channel.reset := by simp [State.channel, State.powerOn, State.reset]
    rw [empty]
    rfl
  · have mask : s.powerOn.alertMask = 0 := rfl
    have none : s.powerOn.conditions &&& 0 = 0 := BitVec.and_zero
    rw [mask, none]
    rfl

theorem onJoin (h : s.PinsFollow) : s.onJoin.PinsFollow := by
  unfold State.onJoin
  split
  · exact h.respond ..
  · split
    · exact h.respond ..
    · exact answered ..

theorem onLeave (h : s.PinsFollow) : s.onLeave.PinsFollow := by
  unfold State.onLeave
  split
  · exact h.respond ..
  · exact answered ..

end State.PinsFollow

/-! ### O5: one command -/

theorem exec_pinsFollow {c : Instr} (h : s.PinsFollow) (ht : exec c s = .next t) : t.PinsFollow := by
  cases c with
  | powerOn => exact next_kept ht (State.PinsFollow.powerOn s)
  | join => exact next_kept ht h.onJoin
  | leave => exact next_kept ht h.onLeave
  | descriptorWrite i v => exact next_kept ht (h.descriptorWrite i v)
  | travelStep i x y => exact next_kept ht (h.onTravelSample i (x, y))
  | illegalTransition i => exact next_kept ht (h.onIllegalTransition i)
  | eyeRawChange e b => exact next_kept ht (h.onEyeRawChange e b)
  | edgeAccepted e => exact next_kept ht (h.refreshed _ (s.acceptIfDue e))
  | jam e => exact next_kept ht (h.refreshed ((s.eyeRuns e && (s.eye e).jamDue) = true) _)
  | pulseRetired c => exact next_kept ht (h.refreshed _ (s.retirePulses c))
  | windowClosure tag => exact next_kept ht (h.dueEvent .closure tag)
  | deadReckoning tag => exact next_kept ht (h.dueEvent .reckoning tag)
  | cleared tag => exact next_kept ht (h.dueEvent .clearance tag)
  | departed tag => exact next_kept ht (h.dueEvent .departure tag)
  | release a f => exact next_kept ht (h.accept a (.release f))
  | handoff a f => exact next_kept ht (h.accept a (.handoff f))
  | lost a tag x => exact next_kept ht (h.accept a (.lost tag x))
  | mark a tag m => exact next_kept ht (h.accept a (.mark tag m))
  | hold a on x => exact next_kept ht (h.accept a (.hold on x))
  | reserve a f => exact next_kept ht (h.accept a (.reserve f))
  | withdraw a g => exact next_kept ht (h.accept a (.withdraw g))
  | lotmark a f => exact next_kept ht (h.accept a (.lotmark f))
  | joinFrame a x y => exact next_kept ht (h.accept a (.join x y))
  | discardedFrame bits => exact h.discardedFrame ht
  | busIdle => exact next_kept ht h.onBusIdle
  | txAttemptStart => exact next_kept ht h.onTxAttemptStart
  | arbitrationLost => exact next_kept ht (h.refreshed _ { s.attemptEnded with busIdle := false })
  | busError => exact next_kept ht (h.refreshed _ { s.failAttempt with busIdle := false })
  | txComplete => exact next_kept ht h.onTxComplete
  | lotmarkQueued g => exact next_kept ht (h.refreshed _ (s.queueMark g))
  | withdrawQueued g => exact next_kept ht (h.refreshed (s.withdrawDue g = true) _)
  | holdQueued => exact next_kept ht (h.refreshed _ s.queueHold)
  | gateCommit g => exact next_kept ht (h.refreshed _ (s.commitItem g))
  | spacerCommit g => exact next_kept ht (h.refreshed _ (s.commitSpacer g))
  | spacerBegun g => exact next_kept ht (h.onSpacerBegun g)
  | releaseEnd g => exact next_kept ht (h.refreshed _ (s.endRelease g))
  | patienceReached g => exact next_kept ht (h.onPatienceReached g)
  | reservationSent g => exact next_kept ht (h.onReservationSent g)
  | reservationVoid g => exact next_kept ht (h.onReservationVoid g)
  | reservationWithdrawn g => exact next_kept ht (h.refreshed _ (s.withdraw g))
  | reservationExpiry a g => exact next_kept ht (h.onReservationExpiry a g)
  | stopAsserted => exact next_kept ht h.onStopAsserted
  | stopReleased => exact next_kept ht h.onStopReleased
  | settleTimerExpiry => exact next_kept ht h.onSettleTimer
  | transactionCut x => exact next_kept ht (h.transactionCut x)
  | unknownCommand b => exact next_kept ht (h.unknownCommand b)
  | descriptorRead i => exact next_kept ht (h.descriptorRead i)
  | load b k => exact next_kept ht (h.gateCommand b (h.loadGate k))
  | unload b => exact next_kept ht (h.gateCommand b h.unloadGate)
  | holdSet b => exact next_kept ht (h.gateCommand b fun _ => State.PinsFollow.answered ..)
  | holdClear b => exact next_kept ht (h.gateCommand b fun _ => State.PinsFollow.answered ..)
  | blockSet b => exact next_kept ht (h.gateCommand b fun _ => State.PinsFollow.answered ..)
  | blockClear b => exact next_kept ht (h.gateCommand b fun _ => State.PinsFollow.answered ..)
  | lotChange b x => exact next_kept ht (h.gateCommand b (h.changeLot x))
  | gapRequest b =>
    exact next_kept ht (h.gateCommand b fun g =>
      (h.setGate (x := { s.gate g with gapRequest := true }) rfl rfl ⟨rfl, rfl, rfl⟩).respond ..)
  | rejectNext b =>
    refine next_kept ht ?_
    split
    · exact h.rejectNextExit
    · exact h.gateCommand b fun g =>
        (h.setGate (x := { s.gate g with rejectNext := true }) rfl rfl ⟨rfl, rfl, rfl⟩).respond ..
  | rejectTag tag => exact next_kept ht (h.rejectTag tag)
  | lineHoldSet => exact next_kept ht (State.PinsFollow.answered ..)
  | lineHoldClear => exact next_kept ht (State.PinsFollow.answered ..)
  | wrapAck => exact next_kept ht (State.PinsFollow.answered ..)
  | setAlertMask m => exact next_kept ht (State.PinsFollow.answered ..)
  | readStatus => exact next_kept ht (h.respond ..)
  | readTrain b => exact next_kept ht (h.readTrain b)
  | readRecord tag => exact next_kept ht (h.readRecord tag)
  | readFault => exact next_kept ht h.readFault
  | clearFaults => exact next_kept ht (State.PinsFollow.answered ..)
  | readLot b => exact next_kept ht (h.readLot b)
  | readLotNotice => exact next_kept ht h.readLotNotice
  | readTravel => exact next_kept ht (h.respond ..)

/-- Settles O5: a command is followed up by `refresh`, or changes nothing that pins and reservations follow. -/
theorem pinsFollowEveryStep : Obligations.PinsFollowEveryStep := by
  unfold Obligations.PinsFollowEveryStep
  intro s t h ht
  obtain ⟨-, rfl⟩ | ⟨c, rest, -, hc⟩ := step_cases ht
  · exact h
  · have waiting : { s with pending := rest }.PinsFollow := h
    exact exec_pinsFollow waiting hc

end Sys2Proof.Machine
end

section
namespace Sys2Proof.Machine

/-! ### O8: what a channel's operations keep (R34, R40) -/

theorem keepRefs_length (l : List Tag) : (keepRefs l).length ≤ Config.refCapacity := by
  rw [keepRefs, List.length_drop]
  omega

theorem refList_length (ref : Option Tag) : (refList ref).length ≤ Config.refCapacity := by
  cases ref <;> simp [refList, Config.refCapacity]

/-- A pulse keeps at most four references (R40). -/
abbrev Pulse.Sound (q : Pulse) : Prop := q.refs.length ≤ Config.refCapacity

theorem fresh_sound (s e : Pos) (ref : Option Tag) : (Pulse.fresh s e ref).Sound := refList_length ref

theorem absorb_sound (q : Pulse) (s e : Pos) (ref : Option Tag) : (q.absorb s e ref).Sound := keepRefs_length _

theorem joinNext_sound (q n : Pulse) (ref : Option Tag) : (q.joinNext n ref).Sound := keepRefs_length _

/-- A sound channel is empty, or holds a sound ACTIVE pulse and perhaps a sound NEXT one behind it. -/
theorem channel_sound_iff (c : Channel) :
    c.Sound ↔ (c.active = none → c.next = none) ∧ (∀ q, c.active = some q → q.Sound) ∧ ∀ q, c.next = some q → q.Sound := by
  simp only [Channel.Sound, List.mem_append, Option.mem_toList, or_imp, forall_and]

section
variable {c : Channel} {q : Pulse}

/-- A pulse set in ACTIVE, with what stands behind it. -/
theorem sound_active (hq : q.Sound) {n : Option Pulse} (hn : ∀ y, n = some y → y.Sound) :
    { c with active := some q, next := n }.Sound :=
  (channel_sound_iff _).mpr ⟨nofun, fun _ hy => Option.some.inj hy ▸ hq, hn⟩

/-- A pulse set in NEXT behind an ACTIVE one. -/
theorem sound_next (h : c.Sound) (ha : c.active ≠ none) (hq : q.Sound) : { c with next := some q }.Sound := by
  obtain ⟨-, hactive, -⟩ := (channel_sound_iff c).mp h
  exact (channel_sound_iff _).mpr ⟨fun hnone => absurd hnone ha, hactive, fun _ hy => Option.some.inj hy ▸ hq⟩

/-- NEXT dropped. -/
theorem sound_dropNext (h : c.Sound) : { c with next := none }.Sound := by
  obtain ⟨-, hactive, -⟩ := (channel_sound_iff c).mp h
  exact (channel_sound_iff _).mpr ⟨fun _ => rfl, hactive, nofun⟩

/-- NEXT in the place of ACTIVE (R42, R43). -/
theorem sound_promote (h : c.Sound) : { c with active := c.next, next := none }.Sound := by
  obtain ⟨-, -, hnext⟩ := (channel_sound_iff c).mp h
  exact (channel_sound_iff _).mpr ⟨fun _ => rfl, hnext, nofun⟩

theorem next_sound (h : c.Sound) : ∀ y, c.next = some y → y.Sound := ((channel_sound_iff c).mp h).2.2

theorem active_sound (h : c.Sound) : ∀ y, c.active = some y → y.Sound := ((channel_sound_iff c).mp h).2.1

theorem placeNext_sound (h : c.Sound) (ha : c.active ≠ none) (late : Bool) (s e : Pos) (ref : Option Tag) :
    (c.placeNext late s e ref).1.Sound := by
  unfold Channel.placeNext
  split
  · exact sound_next h ha (fresh_sound ..)
  · exact h

theorem placeTouching_sound (h : c.Sound) (ha : c.active = some q) (late : Bool) (s e : Pos) (ref : Option Tag) :
    (c.placeTouching q late s e ref).1.Sound := by
  unfold Channel.placeTouching
  split
  · dsimp only
    split
    · split
      · exact sound_active (joinNext_sound ..) nofun
      · exact sound_active (absorb_sound ..) (next_sound h)
    · exact sound_active (absorb_sound ..) (next_sound h)
  · exact placeNext_sound h (by simp [ha]) ..

theorem placeAfter_sound (h : c.Sound) (ha : c.active ≠ none) (late : Bool) (s e : Pos) (ref : Option Tag) :
    (c.placeAfter late s e ref).1.Sound := by
  unfold Channel.placeAfter
  split
  · split
    · exact sound_next h ha (absorb_sound ..)
    · exact h
  · exact placeNext_sound h ha ..

theorem place_sound (h : c.Sound) (late : Bool) (s e : Pos) (ref : Option Tag) : (c.place late s e ref).1.Sound := by
  unfold Channel.place
  split
  · exact sound_active (fresh_sound ..) (next_sound h)
  · rename_i a ha
    split
    · exact placeTouching_sound h ha ..
    · split
      · split
        · exact sound_active (fresh_sound ..) fun y hy => active_sound h y (ha.trans hy)
        · exact h
      · exact placeAfter_sound h (by simp [ha]) ..

theorem request_sound (h : c.Sound) (t s e : Pos) (ref : Option Tag) : (c.request t s e ref).1.Sound := by
  unfold Channel.request
  split
  · exact h
  · split
    · exact h
    · split <;> exact place_sound h ..

theorem extend_sound (h : c.Sound) (tag : Tag) (y : Pos) : (c.extend tag y).1.Sound := by
  unfold Channel.extend
  split
  · exact h
  · rename_i a ha
    have wide : ∀ z, { c with active := some { a with stop := z } }.Sound :=
      fun z => sound_active (q := { a with stop := z }) (active_sound h a ha) (next_sound h)
    split
    · split
      · exact h
      · split
        · exact wide y
        · split
          · split
            · exact sound_active (joinNext_sound ..) nofun
            · exact wide y
          · split
            · exact wide _
            · exact wide y
    · split
      · exact h
      · rename_i n hn
        split
        · split
          · exact h
          · exact sound_next (q := { n with stop := y }) h (by simp [ha]) (next_sound h n hn)
        · exact h

theorem abort_sound (h : c.Sound) (tag : Tag) : (c.abort tag).1.Sound := by
  unfold Channel.abort
  split
  · exact h
  · split
    · exact sound_promote h
    · split
      · exact h
      · split
        · exact sound_dropNext h
        · exact h

/-- Taking the output afresh keeps the references and the places of the pulses. -/
theorem afresh_sound (h : c.Sound) (p : Pos) (running ended : Bool) : (c.afresh p running ended).Sound := by
  obtain he | ⟨-, -, ⟨y, hy, -⟩, he⟩ | ⟨-, -, ⟨y, hy, -⟩, he⟩ := afresh_cases c p running ended <;> rw [he]
  · exact h
  · have first : c.active ≠ none := fun hnone => by simp [((channel_sound_iff c).mp h).1 hnone] at hy
    rw [hy]
    exact sound_next (c := { c with output := true }) (q := { y with started := true }) h first (next_sound h y hy)
  · rw [hy]
    exact sound_active (c := { c with output := true }) (q := { y with started := true }) (active_sound h y hy) (next_sound h)

end
end Sys2Proof.Machine
end

section
namespace Sys2Proof.Machine

/-! ### O8: channels and gates through the elementary changes -/

/-- Channels and gates are sound. -/
abbrev State.Works (s : State) : Prop := s.ChannelsSound ∧ s.GatesSound

/-- A gate that is sound, beside the fields that its soundness looks at. -/
abbrev Gate.SameWork (x y : Gate) : Prop :=
  x.state = y.state ∧ x.cls = y.cls ∧ x.release = y.release ∧ x.lock = y.lock ∧ x.mark = y.mark

theorem gate_sound_of_same {x y : Gate} (h : y.Sound) (hx : x.SameWork y) : x.Sound := by
  obtain ⟨hstate, hcls, hrelease, hlock, hmark⟩ := hx
  rw [Gate.Sound, hstate, hcls, hrelease, hlock, hmark]
  exact h

namespace State.Works

variable {s t : State}

theorem beside (h : s.Works) (hc : t.channels = s.channels) (hg : t.gates = s.gates) : t.Works := by
  obtain ⟨hchannels, hgates⟩ := h
  refine ⟨fun c => ?_, fun g => ?_⟩
  · rw [State.channel, hc]
    exact hchannels c
  · rw [State.gate, hg]
    exact hgates g

theorem setChannel (h : s.Works) {c : ChannelIx} {x : Channel} (hx : (s.channel c).Sound → x.Sound) :
    (s.setChannel c x).Works := by
  obtain ⟨hchannels, hgates⟩ := h
  refine ⟨fun k => ?_, hgates⟩
  by_cases hk : k = c
  · rw [hk, setChannel_channel]
    exact hx (hchannels c)
  · rw [setChannel_channel_ne s x hk]
    exact hchannels k

theorem setGate (h : s.Works) {g : GateIx} {x : Gate} (hx : (s.gate g).Sound → x.Sound) : (s.setGate g x).Works := by
  obtain ⟨hchannels, hgates⟩ := h
  refine ⟨hchannels, fun k => ?_⟩
  by_cases hk : k = g
  · rw [hk, setGate_gate]
    exact hx (hgates g)
  · rw [setGate_gate_ne s x hk]
    exact hgates k

/-- A gate changed beside the fields that its soundness looks at. -/
theorem sameWork (h : s.Works) {g : GateIx} {x : Gate} (hx : x.SameWork (s.gate g)) : (s.setGate g x).Works :=
  h.setGate fun hg => gate_sound_of_same hg hx

theorem fault (h : s.Works) (f : FaultRecord) : (s.recordFault f).Works := h.beside (recordFault_channels ..) (recordFault_gates ..)

theorem offerOrDrop (h : s.Works) (f : Frame) (tag : Tag) : (s.offerOrDrop f tag).Works := by
  unfold State.offerOrDrop
  obtain ⟨-, ho⟩ | ⟨-, ho⟩ := offer_cases s f 0 <;> rw [ho]
  · exact h
  · exact h.fault _

/-! #### Channels, stacks and lots -/

theorem request (h : s.Works) (c : ChannelIx) (a b : Pos) (r : Option Tag) : (s.request c a b r).1.Works :=
  h.setChannel fun hc => request_sound hc ..

theorem extend (h : s.Works) (c : ChannelIx) (tag : Tag) (y : Pos) : (s.extend c tag y).1.Works :=
  h.setChannel fun hc => extend_sound hc ..

theorem abort (h : s.Works) (c : ChannelIx) (tag : Tag) : (s.abort c tag).1.Works :=
  h.setChannel fun hc => abort_sound hc ..

theorem trigger (h : s.Works) (d : DestIx) (x : Lot) (n : Nat) : (s.trigger d x n).Works := by
  have asked : (s.requestTrigger d).1.Works := by
    unfold State.requestTrigger
    dsimp only
    split
    · exact h.request ..
    · exact h
  unfold State.trigger
  dsimp only
  split
  · exact asked.fault _
  · exact asked

theorem setDest (h : s.Works) (d : DestIx) (x : Dest) : (s.setDest d x).Works := h

theorem closeStack (h : s.Works) (d : DestIx) (r : ClosureReason) : (s.closeStack d r).Works := by
  unfold State.closeStack
  dsimp only
  split
  · exact h.setDest ..
  · exact (h.setDest ..).trigger ..

theorem payTrigger (h : s.Works) (d : DestIx) : (s.payTrigger d).Works := by
  unfold State.payTrigger
  split
  · exact (h.setDest ..).trigger ..
  · exact h

theorem countIntoStack (h : s.Works) (d : DestIx) (x : Lot) : (s.countIntoStack d x).Works := by
  have counted : ∀ u : State, u.Works → State.Works (
      let v := u.setDest d { u.dest d with count := (u.dest d).count + 1, stackLot := x }
      if (v.dest d).set.stackSize ≤ (v.dest d).count then v.closeStack d .full else v) := fun u hu => by
    dsimp only
    split
    · exact (hu.setDest ..).closeStack ..
    · exact hu.setDest ..
  unfold State.countIntoStack
  split
  · exact h
  · refine counted _ ?_
    split
    · exact h.closeStack ..
    · exact h

theorem lotEnd (h : s.Works) (x : Lot) : (s.lotEnd x).Works :=
  List.foldlRecOn (motive := State.Works) _ _ h fun t ht d _ => by
    dsimp only
    split
    · exact ht.closeStack ..
    · exact ht

theorem withClosures (h : s.Works) (l : List (Fin 16)) : { s with closureList := l }.Works := h

theorem setLotSlot (h : s.Works) (k : Fin 16) (x : Option LotEntry) : (s.setLotSlot k x).Works := h

theorem judgeLots (h : s.Works) : s.judgeLots.Works :=
  List.foldlRecOn (motive := State.Works) _ _ h fun t ht k _ => by
    unfold State.judgeLot
    split
    · exact ht
    · split
      · exact ((ht.setLotSlot ..).withClosures _).lotEnd _
      · exact ht.setLotSlot ..

theorem lotAdmit (h : s.Works) (tag : Tag) (x : Lot) (g : Option GateIx) : (s.lotAdmit tag x g).1.Works := by
  unfold State.lotAdmit
  split
  · exact h
  split
  · split
    · exact h
    · split <;> dsimp only
      · exact (((h.setLotSlot ..).withClosures _).fault _).judgeLots
      · exact (h.setLotSlot ..).judgeLots
  · split <;> dsimp only
    · refine judgeLots ?_
      split
      · exact ((h.withClosures _).setLotSlot ..).fault _
      · exact (h.withClosures _).setLotSlot ..
    · exact h.fault _

theorem lotRemove (h : s.Works) (r : Record) (b : Bool) : (s.lotRemove r b).Works := by
  unfold State.lotRemove
  split
  · exact h
  · exact (List.foldlRecOn (motive := State.Works) _ _ h fun t ht k _ => ht.setLotSlot ..).judgeLots

theorem lotMarked (h : s.Works) (a : Addr) (f : LotMarkFrame) : (s.lotMarked a f).Works := by
  unfold State.lotMarked
  split
  · exact h
  · split
    · exact h
    · exact (h.setLotSlot ..).judgeLots

/-! #### The train -/

theorem handToLots (h : s.Works) (tag : Tag) (x : Lot) (g : Option GateIx) : (s.handToLots tag x g).Works := by
  have admitted := h.lotAdmit tag x g
  unfold State.handToLots
  dsimp only
  split
  · exact admitted
  · exact admitted

theorem removeRecord (h : s.Works) (r : Record) (c : RemovalCause) (u : Option FaultUnit) :
    (s.removeRecord r c u).Works := by
  have taken : (s.takeOut r.tag).Works := h
  have lost : (((s.takeOut r.tag).lotRemove r c.passed).queueLost r.tag c).Works := by
    unfold State.queueLost
    split
    · exact (taken.lotRemove ..).offerOrDrop ..
    · exact taken.lotRemove ..
  have faulted : ((((s.takeOut r.tag).lotRemove r c.passed).queueLost r.tag c).removalFault r c u).Works := by
    unfold State.removalFault
    split
    · exact lost.fault _
    · exact lost
  unfold State.removeRecord State.alarmAt
  dsimp only
  split
  · exact faulted
  · exact faulted

theorem clearIfPassed (h : s.Works) (tag : Tag) : (s.clearIfPassed tag).Works := by
  unfold State.clearIfPassed
  split
  · split
    · exact h.removeRecord ..
    · exact h
  · exact h

theorem clearIfMoved (h : s.Works) (r : Record) : (s.clearIfMoved r).Works := by
  obtain he | he := clearIfMoved_cases s r <;> rw [he]
  · exact h
  · exact h.clearIfPassed _

/-! #### The outlet -/

theorem depart (h : s.Works) (r : Record) : (s.depart r).Works := by
  unfold State.depart
  split
  · exact (h.countIntoStack ..).removeRecord ..
  · exact h

theorem departIfPassed (h : s.Works) (tag : Tag) : (s.departIfPassed tag).Works := by
  unfold State.departIfPassed
  split
  · split
    · split
      · exact h.depart _
      · exact h
    · exact h
  · exact h

theorem departIfMoved (h : s.Works) (r : Record) : (s.departIfMoved r).Works := by
  obtain he | he := departIfMoved_cases s r <;> rw [he]
  · exact h
  · exact h.departIfPassed _

/-- A change of the train beside channels and gates. -/
theorem updateRecord (h : s.Works) (tag : Tag) (f : Record → Record) : (s.updateRecord tag f).Works := h

theorem replaceRecord (h : s.Works) (r : Record) : (s.replaceRecord r).Works := h

theorem markFresh (h : s.Works) (tag : Tag) : (s.markFresh tag).Works := h

theorem requestDivert (h : s.Works) (r : Record) (e : Pos) (d : DestIx) : (s.requestDivert r e d).Works := by
  unfold State.requestDivert
  dsimp only
  split
  · exact h
  · split
    · exact (h.request ..).fault _
    · exact ((h.request ..).updateRecord ..).fault _
    · exact ((h.request ..).updateRecord ..).fault _
    · exact h.request ..

theorem route (h : s.Works) (tag : Tag) : (s.route tag).Works := by
  unfold State.route
  split
  · exact h
  · split
    · exact h
    · split
      · exact h
      · exact ((h.updateRecord ..).requestDivert ..).departIfPassed _

theorem payOutlet (h : s.Works) : s.payOutlet.Works := by
  unfold State.payOutlet
  split
  · have paid : (destIxs.foldl State.payTrigger s).Works :=
      List.foldlRecOn (motive := State.Works) _ _ h fun _ ht d _ => ht.payTrigger d
    exact List.foldlRecOn (motive := State.Works) _ _ paid fun _ ht tag _ => ht.route tag
  · exact h

theorem extendDivert (h : s.Works) (r : Record) (m : Nat) : (s.extendDivert r m).Works := by
  unfold State.extendDivert
  split
  · split
    · split
      · exact h
      · dsimp only
        split
        · exact (h.extend ..).fault _
        · exact h.extend ..
    · exact h
  · exact h

/-! #### Transit -/

theorem queueHandoff (h : s.Works) (r : Record) : (s.queueHandoff r).Works := by
  unfold State.queueHandoff
  obtain ⟨-, ho⟩ | ⟨-, ho⟩ := offer_cases s (.handoff (handoffFrame r)) (r.lead.getD 0) <;> rw [ho]
  · exact h
  · exact State.Works.fault (by exact h) _

theorem exitSteps (h : s.Works) (tag : Tag) (c : Option Pos) : (s.exitSteps tag c).Works := by
  have rejected : (s.takeExitReject tag).Works := by
    unfold State.takeExitReject
    split
    · exact h
    · exact h
  unfold State.exitSteps
  dsimp only
  split
  · exact rejected
  · have handed := fun r => rejected.queueHandoff r
    split
    · unfold State.slipLesson
      split
      · split
        · exact handed _
        · exact handed _
      · exact handed _
    · exact handed _

theorem reckonExit (h : s.Works) (r : Record) : (s.reckonExit r).Works := (h.replaceRecord _).exitSteps ..

theorem reckonExitIfPassed (h : s.Works) (tag : Tag) : (s.reckonExitIfPassed tag).Works := by
  unfold State.reckonExitIfPassed
  split
  · split
    · exact h.reckonExit _
    · exact h
  · exact h

theorem reckon (h : s.Works) (r : Record) : (s.reckon r).Works := by
  unfold State.reckon
  split
  · exact h.replaceRecord _
  · exact ((h.replaceRecord _).markFresh _).reckonExitIfPassed _
  · exact h.reckonExit r
  · exact h.removeRecord ..
  · exact (h.replaceRecord _).route _
  · exact h

theorem reckonIfPassed (h : s.Works) (tag : Tag) : (s.reckonIfPassed tag).Works := by
  unfold State.reckonIfPassed
  split
  · split
    · exact h
    · split
      · exact h.reckon _
      · exact h
    · exact h
  · exact h

end State.Works
end Sys2Proof.Machine
end

section
namespace Sys2Proof.Machine
namespace State.Works

variable {s : State}

/-! ### O8: matching -/

theorem stopWaiting (h : s.Works) (tag : Tag) : (s.stopWaiting tag).Works := h

theorem advanceLead (h : s.Works) (r : Record) (k : Checkpoint) (e b : Pos) (c : Bool) :
    (s.advanceLead r k e b c).Works := by
  have waits := h.stopWaiting r.tag
  unfold State.advanceLead
  cases k with
  | feed => exact (waits.replaceRecord _).clearIfMoved _
  | entry => exact (waits.replaceRecord _).markFresh _
  | exit => exact (waits.replaceRecord _).exitSteps ..
  | outlet => exact (waits.replaceRecord _).route _

theorem stray (h : s.Works) (k : Checkpoint) (x : Edge) : (s.stray k x).Works := by
  have spent : ∀ c, (s.allocate.2.spendCredit c).Works := fun c => by
    unfold State.spendCredit
    split
    · exact h
    · exact h
  have added : ∀ (u : State) r tag, u.Works → (((u.addRecord r).markFresh tag).handToLots tag Config.unknownLot none).Works :=
    fun u r tag hu => State.Works.handToLots (s := (u.addRecord r).markFresh tag) hu ..
  have faulted : ∀ (u : State) f, u.Works → State.Works (match creditIndex s.watch with
      | some _ => u
      | none => u.recordFault f) := fun u f hu => by
    split
    · exact hu
    · exact hu.fault _
  unfold State.stray
  split
  · exact h.fault _
  · split
    · exact h.fault _
    · have made := fun r f => faulted _ f (added _ r s.allocate.1 (spent (creditIndex s.watch)))
      dsimp only
      split
      · exact (made _ _).route _
      · exact (made _ _).clearIfPassed _
      · exact made _ _

theorem leadingEdge (h : s.Works) (k : Checkpoint) (x : Edge) : (s.leadingEdge k x).Works := by
  unfold State.leadingEdge
  dsimp only
  split
  · exact h.advanceLead ..
  · split
    · exact h
    · split
      · exact h
      · exact h.stray ..

theorem measured (h : s.Works) (r : Record) (k : Checkpoint) (x : Edge) : (s.measured r k x).Works := by
  have judged : ∀ (u : State) m, u.Works → (u.verdict r m x).Works := fun u m hu => by
    unfold State.verdict
    split
    · exact hu
    · split
      · exact (hu.updateRecord ..).fault _
      · exact hu
  unfold State.measured
  split
  · exact h
  · dsimp only
    split
    · exact (judged _ _ (h.updateRecord ..)).extendDivert ..
    · exact judged _ _ (h.updateRecord ..)

theorem advanceTrail (h : s.Works) (r : Record) (k : Checkpoint) : (s.advanceTrail r k).Works := by
  unfold State.advanceTrail
  split
  · exact h
  · cases k with
    | feed => exact (h.replaceRecord _).clearIfMoved _
    | entry => exact (h.replaceRecord _).reckonExitIfPassed _
    | exit => exact h.removeRecord ..
    | outlet => exact (h.replaceRecord _).departIfMoved _

theorem trailingEdge (h : s.Works) (k : Checkpoint) (x : Edge) : (s.trailingEdge k x).Works := by
  unfold State.trailingEdge
  dsimp only
  split
  · exact h
  · exact List.foldlRecOn (motive := State.Works) _ _ ((h.measured ..).advanceTrail ..) fun _ ht y _ => ht.advanceTrail y k

theorem edge (h : s.Works) (x : Edge) : (s.edge x).Works := by
  unfold State.edge
  split
  · exact h
  · split
    · exact h.leadingEdge ..
    · exact h.trailingEdge ..

theorem passOn (h : s.Works) (tag : Tag) (k : Checkpoint) (e : EyeIx) : (s.passOn tag k e).Works := by
  unfold State.passOn
  split
  · exact h
  · exact h.advanceLead ..

theorem decideClosure (h : s.Works) (r : Record) (k : Checkpoint) (e : EyeIx) (closing : Pos) :
    (s.decideClosure r k e closing).Works := by
  have marked : ∀ (u : State) pre, u.Works → (u.exitDoubleMark pre k).Works := fun u pre hu => by
    unfold State.exitDoubleMark
    split
    · exact hu.offerOrDrop ..
    · exact hu
  unfold State.decideClosure
  split
  · exact h.removeRecord ..
  · split
    · exact h.passOn ..
    · exact ((marked _ _ ((h.updateRecord ..).updateRecord ..)).fault _).passOn ..

theorem closeWindow (h : s.Works) (r : Record) : (s.closeWindow r).Works := by
  unfold State.closeWindow
  split
  · exact h
  · split
    · exact h
    · exact h.decideClosure ..

theorem redecide (h : s.Works) (w : Waiting) : (s.redecide w).Works := by
  obtain he | ⟨r, k, e, closing, -, -, -, he⟩ := redecide_cases s w <;> rw [he]
  · exact h
  · exact h.decideClosure ..

theorem missIfClosed (h : s.Works) (tag : Tag) : (s.missIfClosed tag).Works := by
  unfold State.missIfClosed
  split
  · exact h
  · split
    · exact h
    · split
      · exact h.removeRecord ..
      · exact h

/-! ### O8: the space unit and what follows every event -/

theorem restartPatience (h : s.Works) (g : GateIx) : (s.restartPatience g).Works := h.sameWork ⟨rfl, rfl, rfl, rfl, rfl⟩

theorem dropOwn (h : s.Works) (g : GateIx) : (s.dropOwn g).Works := h

theorem voidReserve (h : s.Works) (g : GateIx) : (s.voidReserve g).Works := h

theorem queueWithdraw (h : s.Works) (g : GateIx) : (s.queueWithdraw g).Works := by
  unfold State.queueWithdraw
  obtain ⟨-, ho⟩ | ⟨-, ho⟩ := offer_cases s (.withdraw g) 0 <;> rw [ho]
  · exact h
  · exact h.sameWork ⟨rfl, rfl, rfl, rfl, rfl⟩

theorem withdrawEntry (h : s.Works) (g : GateIx) : (s.withdrawEntry g).Works := by
  unfold State.withdrawEntry
  split
  · exact h
  · split
    · exact (h.dropOwn g).voidReserve g
    · exact (h.dropOwn g).queueWithdraw g

theorem outputsAfresh (h : s.Works) : s.outputsAfresh.Works :=
  List.foldlRecOn (motive := State.Works) _ _ h fun _ ht _ _ => ht.setChannel fun hc => afresh_sound hc ..

theorem alertAfresh (h : s.Works) : s.alertAfresh.Works := h

theorem refresh (h : s.Works) : s.refresh.Works := by
  have withdrawn : ∀ u : State, u.Works → u.withdrawSuspended.Works := fun u hu =>
    List.foldlRecOn (motive := State.Works) _ _ hu fun _ ht g _ => ht.withdrawEntry g
  exact (withdrawn _ (withdrawn _ h)).outputsAfresh.alertAfresh

theorem voidQueued (h : s.Works) (g : GateIx) : (s.voidQueued g).Works :=
  ((h.dropOwn g).voidReserve g).restartPatience g

theorem withdraw (h : s.Works) (g : GateIx) : (s.withdraw g).Works := by
  unfold State.withdraw
  split
  · exact h
  · exact (h.withdrawEntry g).restartPatience g

theorem dropPeer (h : s.Works) (a : Addr) (g : GateIx) : (s.dropPeer a g).Works := h

theorem expireEntry (h : s.Works) (r : Reservation) : (s.expireEntry r).Works := by
  unfold State.expireEntry
  split
  · split
    · exact h.voidQueued _
    · exact (h.dropOwn _).restartPatience _
  · exact h.dropPeer ..

theorem breakReservations (h : s.Works) (r : Record) : (s.breakReservations r).Works :=
  List.foldlRecOn (motive := State.Works) _ _ h fun _ ht x _ => ht.expireEntry x

theorem standOwn (h : s.Works) (g : GateIx) : (s.standOwn g).Works := h

theorem ownReserveHeard (h : s.Works) (g : GateIx) : (s.ownReserveHeard g).Works := by
  unfold State.ownReserveHeard
  split
  · exact h.queueWithdraw g
  · split
    · exact h.queueWithdraw g
    · split
      · exact ((h.dropOwn g).queueWithdraw g).restartPatience g
      · dsimp only
        split
        · exact (h.standOwn g).withdraw g
        · exact h.standOwn g

theorem peerReserve (h : s.Works) (a : Addr) (o : Int) (f : ReserveFrame) : (s.peerReserve a o f).Works := by
  have voided : ∀ (u : State) m x y, u.Works → (u.voidOverlapped m x y).Works := fun u m x y hu =>
    List.foldlRecOn (motive := State.Works) _ _ hu fun t ht g _ => by
      split
      · exact ht.voidQueued g
      · exact ht
  have stored : ∀ (u : State) l, u.Works → { u with reservations := l }.Works := fun _ _ hu => hu
  unfold State.peerReserve
  dsimp only
  split
  · exact h.dropPeer ..
  · split
    · exact h.dropPeer ..
    · split
      · exact h.dropPeer ..
      · exact stored _ _ (voided _ _ _ _ (h.dropPeer ..))

/-! ### O8: eyes and the events of travel -/

theorem setEye (h : s.Works) (e : EyeIx) (x : Eye) : (s.setEye e x).Works := h

theorem candidateEnded (h : s.Works) (e : EyeIx) : (s.candidateEnded e).Works := by
  unfold State.candidateEnded
  split
  · exact h
  · refine List.foldlRecOn (motive := State.Works) _ _ h fun t ht w _ => ?_
    obtain ⟨-, he⟩ | ⟨-, he⟩ := decideWaiting_cases t w <;> rw [he]
    · exact ht
    · exact ((ht.stopWaiting _).redecide w).refresh

theorem acceptCandidate (h : s.Works) (e : EyeIx) (c : Candidate) : (s.acceptCandidate e c).Works := by
  unfold State.acceptCandidate
  refine candidateEnded ?_ e
  split
  · exact ((h.setEye ..).edge _).refresh
  · exact h.setEye ..

theorem acceptIfDue (h : s.Works) (e : EyeIx) : (s.acceptIfDue e).Works := by
  unfold State.acceptIfDue
  split
  · split
    · exact h.acceptCandidate ..
    · exact h
  · exact h

theorem filterSample (h : s.Works) (e : EyeIx) : (s.filterSample e).Works := by
  unfold State.filterSample
  dsimp only
  split
  · split
    · exact (h.setEye ..).candidateEnded e
    · exact h
  · split
    · exact h
    · exact (h.setEye ..).acceptIfDue e

theorem onEyeRawChange (h : s.Works) (e : EyeIx) (high : Bool) : (s.onEyeRawChange e high).Works := by
  have sampled := (h.acceptIfDue e).setEye e { (s.acceptIfDue e).eye e with pinHigh := high }
  unfold State.onEyeRawChange
  dsimp only
  split
  · exact (sampled.filterSample e).refresh
  · exact sampled

theorem onEdgeAccepted (h : s.Works) (e : EyeIx) : (s.onEdgeAccepted e).Works := by
  unfold State.onEdgeAccepted
  split
  · exact (h.acceptIfDue e).refresh
  · exact h

theorem onJam (h : s.Works) (e : EyeIx) : (s.onJam e).Works := by
  unfold State.onJam
  split
  · exact ((h.setEye ..).fault _).refresh
  · exact h

theorem retireOne (h : s.Works) (c : ChannelIx) : (s.retireOne c).Works := by
  unfold State.retireOne
  split
  · exact h.setChannel sound_promote
  · exact h

theorem onPulseRetired (h : s.Works) (c : ChannelIx) : (s.onPulseRetired c).Works := by
  unfold State.onPulseRetired
  split
  · exact ((h.retireOne c).retireOne c).refresh
  · exact h

theorem takeEvent (h : s.Works) (r : Record) (k : TravelEvent) : (s.takeEvent r k).Works := by
  cases k with
  | closure => exact h.closeWindow r
  | reckoning => exact h.reckon r
  | clearance => exact h.removeRecord ..
  | departure => exact h.depart r

theorem settleTrain (h : s.Works) (n : Nat) : (s.settleTrain n).Works := by
  induction n generalizing s with
  | zero => exact h
  | succ n ih =>
    unfold State.settleTrain
    split
    · exact h
    · exact ih (h.takeEvent ..).refresh

theorem settleMatching (h : s.Works) : s.settleMatching.Works :=
  settleTrain (List.foldlRecOn (motive := State.Works) _ _ h fun _ ht e _ => ht.onEdgeAccepted e) _

/-- WINDOW_CLOSURE, DEAD_RECKONING, CLEARED and DEPARTED. -/
theorem dueEvent (h : s.Works) (k : TravelEvent) (tag : Tag) :
    State.Works (match s.dueRecord k tag with
      | some r => (s.takeEvent r k).refresh
      | none => s) := by
  split
  · exact (h.takeEvent ..).refresh
  · exact h

theorem stepEye (h : s.Works) (i : TravelInput) (first : Bool) (inc : Nat) (e : EyeIx) :
    (s.stepEye i first inc e).Works := by
  unfold State.stepEye
  dsimp only
  split
  · split
    · exact (h.setEye ..).candidateEnded e
    · exact h.setEye ..
  · exact h

theorem stepPatience (h : s.Works) (inc : Nat) (g : GateIx) : (s.stepPatience inc g).Works := by
  unfold State.stepPatience
  dsimp only
  split
  · exact h.sameWork ⟨rfl, rfl, rfl, rfl, rfl⟩
  · exact h

end State.Works
end Sys2Proof.Machine
end

section
namespace Sys2Proof.Machine

/-! ### O8: what a commit finds in its gate -/

variable {s : State}

theorem handToLots_gates (s : State) (tag : Tag) (x : Lot) (g : Option GateIx) :
    (s.handToLots tag x g).gates = s.gates := by
  have beside := congrArg State.gates (lotAdmit_besideLots s tag x g)
  have lots : (s.lotAdmit tag x g).1.gates = s.gates := beside
  unfold State.handToLots
  dsimp only
  split
  · exact lots
  · exact lots

/-- A removal touches no gate (R62). -/
theorem removeRecord_gates (s : State) (r : Record) (c : RemovalCause) (u : Option FaultUnit) :
    (s.removeRecord r c u).gates = s.gates := by
  have beside := congrArg State.gates (lotRemove_besideLots (s.takeOut r.tag) r c.passed)
  have lots : ((s.takeOut r.tag).lotRemove r c.passed).gates = s.gates := beside
  have dropped : ∀ (v : State) f tag, (v.offerOrDrop f tag).gates = v.gates := fun v f tag => by
    unfold State.offerOrDrop
    obtain ⟨-, ho⟩ | ⟨-, ho⟩ := offer_cases v f 0 <;> rw [ho]
    · rfl
    · exact recordFault_gates ..
  have lost : (((s.takeOut r.tag).lotRemove r c.passed).queueLost r.tag c).gates = s.gates := by
    unfold State.queueLost
    split
    · rw [dropped, lots]
    · exact lots
  have faulted : ((((s.takeOut r.tag).lotRemove r c.passed).queueLost r.tag c).removalFault r c u).gates = s.gates := by
    unfold State.removalFault
    split
    · rw [recordFault_gates, lost]
    · exact lost
  unfold State.removeRecord State.alarmAt
  dsimp only
  split
  · exact faulted
  · exact faulted

/-- The space unit's part of a commit moves no gate but in its pending WITHDRAW. -/
theorem reservationAtCommit_pendingApart (s : State) (g : GateIx) (x : Pos) :
    s.PendingApart (s.reservationAtCommit g x) := by
  unfold State.reservationAtCommit
  split
  · exact fun _ => rfl
  · split
    · split
      · exact fun _ => rfl
      · exact fun _ => rfl
    · exact withdrawEntry_pendingApart s g

/-- The train's part of a commit touches no gate. -/
theorem commitAnnounced_gate (s : State) (g k : GateIx) (c : Cls) (x : Lot) (n : Nat) (f : Flags) :
    (s.commitAnnounced g c x n f).1.gate k = s.gate k :=
  congrArg (·[k]) (handToLots_gates ..)

theorem requestRelease_gate (s : State) (g k : GateIx) (c : Pos) (tag : Tag) :
    (s.requestRelease g c tag).gate k = s.gate k := by
  unfold State.requestRelease
  dsimp only
  split
  · rfl
  · rfl

/-- The gate RELEASING with its release: sound where the release is a spacer exactly of no class (R97, R98). -/
theorem gate_sound_of_commit {x y : Gate} {r : Release} (h : x.Sound) (hy : y.lock = x.lock ∧ y.mark = x.mark)
    (hstate : y.state = .releasing) (hrelease : y.release = some r) (hcls : r.spacer = y.cls.isNone) : y.Sound := by
  obtain ⟨-, -, -, -, hmark⟩ := h
  refine ⟨by simp [hstate, hrelease], by simp [hstate], by simp [hstate], fun z hz => ?_, by rw [hy.1, hy.2]; exact hmark⟩
  rw [hrelease] at hz
  obtain rfl : z = r := by simpa using hz
  exact hcls

/-- The gate without its release: sound where EMPTY knows no class and READY one (R94, R99, R109). -/
theorem gate_sound_of_end {x y : Gate} (h : x.Sound) (hy : y.lock = x.lock ∧ y.mark = x.mark) (hrelease : y.release = none)
    (hstate : y.state = .empty ∧ y.cls = none ∨ y.state = .ready ∧ y.cls ≠ none) : y.Sound := by
  obtain ⟨-, -, -, -, hmark⟩ := h
  refine ⟨?_, ?_, ?_, by simp [hrelease], by rw [hy.1, hy.2]; exact hmark⟩ <;>
    obtain ⟨hs, hc⟩ | ⟨hs, hc⟩ := hstate <;> simp [hs, hc, hrelease]

namespace State.Works

/-! ### O8: the gates -/

theorem reservationAtCommit (h : s.Works) (g : GateIx) (x : Pos) : (s.reservationAtCommit g x).Works := by
  unfold State.reservationAtCommit
  split
  · exact h
  · split
    · split
      · exact (h.dropOwn g).voidReserve g
      · exact h.dropOwn g
    · exact h.withdrawEntry g

theorem commitAnnounced (h : s.Works) (g : GateIx) (c : Cls) (x : Lot) (n : Nat) (f : Flags) :
    (s.commitAnnounced g c x n f).1.Works :=
  have added : ∀ r tag, ((s.allocate.2.addRecord r).markFresh tag).Works := fun _ _ => h
  (added _ _).handToLots s.allocate.1 x (some g)

theorem requestRelease (h : s.Works) (g : GateIx) (c : Pos) (tag : Tag) : (s.requestRelease g c tag).Works := by
  unfold State.requestRelease
  dsimp only
  split
  · exact h.request ..
  · exact h

theorem commitItem (h : s.Works) (g : GateIx) : (s.commitItem g).Works := by
  unfold State.commitItem
  dsimp only
  split
  · exact h
  · rename_i cls hcls
    generalize hq : s.commitAnnounced g cls _ _ _ = q
    have announced : q.1.Works := hq ▸ h.commitAnnounced ..
    have gate : q.1.gate g = s.gate g := hq ▸ commitAnnounced_gate ..
    have apart := reservationAtCommit_pendingApart (q.1.requestRelease g (s.pos .a) q.2) g (s.dropAt g) g
    refine setGate ((announced.requestRelease ..).reservationAtCommit ..) fun hg => ?_
    refine gate_sound_of_commit hg ⟨rfl, rfl⟩ rfl rfl ?_
    dsimp only
    rw [apart, requestRelease_gate, gate, hcls]
    rfl

/-- A spacer is committed by an EMPTY gate, which knows no class (R98). -/
theorem commitSpacer (h : s.Works) (g : GateIx) (he : (s.gate g).state = .empty) : (s.commitSpacer g).Works := by
  have hcls : (s.gate g).cls = none := (h.2 g).2.1 he
  unfold State.commitSpacer
  dsimp only
  generalize hq : s.commitAnnounced g _ _ _ _ = q
  have announced : q.1.Works := hq ▸ h.commitAnnounced ..
  have gate : q.1.gate g = s.gate g := hq ▸ commitAnnounced_gate ..
  have apart := reservationAtCommit_pendingApart q.1 g (s.dropAt g) g
  refine setGate (announced.reservationAtCommit ..) fun hg => ?_
  refine gate_sound_of_commit hg ⟨rfl, rfl⟩ rfl rfl ?_
  dsimp only
  rw [apart, gate, hcls]
  rfl

theorem beginSpacer (h : s.Works) (g : GateIx) : (s.beginSpacer g).Works := by
  refine h.setGate fun ⟨hrelease, hempty, hready, hspacer, hmark⟩ => ⟨?_, hempty, hready, fun r hr => ?_, hmark⟩
  · rw [Option.isSome_map]
    exact hrelease
  · simp only [Option.mem_toList, Option.map_eq_some_iff] at hr
    obtain ⟨y, hy, rfl⟩ := hr
    exact hspacer y (Option.mem_toList.mpr hy)

/-- A mark goes from WAITING to QUEUED and back; the lock stands with both (R105, R106). -/
theorem queueMark (h : s.Works) (g : GateIx) : (s.queueMark g).Works := by
  unfold State.queueMark
  split
  · rename_i m hm
    obtain ⟨-, ho⟩ | ⟨-, ho⟩ := offer_cases s (s.markFrame g m) 0 <;> rw [ho]
    · have pushed : ∀ f p, (s.push f p).Works := fun _ _ => h
      refine (pushed _ _).setGate fun ⟨hrelease, hempty, hready, hspacer, hmark⟩ =>
        ⟨hrelease, hempty, hready, hspacer, ?_⟩
      have locked : (s.gate g).lock = true := hmark.mpr (by rw [show ((s.push _ _).gate g).mark = _ from hm]; simp)
      simp [locked]
    · exact h
  · exact h

theorem queueMarks (h : s.Works) : s.queueMarks.Works :=
  List.foldlRecOn (motive := State.Works) _ _ h fun _ ht g _ => ht.queueMark g

theorem applyLotChange (h : s.Works) (g : GateIx) (x : Lot) : (s.applyLotChange g x).Works :=
  queueMarks (h.setGate fun ⟨hrelease, hempty, hready, hspacer, _⟩ => ⟨hrelease, hempty, hready, hspacer, by simp⟩)

theorem applyPendingLot (h : s.Works) (g : GateIx) : (s.applyPendingLot g).Works := by
  unfold State.applyPendingLot
  split
  · exact (h.sameWork (x := { s.gate g with lotPending := none }) ⟨rfl, rfl, rfl, rfl, rfl⟩).applyLotChange ..
  · exact h

theorem ownLotmarkHeard (h : s.Works) (f : LotMarkFrame) : (s.ownLotmarkHeard f).Works := by
  unfold State.ownLotmarkHeard
  dsimp only
  split
  · split
    · exact h.setGate fun ⟨hrelease, hempty, hready, hspacer, _⟩ => ⟨hrelease, hempty, hready, hspacer, by simp⟩
    · exact h
  · exact h

theorem endRelease (h : s.Works) (g : GateIx) : (s.endRelease g).Works := by
  unfold State.endRelease
  refine applyPendingLot (h.setGate fun hg => ?_) g
  exact gate_sound_of_end hg ⟨rfl, rfl⟩ rfl (.inl ⟨rfl, rfl⟩)

/-- A cancelled release leaves an item gate READY with its class and a spacer gate EMPTY without one (R109). -/
theorem cancelRelease (h : s.Works) {g : GateIx} {r : Release} (hr : (s.gate g).release = some r) :
    (s.cancelRelease g r).Works := by
  have cancelled : (s.cancelRecord g r.tag).Works ∧ (s.cancelRecord g r.tag).gates = s.gates := by
    unfold State.cancelRecord
    split
    · exact ⟨h.removeRecord .., removeRecord_gates ..⟩
    · exact ⟨h, rfl⟩
  have gate : (s.cancelRecord g r.tag).gate g = s.gate g := congrArg (·[g]) cancelled.2
  have spacer : r.spacer = (s.gate g).cls.isNone := (h.2 g).2.2.2.1 r (Option.mem_toList.mpr hr)
  unfold State.cancelRelease
  dsimp only
  split
  · rename_i hs
    refine applyPendingLot (cancelled.1.setGate fun hg => ?_) g
    refine gate_sound_of_end hg ⟨rfl, rfl⟩ rfl (.inl ⟨rfl, ?_⟩)
    dsimp only
    rw [gate]
    simpa [hs] using spacer.symm
  · rename_i hs
    refine cancelled.1.setGate fun hg => ?_
    refine gate_sound_of_end hg ⟨rfl, rfl⟩ rfl (.inr ⟨rfl, ?_⟩)
    dsimp only
    rw [gate]
    intro hnone
    simp [hs, hnone] at spacer

theorem stopRelease (h : s.Works) (g : GateIx) (r : Release) : (s.stopRelease g r).Works := (h.endRelease g).fault _

theorem settleRelease (h : s.Works) (g : GateIx) : (s.settleRelease g).Works := by
  unfold State.settleRelease
  split
  · rename_i r _ hr
    split
    · split
      · exact h.stopRelease ..
      · exact h.cancelRelease hr
    · split
      · exact h.stopRelease ..
      · rename_i c _
        have aborted := h.abort c r.tag
        have gate : ((s.abort c r.tag).1.gate g).release = some r := hr
        dsimp only
        split
        · exact aborted.cancelRelease gate
        · exact aborted.stopRelease ..
  · exact h

/-! ### O8: the events of gates and reservations -/

theorem onGateCommit (h : s.Works) (g : GateIx) : (s.onGateCommit g).Works := by
  unfold State.onGateCommit
  split
  · exact (h.commitItem g).refresh
  · exact h

theorem onSpacerCommit (h : s.Works) (g : GateIx) : (s.onSpacerCommit g).Works := by
  unfold State.onSpacerCommit
  split
  · rename_i hc
    simp only [State.canSpacer, Bool.and_eq_true, beq_iff_eq] at hc
    obtain ⟨⟨⟨⟨⟨he, -⟩, -⟩, -⟩, -⟩, -⟩ := hc
    exact (h.commitSpacer g he).refresh
  · exact h

theorem onSpacerBegun (h : s.Works) (g : GateIx) : (s.onSpacerBegun g).Works := by
  unfold State.onSpacerBegun
  split
  · exact h.beginSpacer g
  · exact h

theorem onReleaseEnd (h : s.Works) (g : GateIx) : (s.onReleaseEnd g).Works := by
  unfold State.onReleaseEnd
  split
  · exact (h.endRelease g).refresh
  · exact h

theorem onPatienceReached (h : s.Works) (g : GateIx) : (s.onPatienceReached g).Works := by
  unfold State.onPatienceReached
  split
  · exact h.sameWork ⟨rfl, rfl, rfl, rfl, rfl⟩
  · exact h

theorem onReservationSent (h : s.Works) (g : GateIx) : (s.onReservationSent g).Works := by
  have sent : (s.sendReservation g).Works := h
  have noted : ∀ u : State, u.Works → (u.noteUndone g).Works := fun u hu => by
    rw [noteUndone_eq]
    exact hu
  unfold State.onReservationSent
  split
  · exact noted _ sent.refresh
  · exact h

theorem onReservationVoid (h : s.Works) (g : GateIx) : (s.onReservationVoid g).Works := by
  unfold State.onReservationVoid
  split
  · exact (h.voidQueued g).refresh
  · exact h

theorem onReservationWithdrawn (h : s.Works) (g : GateIx) : (s.onReservationWithdrawn g).Works := by
  unfold State.onReservationWithdrawn
  split
  · exact (h.withdraw g).refresh
  · exact h

theorem onReservationExpiry (h : s.Works) (a : Addr) (g : GateIx) : (s.onReservationExpiry a g).Works := by
  unfold State.onReservationExpiry
  split
  · exact (h.expireEntry _).refresh
  · exact h

theorem onLotmarkQueued (h : s.Works) (g : GateIx) : (s.onLotmarkQueued g).Works := by
  unfold State.onLotmarkQueued
  split
  · exact (h.queueMark g).refresh
  · exact h

theorem push (h : s.Works) (f : Frame) (p : Pos) : (s.push f p).Works := h

theorem onWithdrawQueued (h : s.Works) (g : GateIx) : (s.onWithdrawQueued g).Works := by
  unfold State.onWithdrawQueued
  split
  · exact ((h.sameWork (x := { s.gate g with withdrawPending := false }) ⟨rfl, rfl, rfl, rfl, rfl⟩).push ..).refresh
  · exact h

theorem queueHold (h : s.Works) : s.queueHold.Works := by
  unfold State.queueHold
  split
  · exact h
  · exact h

theorem onHoldQueued (h : s.Works) : s.onHoldQueued.Works := by
  unfold State.onHoldQueued
  split
  · exact h.queueHold.refresh
  · exact h

theorem beginSpacers (h : s.Works) : s.beginSpacers.Works :=
  List.foldlRecOn (motive := State.Works) _ _ h fun _ ht g _ => ht.onSpacerBegun g

theorem voidReached (h : s.Works) : s.voidReached.Works :=
  List.foldlRecOn (motive := State.Works) _ _ h fun _ ht g _ => ht.onReservationVoid g

/-! ### O8: settling and the counted step -/

theorem gateRound (h : s.Works) : s.gateRound.Works := by
  have committed : (gateIxs.foldl State.settleGate s).Works := List.foldlRecOn (motive := State.Works) _ _ h
    fun _ ht g _ => ((ht.onGateCommit g).onSpacerCommit g).onReservationSent g
  have missed := List.foldlRecOn (motive := State.Works) gateIxs State.onReservationWithdrawn committed
    fun _ ht g _ => ht.onReservationWithdrawn g
  have marked := List.foldlRecOn (motive := State.Works) gateIxs State.onLotmarkQueued missed
    fun _ ht g _ => ht.onLotmarkQueued g
  have queued := List.foldlRecOn (motive := State.Works) gateIxs State.onWithdrawQueued marked
    fun _ ht g _ => ht.onWithdrawQueued g
  unfold State.gateRound
  exact queued

theorem settleGates (h : s.Works) (n : Nat) : (s.settleGates n).Works := by
  induction n generalizing s with
  | zero => exact h
  | succ n ih =>
    unfold State.settleGates
    split
    · exact ih h.gateRound
    · exact h

theorem settle (h : s.Works) : s.settle.Works := by
  have edges := List.foldlRecOn (motive := State.Works) eyeIxs State.onEdgeAccepted h fun _ ht e _ => ht.onEdgeAccepted e
  have pulses := List.foldlRecOn (motive := State.Works) channelIxs State.onPulseRetired edges
    fun _ ht c _ => ht.onPulseRetired c
  have jams := List.foldlRecOn (motive := State.Works) eyeIxs State.onJam pulses fun _ ht e _ => ht.onJam e
  have ends := List.foldlRecOn (motive := State.Works) gateIxs State.onReleaseEnd (jams.settleTrain trainEventLimit)
    fun _ ht g _ => ht.onReleaseEnd g
  have patience := List.foldlRecOn (motive := State.Works) gateIxs State.onPatienceReached ends.beginSpacers
    fun _ ht g _ => ht.onPatienceReached g
  have expired : State.Works (State.settleExpiries _) := List.foldlRecOn (motive := State.Works) _ _ patience.voidReached
    fun _ ht r _ => ht.onReservationExpiry r.reserver r.gate
  have gates := expired.settleGates gateRoundLimit
  unfold State.settle
  exact onHoldQueued gates

theorem takeStep (h : s.Works) (i : TravelInput) (x : Bool × Bool) (reverse : Bool) : (s.takeStep i x reverse).Works := by
  have counted : (s.countStep i x reverse).Works := by cases i <;> exact h
  have eyes : ∀ (u : State) first inc, u.Works → (eyeIxs.foldl (fun s e => s.stepEye i first inc e) u).Works :=
    fun u first inc hu => List.foldlRecOn (motive := State.Works) _ _ hu fun _ ht e _ => ht.stepEye i first inc e
  unfold State.takeStep
  dsimp only
  split
  · exact counted
  · cases i with
    | a =>
      exact List.foldlRecOn (motive := State.Works) _ _ (eyes _ _ _ counted.payOutlet) fun _ ht g _ => ht.stepPatience _ g
    | b => exact eyes _ _ _ counted

theorem setTravel (h : s.Works) (i : TravelInput) (x : Travel) : (s.setTravel i x).Works := by
  cases i <;> exact h

theorem illegalStep (h : s.Works) (i : TravelInput) (x : Bool × Bool) : (s.illegalStep i x).Works :=
  ((h.setTravel ..).fault _).refresh

theorem onTravelSample (h : s.Works) (i : TravelInput) (x : Bool × Bool) : (s.onTravelSample i x).Works := by
  unfold State.onTravelSample
  dsimp only
  split
  · exact h
  · split
    · exact h.setTravel ..
    · split
      · exact h
      · exact h.illegalStep ..
      · exact (h.settle.takeStep ..).refresh

theorem onIllegalTransition (h : s.Works) (i : TravelInput) : (s.onIllegalTransition i).Works := by
  unfold State.onIllegalTransition
  split
  · split
    · exact h
    · exact h.illegalStep ..
  · exact h

end State.Works
end Sys2Proof.Machine
end

section
namespace Sys2Proof.Machine

variable {s t : State}

namespace State.Works

/-! ### O8: frames received and sent -/

theorem attemptEnded (h : s.Works) : s.attemptEnded.Works := by
  unfold State.attemptEnded
  split
  · exact h
  · split
    · exact h
    · split
      · split
        · exact h
        · exact h
      · split
        · exact h
        · exact h

theorem busy (h : s.Works) (b : Bool) : { s with busIdle := b }.Works := h

theorem sequenceCheck (h : s.Works) (w : WatchEntry) (q : Seq) (tag : Tag) : (s.sequenceCheck w q tag).Works := by
  have checked : ∀ f, (s.updateWatch w.address f).Works := fun _ => h
  unfold State.sequenceCheck
  split
  · exact h
  · dsimp only
    split
    · exact (checked _).fault _
    · exact checked _

theorem takeIn (h : s.Works) (r : Record) : (s.takeIn r).Works := by
  have added : (s.addRecord r).Works := h
  have late : ∀ f, State.Works (if r.flags.lateAnnounce then
      ((s.addRecord r).handToLots r.tag r.lot r.gate).recordFault f
      else (s.addRecord r).handToLots r.tag r.lot r.gate) := fun f => by
    split
    · exact (added.handToLots ..).fault _
    · exact added.handToLots ..
  unfold State.takeIn
  refine clearIfPassed (reckonIfPassed (missIfClosed ?_ _) _) _
  split
  · exact (late _).breakReservations r
  · exact late _

theorem testedAdmission (h : s.Works) (offset : Int) (tag : Tag) (lot : Lot) (lanes : Lanes) (r : Record) :
    (s.testedAdmission offset tag lot lanes r).Works := by
  unfold State.testedAdmission
  split
  · exact h
  · split
    · exact h.fault _
    · split
      · exact h.fault _
      · split
        · exact h
        · exact h.takeIn r

theorem takeRelease (h : s.Works) (a : Addr) (f : ReleaseFrame) : (s.takeRelease a f).Works := by
  unfold State.takeRelease
  split
  · exact h
  · dsimp only
    split
    · exact (h.sequenceCheck ..).testedAdmission ..
    · exact h.sequenceCheck ..

theorem takeHandoff (h : s.Works) (a : Addr) (f : HandoffFrame) : (s.takeHandoff a f).Works := by
  unfold State.takeHandoff
  split
  · exact h
  · dsimp only
    split
    · exact (h.sequenceCheck ..).testedAdmission ..
    · exact h.sequenceCheck ..

theorem takeLost (h : s.Works) (tag : Tag) : (s.takeLost tag).Works := by
  unfold State.takeLost
  split
  · split
    · exact h.removeRecord ..
    · exact h
  · exact h

theorem takeMark (h : s.Works) (tag : Tag) (m : Byte) : (s.takeMark tag m).Works := by
  unfold State.takeMark
  split
  · exact h.updateRecord ..
  · exact h

theorem takeHold (h : s.Works) (a : Addr) (on : Bool) (reason : BitVec 5) : (s.takeHold a on reason).Works := by
  unfold State.takeHold
  split
  · exact h
  · exact h

theorem takeReserve (h : s.Works) (a : Addr) (f : ReserveFrame) : (s.takeReserve a f).Works := by
  unfold State.takeReserve
  split
  · split
    · exact h.peerReserve ..
    · exact h
  · exact h

theorem takeWithdraw (h : s.Works) (a : Addr) (g : GateIx) : (s.takeWithdraw a g).Works := by
  unfold State.takeWithdraw
  split
  · split
    · exact h.dropPeer ..
    · exact h
  · exact h

theorem takeJoin (h : s.Works) (a : Addr) (role format : Byte) : (s.takeJoin a role format).Works := by
  unfold State.takeJoin
  split
  · exact h
  · dsimp only
    split
    · exact h
    · exact h

theorem handOn (h : s.Works) (a : Addr) (f : Frame) : (s.handOn a f).Works := by
  cases f with
  | hold on reason => exact h.takeHold a on reason
  | lost tag cause => exact h.takeLost tag
  | mark tag m => exact h.takeMark tag m
  | handoff f => exact h.takeHandoff a f
  | release f => exact h.takeRelease a f
  | reserve f => exact h.takeReserve a f
  | withdraw g => exact h.takeWithdraw a g
  | lotmark f => exact h.lotMarked a f
  | join role format => exact h.takeJoin a role format

theorem accept (h : s.Works) (a : Addr) (f : Frame) : (s.accept a f).Works := by
  have heard := h.attemptEnded.busy false
  have clashed : ∀ u : State, u.Works → { u with mode := .conflict, settling := none }.Works := fun _ hu => hu
  unfold State.accept
  dsimp only
  split
  · exact heard
  · split
    · exact ((clashed _ heard).fault _).refresh
    · exact (heard.handOn a f).refresh

theorem discardedFrame (h : s.Works) {bits : List Bool} (ht : execDiscardedFrame bits s = .next t) : t.Works := by
  unfold execDiscardedFrame at ht
  split at ht
  · obtain rfl := Host.Outcome.next.inj ht
    exact h.attemptEnded.busy false
  · obtain rfl := Host.Outcome.next.inj ht
    exact h.accept ..

theorem onBusIdle (h : s.Works) : s.onBusIdle.Works := by
  unfold State.onBusIdle
  split
  · exact h
  · exact h

theorem onTxAttemptStart (h : s.Works) : s.onTxAttemptStart.Works := by
  have started : ∀ u : State, u.Works → u.startAttempt.Works := fun u hu => by
    unfold State.startAttempt
    split
    · exact hu
    · exact hu
  unfold State.onTxAttemptStart
  split
  · exact started _ h.voidReached
  · exact h

theorem onArbitrationLost (h : s.Works) : s.onArbitrationLost.Works := by
  unfold State.onArbitrationLost
  split
  · exact (h.attemptEnded.busy false).refresh
  · exact h

/-- A LOTMARK handed back waits again, and the gate stays locked (R105, R181). -/
theorem handBack (h : s.Works) (f : Frame) : (s.handBack f).Works := by
  unfold State.handBack
  split
  · split
    · rename_i m _ x hx
      refine queueMarks (h.setGate fun ⟨hrelease, hempty, hready, hspacer, hmark⟩ =>
        ⟨hrelease, hempty, hready, hspacer, ?_⟩)
      have locked : (s.gate m.gate).lock = true := hmark.mpr (by simp [hx])
      simp [locked]
    · exact h
  · split
    · split
      · exact (h.dropOwn _).restartPatience _
      · exact h
    · exact h
  · split
    · exact h
    · exact h
  · split
    · exact h
    · exact h
  · exact h

theorem withQueue (h : s.Works) (q : List TxFrame) : { s with queue := q }.Works := h

theorem failAttempt (h : s.Works) : s.failAttempt.Works := by
  unfold State.failAttempt
  split
  · exact h
  · split
    · exact h.attemptEnded
    · split
      · exact ((h.withQueue _).fault _).handBack _
      · exact h.withQueue _

theorem onBusError (h : s.Works) : s.onBusError.Works := by
  unfold State.onBusError
  split
  · exact (h.failAttempt.busy false).refresh
  · exact h

theorem endJoining (h : s.Works) : s.endJoining.Works := by
  unfold State.endJoining
  split
  · split
    · exact h
    · exact h
  · exact h

theorem ownHeard (h : s.Works) (f : Frame) : (s.ownHeard f).Works := by
  have noted : ∀ x, { s with settling := x }.Works := fun _ => h
  unfold State.ownHeard
  split
  · exact h.takeLost _
  · exact h.takeMark ..
  · split
    · exact h.ownReserveHeard _
    · exact h
  · exact (h.lotMarked ..).ownLotmarkHeard _
  · exact (noted _).endJoining
  · exact h

theorem onTxComplete (h : s.Works) : s.onTxComplete.Works := by
  unfold State.onTxComplete
  split
  · exact h
  · split
    · exact h
    · have gone := (h.withQueue ‹_›).busy false
      dsimp only
      split
      · exact gone.refresh
      · exact (gone.ownHeard _).refresh

/-! ### O8: the control unit -/

/-- Power-on leaves every channel and gate at its reset value (R46, R111). -/
theorem powerOn (s : State) : s.powerOn.Works := by
  have channel : Channel.reset.Sound := by decide
  have gate : Gate.reset.Sound := by decide
  refine ⟨fun c => ?_, fun g => ?_⟩
  · have reset : s.powerOn.channel c = Channel.reset := by simp [State.channel, State.powerOn, State.reset]
    rw [reset]
    exact channel
  · have reset : s.powerOn.gate g = Gate.reset := by simp [State.gate, State.powerOn, State.reset]
    rw [reset]
    exact gate

theorem withMode (h : s.Works) (m : TrackerState) : { s with mode := m }.Works := h

theorem onStopAsserted (h : s.Works) : s.onStopAsserted.Works := by
  have pin : { s with stopPin := true }.Works := h
  unfold State.onStopAsserted
  dsimp only
  split
  · exact refresh (List.foldlRecOn (motive := State.Works) _ _ (pin.beginSpacers.withMode .stopped)
      fun _ ht g _ => ht.settleRelease g)
  · exact pin

theorem onStopReleased (h : s.Works) : s.onStopReleased.Works := by
  have settled : (State.settleMatching { s with stopPin := false }).Works := settleMatching (by exact h)
  unfold State.onStopReleased
  dsimp only
  split
  · generalize State.settleMatching { s with stopPin := false } = u at settled ⊢
    have running : ∀ l w f, { u with mode := .running, train := l, waiting := w, freshWindows := f }.Works :=
      fun _ _ _ => settled
    exact (running ..).refresh
  · exact h

theorem onSettleTimer (h : s.Works) : s.onSettleTimer.Works := by
  have noted : ∀ x, { s with settling := x }.Works := fun _ => h
  unfold State.onSettleTimer
  split
  · split
    · exact h
    · exact (noted _).endJoining.refresh
  · exact h

theorem respond (h : s.Works) (r : Result) (d : List MaskedByte) : (s.respond r d).Works := h

theorem answered (h : s.Works) (r : Result) (d : List MaskedByte := []) : (s.refresh.respond r d).Works :=
  h.refresh.respond r d

/-- A JOIN loads settings beside what stands in channels and gates (R33, R192). -/
theorem loadCommon (h : s.Works) : s.loadCommon.Works := by
  obtain ⟨hchannels, hgates⟩ := h
  refine ⟨fun c => ?_, fun g => ?_⟩
  · have loaded : s.loadCommon.channel c = (s.channel c).load (inputOf (s.store.val 12 c.val 1))
        (modeOf (s.store.val 12 c.val 2)) (s.store.ownerOf c) := by
      simp [State.channel, State.loadCommon]
    rw [loaded]
    exact hchannels c
  · have loaded : s.loadCommon.gate g = (s.gate g).load (s.store.gateSettings g) := by
      simp [State.gate, State.loadCommon]
    rw [loaded]
    exact hgates g

theorem loadRole (h : s.Works) : s.loadRole.Works := by
  unfold State.loadRole
  split
  · exact h
  · exact h
  · exact h

theorem enterJoining (h : s.Works) : s.enterJoining.Works := h

theorem onJoin (h : s.Works) : s.onJoin.Works := by
  have joined : s.joinLine.Works := by
    rw [joinLine_eq]
    exact h.loadCommon.loadRole.enterJoining.queueHold
  unfold State.onJoin
  split
  · exact h.respond ..
  · split
    · exact h.respond ..
    · exact joined.answered _

/-- LEAVE empties the channels and puts the gates at rest (R46, R111). -/
theorem swept (s u : State) : (s.swept u).Works := by
  refine ⟨fun c => ?_, fun g => ?_⟩
  · have left : (s.swept u).channel c = (s.channel c).leave := by simp [State.channel, State.swept]
    rw [left]
    exact (channel_sound_iff _).mpr ⟨fun _ => rfl, nofun, nofun⟩
  · have left : (s.swept u).gate g = (s.gate g).leave := by simp [State.gate, State.swept]
    have reset : Gate.reset.Sound := by decide
    rw [left]
    exact gate_sound_of_same reset ⟨rfl, rfl, rfl, rfl, rfl⟩

theorem onLeave (h : s.Works) : s.onLeave.Works := by
  have left : s.leaveLine.Works := by
    rw [leaveLine_eq]
    exact (swept s _).queueHold
  unfold State.onLeave
  split
  · exact h.respond ..
  · exact left.answered _

/-! ### O8: the port -/

theorem transactionCut (h : s.Works) (x : Cut) : (s.onTransactionCut x).Works := by
  cases x with
  | command => exact h
  | response => exact h

theorem unknownCommand (h : s.Works) (b : Byte) : (s.onUnknownCommand b).Works := by
  unfold State.onUnknownCommand
  split
  · exact h.respond ..
  · exact h

theorem descriptorWrite (h : s.Works) (i : ItemId) (v : BitVec 32) : (s.onDescriptorWrite i v).Works := by
  have stored : ∀ x : Store, { s with store := x }.Works := fun _ => h
  unfold State.onDescriptorWrite
  split
  · exact h.respond ..
  · split
    · exact h.respond ..
    · exact (stored _).respond ..

theorem descriptorRead (h : s.Works) (i : ItemId) : (s.onDescriptorRead i).Works := by
  unfold State.onDescriptorRead
  split <;> exact h.respond ..

theorem gateCommand (h : s.Works) (b : Byte) {take : GateIx → State} (ht : ∀ g, (take g).Works) :
    (s.gateCommand b take).Works := by
  unfold State.gateCommand
  split
  · exact h.respond ..
  · split
    · exact h.respond ..
    · exact ht _

/-- An EMPTY gate has no release, so that it is READY once it knows a class (R94, R100). -/
theorem loadGate (h : s.Works) (k : Byte) (g : GateIx) : (s.loadGate k g).Works := by
  unfold State.loadGate
  split
  · exact h.respond ..
  · split
    · rename_i he
      refine answered (h.setGate fun hg => ?_) _
      have idle : (s.gate g).release = none := by
        have := hg.1
        rw [he] at this
        simpa using this
      exact gate_sound_of_end hg ⟨rfl, rfl⟩ idle (.inr ⟨rfl, by simp⟩)
    · exact h.respond ..

/-- A READY gate has no release, so that it is EMPTY without its class (R94, R101). -/
theorem unloadGate (h : s.Works) (g : GateIx) : (s.unloadGate g).Works := by
  unfold State.unloadGate
  split
  · rename_i hr
    refine answered (applyPendingLot (withdraw (h.setGate fun hg => ?_) g) g) _
    have idle : (s.gate g).release = none := by
      have := hg.1
      rw [hr] at this
      simpa using this
    exact gate_sound_of_end hg ⟨rfl, rfl⟩ idle (.inl ⟨rfl, rfl⟩)
  · exact h.respond ..

theorem setHoldFlag (h : s.Works) (g : GateIx) : (s.setHoldFlag g).Works := by
  unfold State.setHoldFlag
  refine answered (h.sameWork ?_) _
  split <;> exact ⟨rfl, rfl, rfl, rfl, rfl⟩

theorem changeLot (h : s.Works) (x : Lot) (g : GateIx) : (s.changeLot x g).Works := by
  unfold State.changeLot
  dsimp only
  split
  · exact h.respond ..
  · split
    · exact h.respond ..
    · split
      · split
        · exact h.respond ..
        · exact (h.applyLotChange g x).answered _
      · exact h.respond ..
      · exact (h.sameWork (x := { s.gate g with lotPending := some x }) ⟨rfl, rfl, rfl, rfl, rfl⟩).respond ..

theorem rejectNextExit (h : s.Works) : s.rejectNextExit.Works := by
  have set : { s with exitRejectNext := true }.Works := h
  unfold State.rejectNextExit
  split
  · exact h.respond ..
  · split
    · exact set.respond ..
    · exact h.respond ..

theorem rejectTag (h : s.Works) (tag : Tag) : (s.onRejectTag tag).Works := by
  have marked : (s.markReject tag).Works := h
  unfold State.onRejectTag
  split
  · exact h.respond ..
  · exact (marked.offerOrDrop ..).answered _

theorem readTrain (h : s.Works) (b : Byte) : (s.onReadTrain b).Works := by
  unfold State.onReadTrain
  split
  · exact h.respond ..
  · split <;> exact h.respond ..

theorem readRecord (h : s.Works) (tag : Tag) : (s.onReadRecord tag).Works := by
  unfold State.onReadRecord
  split <;> exact h.respond ..

theorem readLot (h : s.Works) (b : Byte) : (s.onReadLot b).Works := by
  unfold State.onReadLot
  split
  · dsimp only
    split <;> exact h.respond ..
  · exact h.respond ..

theorem readLotNotice (h : s.Works) : s.onReadLotNotice.Works := by
  unfold State.onReadLotNotice
  split
  · exact h.respond ..
  · split
    · exact h.respond ..
    · exact (h.setLotSlot ..).refresh.respond ..

theorem withFaults (h : s.Works) (l : List FaultRecord) : { s with faults := l }.Works := h

theorem readFault (h : s.Works) : s.onReadFault.Works := by
  unfold State.onReadFault
  split
  · exact (h.withFaults _).refresh.respond ..
  · exact h.respond ..

end State.Works

/-! ### O8: one command -/

theorem exec_works {c : Instr} (h : s.Works) (ht : exec c s = .next t) : t.Works := by
  cases c with
  | powerOn => exact next_kept (P := State.Works) ht (State.Works.powerOn s)
  | join => exact next_kept (P := State.Works) ht h.onJoin
  | leave => exact next_kept (P := State.Works) ht h.onLeave
  | descriptorWrite i v => exact next_kept (P := State.Works) ht (h.descriptorWrite i v)
  | travelStep i x y => exact next_kept (P := State.Works) ht (h.onTravelSample i (x, y))
  | illegalTransition i => exact next_kept (P := State.Works) ht (h.onIllegalTransition i)
  | eyeRawChange e b => exact next_kept (P := State.Works) ht (h.onEyeRawChange e b)
  | edgeAccepted e => exact next_kept (P := State.Works) ht (h.onEdgeAccepted e)
  | jam e => exact next_kept (P := State.Works) ht (h.onJam e)
  | pulseRetired c => exact next_kept (P := State.Works) ht (h.onPulseRetired c)
  | windowClosure tag => exact next_kept (P := State.Works) ht (h.dueEvent .closure tag)
  | deadReckoning tag => exact next_kept (P := State.Works) ht (h.dueEvent .reckoning tag)
  | cleared tag => exact next_kept (P := State.Works) ht (h.dueEvent .clearance tag)
  | departed tag => exact next_kept (P := State.Works) ht (h.dueEvent .departure tag)
  | release a f => exact next_kept (P := State.Works) ht (h.accept a (.release f))
  | handoff a f => exact next_kept (P := State.Works) ht (h.accept a (.handoff f))
  | lost a tag x => exact next_kept (P := State.Works) ht (h.accept a (.lost tag x))
  | mark a tag m => exact next_kept (P := State.Works) ht (h.accept a (.mark tag m))
  | hold a on x => exact next_kept (P := State.Works) ht (h.accept a (.hold on x))
  | reserve a f => exact next_kept (P := State.Works) ht (h.accept a (.reserve f))
  | withdraw a g => exact next_kept (P := State.Works) ht (h.accept a (.withdraw g))
  | lotmark a f => exact next_kept (P := State.Works) ht (h.accept a (.lotmark f))
  | joinFrame a x y => exact next_kept (P := State.Works) ht (h.accept a (.join x y))
  | discardedFrame bits => exact h.discardedFrame ht
  | busIdle => exact next_kept (P := State.Works) ht h.onBusIdle
  | txAttemptStart => exact next_kept (P := State.Works) ht h.onTxAttemptStart
  | arbitrationLost => exact next_kept (P := State.Works) ht h.onArbitrationLost
  | busError => exact next_kept (P := State.Works) ht h.onBusError
  | txComplete => exact next_kept (P := State.Works) ht h.onTxComplete
  | lotmarkQueued g => exact next_kept (P := State.Works) ht (h.onLotmarkQueued g)
  | withdrawQueued g => exact next_kept (P := State.Works) ht (h.onWithdrawQueued g)
  | holdQueued => exact next_kept (P := State.Works) ht h.onHoldQueued
  | gateCommit g => exact next_kept (P := State.Works) ht (h.onGateCommit g)
  | spacerCommit g => exact next_kept (P := State.Works) ht (h.onSpacerCommit g)
  | spacerBegun g => exact next_kept (P := State.Works) ht (h.onSpacerBegun g)
  | releaseEnd g => exact next_kept (P := State.Works) ht (h.onReleaseEnd g)
  | patienceReached g => exact next_kept (P := State.Works) ht (h.onPatienceReached g)
  | reservationSent g => exact next_kept (P := State.Works) ht (h.onReservationSent g)
  | reservationVoid g => exact next_kept (P := State.Works) ht (h.onReservationVoid g)
  | reservationWithdrawn g => exact next_kept (P := State.Works) ht (h.onReservationWithdrawn g)
  | reservationExpiry a g => exact next_kept (P := State.Works) ht (h.onReservationExpiry a g)
  | stopAsserted => exact next_kept (P := State.Works) ht h.onStopAsserted
  | stopReleased => exact next_kept (P := State.Works) ht h.onStopReleased
  | settleTimerExpiry => exact next_kept (P := State.Works) ht h.onSettleTimer
  | transactionCut x => exact next_kept (P := State.Works) ht (h.transactionCut x)
  | unknownCommand b => exact next_kept (P := State.Works) ht (h.unknownCommand b)
  | descriptorRead i => exact next_kept (P := State.Works) ht (h.descriptorRead i)
  | load b k => exact next_kept (P := State.Works) ht (h.gateCommand b (h.loadGate k))
  | unload b => exact next_kept (P := State.Works) ht (h.gateCommand b h.unloadGate)
  | holdSet b => exact next_kept (P := State.Works) ht (h.gateCommand b h.setHoldFlag)
  | holdClear b =>
    exact next_kept (P := State.Works) ht (h.gateCommand b fun g =>
      (h.sameWork (x := { s.gate g with hold := false, holdPending := false }) ⟨rfl, rfl, rfl, rfl, rfl⟩).answered _)
  | blockSet b =>
    exact next_kept (P := State.Works) ht (h.gateCommand b fun g =>
      (h.sameWork (x := { s.gate g with block := true }) ⟨rfl, rfl, rfl, rfl, rfl⟩).answered _)
  | blockClear b =>
    exact next_kept (P := State.Works) ht (h.gateCommand b fun g =>
      (h.sameWork (x := { s.gate g with block := false }) ⟨rfl, rfl, rfl, rfl, rfl⟩).answered _)
  | lotChange b x => exact next_kept (P := State.Works) ht (h.gateCommand b (h.changeLot x))
  | gapRequest b =>
    exact next_kept (P := State.Works) ht (h.gateCommand b fun g =>
      (h.sameWork (x := { s.gate g with gapRequest := true }) ⟨rfl, rfl, rfl, rfl, rfl⟩).respond ..)
  | rejectNext b =>
    refine next_kept (P := State.Works) ht ?_
    split
    · exact h.rejectNextExit
    · exact h.gateCommand b fun g =>
        (h.sameWork (x := { s.gate g with rejectNext := true }) ⟨rfl, rfl, rfl, rfl, rfl⟩).respond ..
  | rejectTag tag => exact next_kept (P := State.Works) ht (h.rejectTag tag)
  | lineHoldSet => exact next_kept (P := State.Works) ht (State.Works.answered (by exact h) _)
  | lineHoldClear => exact next_kept (P := State.Works) ht (State.Works.answered (by exact h) _)
  | wrapAck => exact next_kept (P := State.Works) ht (State.Works.answered (by exact h) _)
  | setAlertMask m => exact next_kept (P := State.Works) ht (State.Works.answered (by exact h) _)
  | readStatus => exact next_kept (P := State.Works) ht (h.respond ..)
  | readTrain b => exact next_kept (P := State.Works) ht (h.readTrain b)
  | readRecord tag => exact next_kept (P := State.Works) ht (h.readRecord tag)
  | readFault => exact next_kept (P := State.Works) ht h.readFault
  | clearFaults => exact next_kept (P := State.Works) ht (State.Works.answered (by exact h) _)
  | readLot b => exact next_kept (P := State.Works) ht (h.readLot b)
  | readLotNotice => exact next_kept (P := State.Works) ht h.readLotNotice
  | readTravel => exact next_kept (P := State.Works) ht (h.respond ..)

/-- Settles O8: every operation on channels and gates keeps them sound, and so does every command. -/
theorem channelsAndGatesSoundEveryStep : Obligations.ChannelsAndGatesSoundEveryStep := by
  unfold Obligations.ChannelsAndGatesSoundEveryStep
  intro s t hchannels hgates ht
  have works : s.Works := ⟨hchannels, hgates⟩
  obtain ⟨-, rfl⟩ | ⟨c, rest, -, hc⟩ := step_cases ht
  · exact works
  · have waiting : { s with pending := rest }.Works := works
    exact exec_works waiting hc

end Sys2Proof.Machine
end

section
namespace Sys2Proof.Machine

/-! ### O26: retirement of a pulse (R35, R43) -/

section
variable {s : State} {c : ChannelIx}

/-- Where one channel alone has changed, what follows the event takes its output afresh and leaves all else. -/
theorem refresh_setChannel (h : s.PinsFollow) (x : Channel) : (s.setChannel c x).refresh = s.setChannel c (s.shown x) := by
  obtain ⟨hshown, halert, hres⟩ := h
  have outputs : (s.setChannel c x).outputsAfresh = s.setChannel c (s.shown x) := by
    have channels : (s.setChannel c x).outputsAfresh.channels = (s.setChannel c (s.shown x)).channels := by
      refine Vector.ext fun k hk => ?_
      have shown : (s.setChannel c x).outputsAfresh.channel ⟨k, hk⟩ = s.shown ((s.setChannel c x).channel ⟨k, hk⟩) :=
        outputsAfresh_channel ..
      by_cases hkc : (⟨k, hk⟩ : ChannelIx) = c
      · subst hkc
        rw [setChannel_channel] at shown
        exact shown.trans (setChannel_channel ..).symm
      · rw [setChannel_channel_ne _ _ hkc, ← hshown] at shown
        exact shown.trans (setChannel_channel_ne _ _ hkc).symm
    rw [outputsAfresh_frame, channels]
    rfl
  rw [refresh_unwithdrawn (s.setChannel c x) hres, outputs]
  exact alertAfresh_follows _ halert

/-- One retirement: ACTIVE takes the NEXT pulse where its end is reached. -/
theorem retireOne_setChannel (x : Channel) : (s.setChannel c x).retireOne c =
    if s.ended x then s.setChannel c { x with active := x.next, next := none } else s.setChannel c x := by
  have due : (s.setChannel c x).retirementDue c = s.ended x := by
    rw [State.retirementDue, setChannel_channel]
    rfl
  rw [State.retireOne, due, setChannel_channel]
  simp [State.setChannel]

/-- An empty channel is shown with its output inactive. -/
theorem shown_empty (x : Channel) : s.shown { x with active := none, next := none } =
    { x with active := none, next := none, output := false } := by
  simp [State.shown, State.ended, Channel.afresh, pulseDrives]

/-- Settles O26: ACTIVE is retired once, or twice where the step has passed NEXT's end too, and then the output follows. -/
theorem pulseRetiresAtItsEnd : Obligations.PulseRetiresAtItsEnd := by
  unfold Obligations.PulseRetiresAtItsEnd
  intro s c a hp hj ha hreached
  have due : s.ended (s.channel c) = true := by simp [State.ended, hj, ha, hreached]
  have promoted : s.ended { s.channel c with active := (s.channel c).next, next := none } =
      (s.channel c).next.any fun n => s.reached (s.channel c).input n.stop := by
    cases hn : (s.channel c).next <;> simp [State.ended, hj]
  have retired : s.retirePulses c = s.setChannel c (
      if (s.channel c).next.any (fun n => s.reached (s.channel c).input n.stop) = true then
        { s.channel c with active := none, next := none }
      else { s.channel c with active := (s.channel c).next, next := none }) := by
    have first := retireOne_setChannel (s := s) (c := c) (s.channel c)
    rw [setChannel_self, due, if_pos rfl] at first
    rw [State.retirePulses, first, retireOne_setChannel, promoted]
    split <;> rfl
  have event : s.onPulseRetired c = (s.retirePulses c).refresh := if_pos due
  rw [exec, execPulseRetired, event, retired, refresh_setChannel hp]
  split
  · rw [shown_empty]
  · rename_i hnext
    rw [State.shown, promoted, Bool.eq_false_of_not_eq_true hnext]

end
end Sys2Proof.Machine
end

section
namespace Sys2Proof.Machine

/-! ### O27: what a channel's operations answer (R36 to R42) -/

theorem touches_iff (q : Pulse) (s e : Pos) : q.touches s e = true ↔ diff s q.stop ≤ 0 ∧ diff q.start e ≤ 0 := by
  rw [Pulse.touches, Bool.and_eq_true, decide_eq_true_eq, decide_eq_true_eq]

/-- The new tag is the last of the references kept (R40). -/
theorem keepRefs_getLast? (l : List Tag) (tag : Tag) : (keepRefs (l ++ [tag])).getLast? = some tag := by
  have one : ¬(l ++ [tag]).length ≤ (l ++ [tag]).length - Config.refCapacity := by simp [Config.refCapacity]
  rw [keepRefs, List.getLast?_drop, if_neg one, List.getLast?_concat]

/-- Four references or fewer are all kept (R40). -/
theorem keepRefs_of_sound {q : Pulse} (h : q.Sound) : keepRefs q.refs = q.refs := by
  rw [keepRefs, Nat.sub_eq_zero_of_le h, List.drop_zero]

theorem request_empty {now s e : Pos} (c : Channel) (ref : Option Tag) (h : diff e s ≤ 0) :
    c.request now s e ref = (c, .placed none) := if_pos h

theorem request_passed {now s e : Pos} (c : Channel) (ref : Option Tag) (h : 0 < diff e s) (hp : 0 ≤ diff now e) :
    c.request now s e ref = (c, .tooLate) := by
  rw [Channel.request, if_neg (Int.not_le.mpr h), if_pos hp]

/-- A request neither empty nor passed is placed, a late one from the current position on (R36). -/
theorem request_taken {now s e : Pos} (c : Channel) (ref : Option Tag) (h : 0 < diff e s) (hp : diff now e < 0) :
    c.request now s e ref =
      c.place (decide (0 < diff now s)) (if decide (0 < diff now s) = true then now else s) e ref := by
  rw [Channel.request, if_neg (Int.not_le.mpr h), if_neg (Int.not_le.mpr hp)]
  by_cases hl : 0 < diff now s <;> simp [hl]

section
variable {c : Channel} {a n : Pulse} {late : Bool} {s e : Pos} {ref : Option Tag} {tag : Tag} {y : Pos}

/-! #### Where a span is placed (R37 to R39) -/

theorem place_empty (ha : c.active = none) : c.place late s e ref =
    ({ c with active := some (Pulse.fresh s e ref) }, takenAnswer late false .active (Pulse.fresh s e ref)) := by
  rw [Channel.place, ha]

theorem place_before (ha : c.active = some a) (ht : a.touches s e = false) (hb : 0 < diff a.start e) :
    c.place late s e ref = if c.next.isNone then
        ({ c with active := some (Pulse.fresh s e ref), next := some a },
          takenAnswer late false .active (Pulse.fresh s e ref))
      else (c, .busy) := by
  cases hn : c.next <;> simp [Channel.place, ha, ht, hb, hn]

theorem place_touching (ha : c.active = some a) (ht : a.touches s e = true) :
    c.place late s e ref = c.placeTouching a late s e ref := by
  simp [Channel.place, ha, ht]

theorem place_after (ha : c.active = some a) (ht : a.touches s e = false) (hb : diff a.start e ≤ 0) :
    c.place late s e ref = c.placeAfter late s e ref := by
  simp [Channel.place, ha, ht, Int.not_lt.mpr hb]

theorem placeNext_eq : c.placeNext late s e ref = if c.next.isNone then
    ({ c with next := some (Pulse.fresh s e ref) }, takenAnswer late false .next (Pulse.fresh s e ref))
    else (c, .busy) := by
  cases hn : c.next <;> simp [Channel.placeNext, hn]

theorem placeTouching_distinct (hm : c.mode = .distinct) :
    c.placeTouching a late s e ref = c.placeNext late (a.stop + 1) (a.stop + 1 + (e - s)) ref := by
  rw [Channel.placeTouching, hm]

/-- A span merged into ACTIVE that then reaches no NEXT pulse (R38). -/
theorem placeTouching_merge (hm : c.mode = .merge)
    (hn : ∀ q ∈ c.next, q.touches (a.absorb s e ref).start (a.absorb s e ref).stop = false) :
    c.placeTouching a late s e ref =
      ({ c with active := some (a.absorb s e ref) }, takenAnswer late true .active (a.absorb s e ref)) := by
  have apart : ∀ q ∈ c.next, q.touches (a.absorb s e none).start (a.absorb s e none).stop = false := hn
  cases hnext : c.next with
  | none => simp [Channel.placeTouching, hm, hnext]
  | some q => simp [Channel.placeTouching, hm, hnext, apart q hnext]

/-- A span merged into ACTIVE that then touches NEXT joins the two (R38, R40). -/
theorem placeTouching_join (hm : c.mode = .merge) (hn : c.next = some n)
    (ht : n.touches (a.absorb s e ref).start (a.absorb s e ref).stop = true) :
    c.placeTouching a late s e ref =
      ({ c with active := some ((a.absorb s e none).joinNext n ref), next := none },
        takenAnswer late true .active ((a.absorb s e none).joinNext n ref)) := by
  have joins : n.touches (a.absorb s e none).start (a.absorb s e none).stop = true := ht
  simp [Channel.placeTouching, hm, hn, joins]

theorem placeAfter_empty (hn : c.next = none) : c.placeAfter late s e ref =
    ({ c with next := some (Pulse.fresh s e ref) }, takenAnswer late false .next (Pulse.fresh s e ref)) := by
  cases hm : c.mode <;> simp [Channel.placeAfter, hm, hn, placeNext_eq]

theorem placeAfter_behind (hn : c.next = some n) : c.placeAfter late s e ref =
    if c.mode = .merge ∧ diff s n.stop ≤ 0 ∧ diff n.start e ≤ 0 then
      ({ c with next := some (n.absorb s e ref) }, takenAnswer late true .next (n.absorb s e ref))
    else (c, .busy) := by
  cases hm : c.mode <;> simp [Channel.placeAfter, hm, hn, placeNext_eq, touches_iff]

/-! #### What is answered (R36) -/

/-- BUSY changes nothing and finds NEXT taken; every other answer names the slot that now holds the span, the tag last. -/
def Channel.AnswersSpan (c : Channel) (late : Bool) (tag : Tag) (asked : Channel × Answer) : Prop :=
  asked = (c, .busy) ∧ c.next ≠ none ∨
    ∃ merged slot q, asked.2 = takenAnswer late merged slot q ∧ asked.1.slot slot = some q ∧ q.refs.getLast? = some tag

theorem absorb_getLast? (q : Pulse) (s e : Pos) (tag : Tag) : (q.absorb s e (some tag)).refs.getLast? = some tag :=
  keepRefs_getLast? q.refs tag

theorem joinNext_getLast? (q n : Pulse) (tag : Tag) : (q.joinNext n (some tag)).refs.getLast? = some tag :=
  keepRefs_getLast? (q.refs ++ n.refs) tag

theorem placeNext_answers : c.AnswersSpan late tag (c.placeNext late s e (some tag)) := by
  rw [placeNext_eq]
  cases hn : c.next with
  | none => exact .inr ⟨false, .next, _, rfl, rfl, rfl⟩
  | some n => exact .inl ⟨rfl, by simp [hn]⟩

theorem placeTouching_answers : c.AnswersSpan late tag (c.placeTouching a late s e (some tag)) := by
  cases hm : c.mode with
  | distinct =>
    rw [placeTouching_distinct hm]
    exact placeNext_answers
  | merge =>
    by_cases apart : ∀ q ∈ c.next, q.touches (a.absorb s e (some tag)).start (a.absorb s e (some tag)).stop = false
    · rw [placeTouching_merge hm apart]
      exact .inr ⟨true, .active, _, rfl, rfl, absorb_getLast? ..⟩
    · push Not at apart
      obtain ⟨n, hn, ht⟩ := apart
      rw [placeTouching_join hm hn (Bool.eq_true_of_not_eq_false ht)]
      exact .inr ⟨true, .active, _, rfl, rfl, joinNext_getLast? ..⟩

theorem placeAfter_answers : c.AnswersSpan late tag (c.placeAfter late s e (some tag)) := by
  cases hn : c.next with
  | none =>
    rw [placeAfter_empty hn]
    exact .inr ⟨false, .next, _, rfl, rfl, rfl⟩
  | some n =>
    rw [placeAfter_behind hn]
    split
    · exact .inr ⟨true, .next, _, rfl, rfl, absorb_getLast? ..⟩
    · exact .inl ⟨rfl, by simp [hn]⟩

theorem place_answers : c.AnswersSpan late tag (c.place late s e (some tag)) := by
  cases ha : c.active with
  | none =>
    rw [place_empty ha]
    exact .inr ⟨false, .active, _, rfl, rfl, rfl⟩
  | some a =>
    cases ht : a.touches s e with
    | true =>
      rw [place_touching ha ht]
      exact placeTouching_answers
    | false =>
      by_cases hb : 0 < diff a.start e
      · rw [place_before ha ht hb]
        cases hn : c.next with
        | none => exact .inr ⟨false, .active, _, rfl, rfl, rfl⟩
        | some n => exact .inl ⟨rfl, by simp [hn]⟩
      · rw [place_after ha ht (Int.not_lt.mp hb)]
        exact placeAfter_answers

/-! #### Extension and abort (R41, R42) -/

/-- A tag that neither slot holds is GONE. -/
theorem operations_gone (h1 : ∀ q, c.active = some q → tag ∉ q.refs) (h2 : ∀ q, c.next = some q → tag ∉ q.refs) :
    c.extend tag y = (c, .gone) ∧ c.abort tag = (c, .gone) := by
  cases ha : c.active with
  | none => simp [Channel.extend, Channel.abort, ha]
  | some a =>
    cases hn : c.next with
    | none => simp [Channel.extend, Channel.abort, ha, hn, h1 a ha]
    | some n => simp [Channel.extend, Channel.abort, ha, hn, h1 a ha, h2 n hn]

theorem abort_active (ha : c.active = some a) (h : tag ∈ a.refs) :
    c.abort tag = ({ c with active := c.next, next := none }, .aborted a.started) := by
  simp [Channel.abort, ha, h]

theorem abort_next (ha : c.active = some a) (hn : c.next = some n) (h1 : tag ∉ a.refs) (h2 : tag ∈ n.refs) :
    c.abort tag = ({ c with next := none }, .aborted n.started) := by
  simp [Channel.abort, ha, hn, h1, h2]

theorem extend_next (ha : c.active = some a) (hn : c.next = some n) (h1 : tag ∉ a.refs) (h2 : tag ∈ n.refs) :
    c.extend tag y =
      if diff y n.stop ≤ 0 then (c, .unchanged) else ({ c with next := some { n with stop := y } }, .extended) := by
  simp [Channel.extend, ha, hn, h1, h2]

/-- An extension never shortens (R41). -/
theorem extend_active_shorter (ha : c.active = some a) (h : tag ∈ a.refs) (hy : diff y a.stop ≤ 0) :
    c.extend tag y = (c, .unchanged) := by
  simp [Channel.extend, ha, h, hy]

theorem extend_active_alone (ha : c.active = some a) (h : tag ∈ a.refs) (hy : 0 < diff y a.stop) (hn : c.next = none) :
    c.extend tag y = ({ c with active := some { a with stop := y } }, .extended) := by
  simp [Channel.extend, ha, h, Int.not_le.mpr hy, hn]

theorem extend_active_distinct (ha : c.active = some a) (h : tag ∈ a.refs) (hy : 0 < diff y a.stop)
    (hn : c.next = some n) (hm : c.mode = .distinct) : c.extend tag y =
      if 0 ≤ diff y n.start then ({ c with active := some { a with stop := n.start - 1 } }, .limited)
      else ({ c with active := some { a with stop := y } }, .extended) := by
  simp [Channel.extend, ha, h, Int.not_le.mpr hy, hn, hm]

theorem extend_active_merge (ha : c.active = some a) (h : tag ∈ a.refs) (hy : 0 < diff y a.stop)
    (hn : c.next = some n) (hm : c.mode = .merge) : c.extend tag y =
      if diff a.start n.stop ≤ 0 ∧ diff n.start y ≤ 0 then
        ({ c with active := some ({ a with stop := y }.joinNext n none), next := none }, .extended)
      else ({ c with active := some { a with stop := y } }, .extended) := by
  simp [Channel.extend, ha, h, Int.not_le.mpr hy, hn, hm, touches_iff]

/-! #### The obligation -/

theorem touches_eq_false (q : Pulse) (h : ¬(diff s q.stop ≤ 0 ∧ diff q.start e ≤ 0)) : q.touches s e = false :=
  Bool.eq_false_of_not_eq_true fun ht => h ((touches_iff q s e).mp ht)

/-- Settles O27, clause by clause: how a request is placed, what it answers, and how extension and abort answer. -/
theorem channelOperationsAnswer : Obligations.ChannelOperationsAnswer := by
  unfold Obligations.ChannelOperationsAnswer
  intro c now from_ to_ tag y a n hc
  refine ⟨request_empty c _, request_passed c _, fun hspan htaken => ?_, fun ha h1 h2 => ?_, fun ha h => ?_,
    fun ha hn h1 h2 => ⟨abort_next ha hn h1 h2, extend_next ha hn h1 h2⟩⟩
  · rw [request_taken c (some tag) hspan htaken]
    generalize decide (0 < diff now from_) = late
    dsimp only
    generalize (if late = true then now else from_) = start
    refine ⟨?_, place_empty, fun ha ht hb => place_before ha (touches_eq_false a ht) hb, fun ha ht hm => ?_,
      fun ha ht hm => ⟨fun apart => ?_, fun hn ht' => ?_⟩,
      fun ha ht hb => ⟨fun hn => ?_, fun hn => ?_⟩⟩
    · obtain ⟨busy, hnext⟩ | ⟨merged, slot, q, answer, hslot, hlast⟩ :=
        place_answers (c := c) (late := late) (s := start) (e := to_) (tag := tag)
      · rw [busy]
        exact ⟨rfl, hnext⟩
      · rw [answer]
        cases late <;> cases merged <;> simp [takenAnswer, hslot, hlast]
    · rw [place_touching ha ((touches_iff ..).mpr ht), placeTouching_distinct hm]
      exact placeNext_eq
    · rw [place_touching ha ((touches_iff ..).mpr ht)]
      exact placeTouching_merge hm fun q hq => touches_eq_false q (apart q hq)
    · rw [place_touching ha ((touches_iff ..).mpr ht), placeTouching_join hm hn ((touches_iff ..).mpr ht')]
      have refs : (a.absorb start to_ none).refs = a.refs := by
        simpa [Pulse.absorb, refList] using keepRefs_of_sound (active_sound hc a ha)
      rw [Pulse.joinNext, refs]
      rfl
    · rw [place_after ha (touches_eq_false a ht) hb]
      exact placeAfter_empty hn
    · rw [place_after ha (touches_eq_false a ht) hb, placeAfter_behind hn]
      rfl
  · exact operations_gone (fun q hq => Option.some.inj (ha.symm.trans hq) ▸ h1) h2
  · refine ⟨abort_active ha h, extend_active_shorter ha h, extend_active_alone ha h,
      extend_active_distinct ha h, fun hy hn hm => ?_⟩
    rw [extend_active_merge ha h hy hn hm, Pulse.joinNext, refList, List.append_nil]
    rfl

end
end Sys2Proof.Machine
end

section
namespace Sys2Proof.Machine

/-! ### O49: what the settling of a release looks at and leaves (R99, R105, R109, R110) -/

variable {s t : State} {g k : GateIx}

/-! #### A gate beside its mark -/

/-- A gate beside its lock, mark and pending WITHDRAW, which lot changes and suspension move on their own. -/
def Gate.core (x : Gate) : Gate := { x with lock := false, mark := .none, withdrawPending := false }

/-- A gate whose pending lot change, if any, has been applied (R105). -/
def Gate.lotApplied (x : Gate) : Gate :=
  { x with
    lot := if x.lotPending.isSome then x.lotPending else x.lot
    lastRelease := if x.lotPending.isSome then none else x.lastRelease
    lotPending := none }

/-- The cores of all gates of t are those of s. -/
def State.SameCores (s t : State) : Prop := ∀ k, (t.gate k).core = (s.gate k).core

theorem State.SameCores.trans {u : State} (h : s.SameCores t) (h' : t.SameCores u) : s.SameCores u :=
  fun k => (h' k).trans (h k)

theorem sameCores_of_gates (h : t.gates = s.gates) : s.SameCores t := fun k => by rw [State.gate, h, State.gate]

theorem sameCores_setGate {x : Gate} (hx : x.core = (s.gate g).core) : s.SameCores (s.setGate g x) := fun k => by
  by_cases hk : k = g
  · subst hk
    rw [setGate_gate, hx]
  · rw [setGate_gate_ne _ _ hk]

theorem queueMark_sameCores (s : State) (g : GateIx) : s.SameCores (s.queueMark g) := by
  unfold State.queueMark
  split
  · rename_i m hm
    obtain ⟨-, ho⟩ | ⟨-, ho⟩ := offer_cases s (s.markFrame g m) 0 <;> rw [ho]
    · exact sameCores_setGate (s := s.push (s.markFrame g m) 0) rfl
    · exact fun _ => rfl
  · exact fun _ => rfl

theorem queueMarks_sameCores (s : State) : s.SameCores s.queueMarks :=
  List.foldlRecOn (motive := s.SameCores) _ _ (fun _ => rfl) fun u hu g _ => hu.trans (queueMark_sameCores u g)

theorem refresh_sameCores (s : State) : s.SameCores s.refresh := fun k => by
  rw [refresh_pendingApart s k]
  rfl

theorem applyLotChange_sameCores (s : State) (g : GateIx) (n : Lot) :
    (s.setGate g { s.gate g with lot := some n, lastRelease := none }).SameCores (s.applyLotChange g n) := by
  refine State.SameCores.trans ?_ (queueMarks_sameCores _)
  intro k
  by_cases hk : k = g
  · subst hk
    rw [setGate_gate, setGate_gate]
    rfl
  · rw [setGate_gate_ne _ _ hk, setGate_gate_ne _ _ hk]

/-- A pending lot change changes, beside marks, lot and last release of its own gate alone (R105). -/
theorem applyPendingLot_sameCores (s : State) (g : GateIx) :
    (s.setGate g (s.gate g).lotApplied).SameCores (s.applyPendingLot g) := by
  unfold State.applyPendingLot Gate.lotApplied
  cases hp : (s.gate g).lotPending with
  | none =>
    refine sameCores_of_gates ?_
    have same : { s.gate g with lot := (s.gate g).lot, lastRelease := (s.gate g).lastRelease, lotPending := none } =
        s.gate g := by rw [← hp]
    exact (congrArg State.gates ((congrArg (s.setGate g) same).trans (setGate_self s g))).symm
  | some n =>
    have changed := applyLotChange_sameCores (s.setGate g { s.gate g with lotPending := none }) g n
    rw [setGate_gate] at changed
    refine State.SameCores.trans (fun k => ?_) changed
    by_cases hk : k = g
    · subst hk
      rw [setGate_gate, setGate_gate]
      rfl
    · rw [setGate_gate_ne _ _ hk, setGate_gate_ne _ _ hk, setGate_gate_ne _ _ hk]

/-! #### The state beside what the settling of a release changes -/

/-- The state beside what a settled release and what follows it change. -/
def State.besideSettling (s : State) : State :=
  { s.besideLots.besideRefresh with train := [], trainCause := false, waiting := [], freshWindows := [] }

theorem besideSettling_frame (h : t.besideSettling = s.besideSettling) : t = { s with
    train := t.train, trainCause := t.trainCause, waiting := t.waiting, freshWindows := t.freshWindows, lots := t.lots
    closureList := t.closureList, dests := t.dests, channels := t.channels, queue := t.queue, faults := t.faults
    overflow := t.overflow, gates := t.gates, reservations := t.reservations, alertPin := t.alertPin } :=
  congrArg (fun u : State => { u with
    train := t.train, trainCause := t.trainCause, waiting := t.waiting, freshWindows := t.freshWindows, lots := t.lots
    closureList := t.closureList, dests := t.dests, channels := t.channels, queue := t.queue, faults := t.faults
    overflow := t.overflow, gates := t.gates, reservations := t.reservations, alertPin := t.alertPin }) h

theorem besideSettling_of_besideLots (h : t.besideLots = s.besideLots) : t.besideSettling = s.besideSettling :=
  congrArg (fun u : State => { u.besideRefresh with train := [], trainCause := false, waiting := [], freshWindows := [] }) h

theorem besideSettling_of_besideRefresh (h : t.besideRefresh = s.besideRefresh) : t.besideSettling = s.besideSettling :=
  congrArg (fun u : State =>
    { u.besideLots.besideRefresh with train := [], trainCause := false, waiting := [], freshWindows := [] }) h

theorem refresh_besideSettling (s : State) : s.refresh.besideSettling = s.besideSettling :=
  besideSettling_of_besideRefresh (refresh_besideRefresh s)

theorem recordFault_besideSettling (s : State) (f : FaultRecord) : (s.recordFault f).besideSettling = s.besideSettling :=
  besideSettling_of_besideLots (recordFault_besideLots s f)

theorem pos_of_besideSettling (h : t.besideSettling = s.besideSettling) : t.pos = s.pos := by
  rw [besideSettling_frame h]
  rfl

/-! #### A pending lot change beside the gates: frames are queued and nothing else moves -/

/-- From s to t frames have been queued behind those there, and gates have changed. -/
structure State.OnlyQueues (s t : State) : Prop where
  beside : t = { s with gates := t.gates, queue := t.queue }
  queue : ∀ q ∈ s.queue, q ∈ t.queue

theorem State.OnlyQueues.trans {u : State} (h : s.OnlyQueues t) (h' : t.OnlyQueues u) : s.OnlyQueues u where
  beside := h'.beside.trans (congrArg (fun v : State => { v with gates := u.gates, queue := u.queue }) h.beside)
  queue q hq := h'.queue q (h.queue q hq)

theorem onlyQueues_setGate (s : State) (g : GateIx) (x : Gate) : s.OnlyQueues (s.setGate g x) := ⟨rfl, fun _ => id⟩

theorem queueMark_onlyQueues (s : State) (g : GateIx) : s.OnlyQueues (s.queueMark g) := by
  unfold State.queueMark
  split
  · rename_i m hm
    obtain ⟨-, ho⟩ | ⟨-, ho⟩ := offer_cases s (s.markFrame g m) 0 <;> rw [ho]
    · exact ⟨rfl, fun q hq => List.mem_append_left _ hq⟩
    · exact ⟨rfl, fun _ => id⟩
  · exact ⟨rfl, fun _ => id⟩

theorem queueMarks_onlyQueues (s : State) : s.OnlyQueues s.queueMarks :=
  List.foldlRecOn (motive := s.OnlyQueues) _ _ ⟨rfl, fun _ => id⟩ fun u hu g _ => hu.trans (queueMark_onlyQueues u g)

theorem applyPendingLot_onlyQueues (s : State) (g : GateIx) : s.OnlyQueues (s.applyPendingLot g) := by
  unfold State.applyPendingLot State.applyLotChange
  split
  · exact (onlyQueues_setGate ..).trans ((onlyQueues_setGate ..).trans (queueMarks_onlyQueues _))
  · exact ⟨rfl, fun _ => id⟩

namespace State.OnlyQueues

variable (h : s.OnlyQueues t)
include h

theorem besideSettling : t.besideSettling = s.besideSettling := by
  rw [h.beside]
  rfl

theorem train : t.train = s.train := by rw [h.beside]

theorem faults : t.faults = s.faults := by rw [h.beside]

theorem records {f : FaultRecord} (hf : s.Records f) : t.Records f := by
  rw [State.Records, h.faults]
  exact hf

end State.OnlyQueues

end Sys2Proof.Machine
end

section
namespace Sys2Proof.Machine

/-! ### O49: a cancelled release and an ended one (R99, R109, R110) -/

variable {s t : State} {g k : GateIx} {r : Release} {y : Record} {tag : Tag}

/-! #### The record of a cancelled commit (R62, R109) -/

/-- The LOST of a removal that finds no room leaves TX_OVERRUN (R62). -/
theorem offerOrDrop_full (s : State) (f : Frame) (tag : Tag) (hf : feedClass f = false) (h : 16 ≤ s.queue.length) :
    (s.offerOrDrop f tag).Records { kind := .txOverrun, position := s.pos .a, input := .a, tag := some tag } := by
  unfold State.offerOrDrop
  obtain ⟨hroom, -⟩ | ⟨-, ho⟩ := offer_cases s f 0
  · simp [State.roomFor, hf, State.queueRoom, Config.queueCapacity, Nat.not_lt.mpr h] at hroom
  · rw [ho]
    exact recordFault_records s _

theorem offerOrDrop_besideSettling (s : State) (f : Frame) (tag : Tag) :
    (s.offerOrDrop f tag).besideSettling = s.besideSettling := by
  unfold State.offerOrDrop
  obtain ⟨-, ho⟩ | ⟨-, ho⟩ := offer_cases s f 0 <;> rw [ho]
  · rfl
  · exact recordFault_besideSettling s _

/-- What the removal of the record of a cancelled commit leaves: its LOST, or TX_OVERRUN at a full queue, and STOP_ABORT. -/
structure CancelledAt (s : State) (g : GateIx) (y : Record) (t : State) : Prop where
  beside : t.besideSettling = s.besideSettling
  gates : t.gates = s.gates
  train : t.train = s.train.filter fun x => x.tag != y.tag
  queued : s.queue.length < 16 → TxFrame.new (.lost y.tag 5) 0 ∈ t.queue
  overrun : 16 ≤ s.queue.length →
    t.Records { kind := .txOverrun, position := s.pos .a, input := .a, tag := some y.tag }
  fault : t.Records { kind := .stopAbort, position := s.pos y.basis, input := y.basis, tag := some y.tag
                      lot := some y.lot, unit := some (.gate g) }

theorem removeRecord_cancelled (s : State) (g : GateIx) (y : Record) :
    CancelledAt s g y (s.removeRecord y .cancelled (some (.gate g))) := by
  have removed : s.removeRecord y .cancelled (some (.gate g)) =
      (let u := (s.takeOut y.tag).lotRemove y false
       let v := u.offerOrDrop (.lost y.tag 5) y.tag
       v.recordFault { kind := .stopAbort, position := v.pos y.basis, input := y.basis, tag := some y.tag
                       lot := some y.lot, unit := some (.gate g) }) := rfl
  have gates := removeRecord_gates s y .cancelled (some (.gate g))
  have lots := lotRemove_besideLots (s.takeOut y.tag) y false
  obtain ⟨htrain, -, -, hqueue⟩ := train_of_besideLots lots
  have beside : ((s.takeOut y.tag).lotRemove y false).besideSettling = s.besideSettling :=
    (besideSettling_of_besideLots lots).trans rfl
  rw [removed] at gates ⊢
  dsimp only at gates ⊢
  generalize (s.takeOut y.tag).lotRemove y false = u at *
  have hpos := pos_of_besideSettling beside
  have dropped := offerOrDrop_besideSettling u (.lost y.tag 5) y.tag
  have dropPos := pos_of_besideSettling dropped
  have dropTrain := (offerOrDrop_beside u (.lost y.tag 5) y.tag).2
  have queued := (offerOrDrop_queues u (.lost y.tag 5) y.tag rfl).1
  have overrun := offerOrDrop_full u (.lost y.tag 5) y.tag rfl
  generalize u.offerOrDrop (.lost y.tag 5) y.tag = v at *
  rw [hpos] at overrun
  rw [hqueue] at queued overrun
  refine ⟨(recordFault_besideSettling v _).trans (dropped.trans beside), gates, ?_, fun h => ?_,
    fun h => records_recordFault (overrun h) _, ?_⟩
  · rw [recordFault_train, dropTrain, htrain]
    rfl
  · rw [recordFault_queue]
    exact queued h
  · rw [dropPos, hpos]
    exact recordFault_records v _

theorem cancelRecord_found (h : s.findRecord tag = some y) : CancelledAt s g y (s.cancelRecord g tag) := by
  unfold State.cancelRecord
  rw [h]
  exact removeRecord_cancelled s g y

theorem cancelRecord_absent (h : s.findRecord tag = none) : s.cancelRecord g tag = s := by
  unfold State.cancelRecord
  rw [h]

theorem cancelRecord_besideSettling (s : State) (g : GateIx) (tag : Tag) :
    (s.cancelRecord g tag).besideSettling = s.besideSettling ∧ (s.cancelRecord g tag).gates = s.gates ∧
      (s.cancelRecord g tag).train = s.train.filter fun x => x.tag != tag := by
  cases h : s.findRecord tag with
  | none =>
    rw [cancelRecord_absent h]
    refine ⟨rfl, rfl, (List.filter_eq_self.mpr fun x hx => ?_).symm⟩
    simpa using List.find?_eq_none.mp h x hx
  | some y =>
    obtain ⟨-, rfl⟩ := findRecord_some s h
    have removed := cancelRecord_found (g := g) h
    exact ⟨removed.beside, removed.gates, removed.train⟩

/-! #### A cancelled release (R109) -/

/-- A gate given back what its commit took (R109). -/
def Gate.restored (x : Gate) (r : Release) : Gate :=
  { x with
    release := none, rejectNext := r.prevRejectNext, lastRelease := r.prevLast
    hold := x.hold || x.holdPending, holdPending := false }

/-- The gate of a cancelled commit: as before the commit, READY or, of a spacer, EMPTY. -/
def Gate.cancelled (x : Gate) (r : Release) : Gate :=
  if r.spacer then { x.restored r with state := .empty }.lotApplied
  else { x.restored r with state := .ready, patienceCount := 0 }

/-- The lot change that a cancelled spacer leaves to its gate queues frames and nothing more. -/
theorem cancelRelease_onlyQueues (s : State) (g : GateIx) (r : Release) :
    (s.cancelRecord g r.tag).OnlyQueues (s.cancelRelease g r) := by
  unfold State.cancelRelease
  dsimp only
  split
  · exact (onlyQueues_setGate ..).trans (applyPendingLot_onlyQueues ..)
  · exact onlyQueues_setGate ..

theorem setGate_setGate (s : State) (g : GateIx) (x z : Gate) : (s.setGate g x).setGate g z = s.setGate g z := by
  simp [State.setGate]

theorem sameCores_setGate_of_gates (h : t.gates = s.gates) (g : GateIx) (x : Gate) :
    (s.setGate g x).SameCores (t.setGate g x) := sameCores_of_gates (by rw [State.setGate, State.setGate, h])

/-- A gate set and its pending lot change applied. -/
theorem setGate_applyPendingLot (s : State) (g : GateIx) (x : Gate) :
    (s.setGate g x.lotApplied).SameCores ((s.setGate g x).applyPendingLot g) := by
  have applied := applyPendingLot_sameCores (s.setGate g x) g
  rw [setGate_gate, setGate_setGate] at applied
  exact applied

theorem cancelRelease_sameCores (s : State) (g : GateIx) (r : Release) :
    (s.setGate g ((s.gate g).cancelled r)).SameCores (s.cancelRelease g r) := by
  obtain ⟨-, gates, -⟩ := cancelRecord_besideSettling s g r.tag
  have gate : (s.cancelRecord g r.tag).gate g = s.gate g := congrArg (·[g]) gates
  unfold State.cancelRelease Gate.cancelled
  dsimp only
  rw [gate]
  split
  · refine State.SameCores.trans ?_ (setGate_applyPendingLot _ g _)
    exact sameCores_setGate_of_gates gates g _
  · exact sameCores_setGate_of_gates gates g _

/-! #### An ended release (R99, R110) -/

/-- The gate of an ended release before its pending lot change (R99). -/
def Gate.emptied (x : Gate) : Gate :=
  { x with
    state := .empty, cls := none, release := none, hold := x.hold || x.holdPending || x.set.autoHold
    holdPending := false, gapRequest := if (x.release.any fun r => r.spacer) = true then false else x.gapRequest }

theorem endRelease_eq (s : State) (g : GateIx) :
    s.endRelease g = (s.setGate g (s.gate g).emptied).applyPendingLot g := by
  unfold State.endRelease Gate.emptied
  dsimp only
  cases hr : (s.gate g).release <;> rfl

theorem endRelease_onlyQueues (s : State) (g : GateIx) : s.OnlyQueues (s.endRelease g) := by
  rw [endRelease_eq]
  exact (onlyQueues_setGate ..).trans (applyPendingLot_onlyQueues ..)

theorem stopRelease_sameCores (s : State) (g : GateIx) (r : Release) :
    (s.setGate g (s.gate g).emptied.lotApplied).SameCores (s.stopRelease g r) := by
  have ended := setGate_applyPendingLot s g (s.gate g).emptied
  rw [← endRelease_eq] at ended
  exact ended.trans (sameCores_of_gates (recordFault_gates ..))

/-- The lot that STOP_ABORT gives for an ended release: that of its record, or the gate's where the record has left the
train. -/
def State.abortLot (s : State) (g : GateIx) (r : Release) : Lot :=
  ((s.findRecord r.tag).map (·.lot)).getD (if r.spacer then 255 else (s.gate g).lot.getD 255)

theorem stopRelease_eq (s : State) (g : GateIx) (r : Release) : s.stopRelease g r = (s.endRelease g).recordFault
    { kind := .stopAbort, position := s.pos .a, input := .a, tag := some r.tag, lot := some (s.abortLot g r)
      unit := some (.gate g) } := by
  unfold State.stopRelease State.abortLot
  cases s.findRecord r.tag <;> rfl

/-- An ended release changes, beside its gate and the queue, the fault list alone (R110). -/
theorem stopRelease_leaves (s : State) (g : GateIx) (r : Release) :
    (s.stopRelease g r).besideSettling = s.besideSettling ∧ (s.stopRelease g r).train = s.train ∧
      (s.stopRelease g r).Records { kind := .stopAbort, position := s.pos .a, input := .a, tag := some r.tag
                                    lot := some (s.abortLot g r), unit := some (.gate g) } := by
  have ended := endRelease_onlyQueues s g
  rw [stopRelease_eq]
  exact ⟨(recordFault_besideSettling ..).trans ended.besideSettling, (recordFault_train ..).trans ended.train,
    recordFault_records _ _⟩

theorem cancelRelease_leaves (s : State) (g : GateIx) (r : Release) :
    (s.cancelRelease g r).besideSettling = s.besideSettling ∧
      (s.cancelRelease g r).train = s.train.filter fun x => x.tag != r.tag := by
  obtain ⟨beside, -, train⟩ := cancelRecord_besideSettling s g r.tag
  have queues := cancelRelease_onlyQueues s g r
  exact ⟨queues.besideSettling.trans beside, queues.train.trans train⟩

end Sys2Proof.Machine
end

section
namespace Sys2Proof.Machine

/-! ### O49: STOP asserted in RUNNING (R109, R110, R195) -/

variable {s t : State} {g k : GateIx} {r : Release}

/-! #### One gate after the other -/

/-- What acts on RELEASING gates alone does nothing along gates of which none is RELEASING. -/
theorem foldl_idle {f : State → GateIx → State} (hf : ∀ u k, (u.gate k).state ≠ .releasing → f u k = u) {l : List GateIx}
    (h : ∀ k ∈ l, (s.gate k).state ≠ .releasing) : l.foldl f s = s := by
  induction l with
  | nil => rfl
  | cons k l ih =>
    rw [List.foldl_cons, hf s k (h k (by simp))]
    exact ih fun j hj => h j (List.mem_cons_of_mem _ hj)

/-- Where one gate alone is RELEASING, what acts on RELEASING gates acts on it alone, once. -/
theorem foldl_gateIxs_single {f : State → GateIx → State} (hf : ∀ u k, (u.gate k).state ≠ .releasing → f u k = u)
    (h : ∀ k, k ≠ g → (s.gate k).state ≠ .releasing) (h' : ∀ k, k ≠ g → ((f s g).gate k).state ≠ .releasing) :
    gateIxs.foldl f s = f s g := by
  obtain ⟨before, after, hl⟩ := List.append_of_mem (gateIxs_all g)
  have once : (before ++ g :: after).Nodup := hl ▸ (by decide : gateIxs.Nodup)
  rw [List.nodup_append, List.nodup_cons] at once
  obtain ⟨-, ⟨hafter, -⟩, hbefore⟩ := once
  rw [hl, List.foldl_append, List.foldl_cons, foldl_idle hf fun k hk => h k (hbefore k hk g (by simp))]
  exact foldl_idle hf fun k hk => h' k fun hkg => hafter (hkg ▸ hk)

theorem settleRelease_idle (h : (s.gate g).state ≠ .releasing) : s.settleRelease g = s := by
  unfold State.settleRelease
  split
  · exact absurd ‹_› h
  · rfl

theorem onSpacerBegun_idle (h : (s.gate g).state ≠ .releasing) : s.onSpacerBegun g = s := by
  have undue : s.spacerBeginDue g = false := by
    unfold State.spacerBeginDue
    split
    · simp [h]
    · rfl
  unfold State.onSpacerBegun
  rw [undue]
  rfl

/-! #### The spacers begun first (R98) -/

/-- A release with its begun field as input A has it (R98). -/
def State.begunRelease (s : State) (g : GateIx) (r : Release) : Release :=
  { r with begun := r.begun || (r.spacer && atOrPast (s.pos .a) (Pos.plus r.commit (s.gate g).set.wait)) }

theorem onSpacerBegun_eq (hm : s.mode = .running) (hg : (s.gate g).state = .releasing) (hr : (s.gate g).release = some r) :
    s.onSpacerBegun g = s.setGate g { s.gate g with release := some (s.begunRelease g r) } := by
  have due : s.spacerBeginDue g =
      (r.spacer && !r.begun && atOrPast (s.pos .a) (Pos.plus r.commit (s.gate g).set.wait)) := by
    simp [State.spacerBeginDue, hr, hg, hm]
  unfold State.onSpacerBegun
  rw [due]
  split
  · rename_i h
    simp only [Bool.and_eq_true] at h
    obtain ⟨⟨hspacer, -⟩, hpast⟩ := h
    simp [State.beginSpacer, State.begunRelease, hr, hspacer, hpast]
  · rename_i h
    have same : s.begunRelease g r = r := by
      have : (r.begun || (r.spacer && atOrPast (s.pos .a) (Pos.plus r.commit (s.gate g).set.wait))) = r.begun := by
        cases hb : r.begun <;> simp_all
      rw [State.begunRelease, this]
    rw [same, ← hr]
    exact (setGate_self s g).symm

theorem onSpacerBegun_states (s : State) (g k : GateIx) : ((s.onSpacerBegun g).gate k).state = (s.gate k).state ∧
    ((s.onSpacerBegun g).gate k).release.isSome = (s.gate k).release.isSome := by
  unfold State.onSpacerBegun State.beginSpacer
  split
  · by_cases hk : k = g
    · subst hk
      rw [setGate_gate]
      exact ⟨rfl, Option.isSome_map⟩
    · rw [setGate_gate_ne _ _ hk]
      exact ⟨rfl, rfl⟩
  · exact ⟨rfl, rfl⟩

theorem beginSpacers_states (s : State) (k : GateIx) : (s.beginSpacers.gate k).state = (s.gate k).state ∧
    (s.beginSpacers.gate k).release.isSome = (s.gate k).release.isSome :=
  List.foldlRecOn (motive := fun u : State => (u.gate k).state = (s.gate k).state ∧
    (u.gate k).release.isSome = (s.gate k).release.isSome) _ _ ⟨rfl, rfl⟩ fun u ⟨hstate, hrelease⟩ g _ =>
    ⟨(onSpacerBegun_states u g k).1.trans hstate, (onSpacerBegun_states u g k).2.trans hrelease⟩

theorem beginSpacers_besideSettling (s : State) : s.beginSpacers.besideSettling = s.besideSettling :=
  foldl_view State.besideSettling _ (fun u g => by unfold State.onSpacerBegun; split <;> rfl) gateIxs s

/-! #### A release settled (R109, R110) -/

/-- A RELEASING gate's release is ended or cancelled, behind the abort of its pulse. -/
theorem settleRelease_cases (hg : (s.gate g).state = .releasing) (hr : (s.gate g).release = some r) :
    ∃ c : Vector Channel 8, s.settleRelease g = { s with channels := c }.stopRelease g r ∨
      s.settleRelease g = { s with channels := c }.cancelRelease g r := by
  unfold State.settleRelease
  rw [hg, hr]
  dsimp only
  split
  · split
    · exact ⟨s.channels, .inl rfl⟩
    · exact ⟨s.channels, .inr rfl⟩
  · split
    · exact ⟨s.channels, .inl rfl⟩
    · split
      · exact ⟨_, .inr rfl⟩
      · exact ⟨_, .inl rfl⟩

/-- Which of the two: a begun or started release is ended, as is one whose abort answers GONE; any other is cancelled. -/
theorem settleRelease_eq (hg : (s.gate g).state = .releasing) (hr : (s.gate g).release = some r) {ch : ChannelIx}
    {started : Bool} (hs : if r.spacer then started = r.begun else (s.gate g).set.channel = some ch ∧
      ((s.abort ch r.tag).2 = .aborted started ∨ (s.abort ch r.tag).2 = .gone ∧ started = true)) :
    ∃ c : Vector Channel 8, s.settleRelease g = if started then { s with channels := c }.stopRelease g r
      else { s with channels := c }.cancelRelease g r := by
  unfold State.settleRelease
  rw [hg, hr]
  dsimp only
  cases hspacer : r.spacer with
  | true =>
    rw [hspacer, if_pos rfl] at hs
    rw [if_pos rfl, hs]
    exact ⟨s.channels, rfl⟩
  | false =>
    rw [hspacer, if_neg (by simp)] at hs
    obtain ⟨hch, hanswer⟩ := hs
    rw [if_neg (by simp), hch]
    dsimp only
    refine ⟨(s.abort ch r.tag).1.channels, ?_⟩
    obtain ha | ⟨ha, rfl⟩ := hanswer
    · rw [ha]
      cases started <;> rfl
    · rw [ha]
      rfl

theorem settleRelease_besideSettling (s : State) (g : GateIx) : (s.settleRelease g).besideSettling = s.besideSettling := by
  by_cases hg : (s.gate g).state = .releasing
  · cases hr : (s.gate g).release with
    | none =>
      unfold State.settleRelease
      rw [hg, hr]
    | some r =>
      obtain ⟨c, h | h⟩ := settleRelease_cases hg hr
      · rw [h]
        exact (stopRelease_leaves _ g r).1
      · rw [h]
        exact (cancelRelease_leaves _ g r).1
  · rw [settleRelease_idle hg]

theorem settleReleases_besideSettling (s : State) : s.settleReleases.besideSettling = s.besideSettling :=
  foldl_view State.besideSettling _ settleRelease_besideSettling gateIxs s

theorem state_of_core {x y : Gate} (h : x.core = y.core) : x.state = y.state := by
  have := congrArg Gate.state h
  exact this

theorem release_of_core {x y : Gate} (h : x.core = y.core) : x.release = y.release := by
  have := congrArg Gate.release h
  exact this

theorem cancelled_state (x : Gate) (r : Release) :
    (x.cancelled r).state = if r.spacer then .empty else .ready := by
  unfold Gate.cancelled
  split <;> rfl

/-- A settled gate is no longer RELEASING, and no other gate has moved. -/
theorem settleRelease_gates (h : (s.gate g).state = .releasing → (s.gate g).release.isSome = true) :
    ((s.settleRelease g).gate g).state ≠ .releasing ∧
      ∀ k, k ≠ g → ((s.settleRelease g).gate k).core = (s.gate k).core := by
  by_cases hg : (s.gate g).state = .releasing
  · obtain ⟨r, hr⟩ := Option.isSome_iff_exists.mp (h hg)
    obtain ⟨c, hc⟩ := settleRelease_cases hg hr
    have settled : ∃ x : Gate, x.state ≠ .releasing ∧
        (State.setGate { s with channels := c } g x).SameCores (s.settleRelease g) := by
      obtain hc | hc := hc <;> rw [hc]
      · refine ⟨_, ?_, stopRelease_sameCores _ g r⟩
        simp [Gate.emptied, Gate.lotApplied]
      · refine ⟨_, ?_, cancelRelease_sameCores _ g r⟩
        rw [cancelled_state]
        split <;> nofun
    obtain ⟨x, hx, cores⟩ := settled
    refine ⟨?_, fun k hk => ?_⟩
    · rw [state_of_core (cores g), setGate_gate]
      exact hx
    · rw [cores k, setGate_gate_ne _ _ hk]
      rfl
  · rw [settleRelease_idle hg]
    exact ⟨hg, fun _ _ => rfl⟩

/-- Along a list of gates each is settled, and a gate that was not RELEASING keeps its state. -/
theorem foldl_settleRelease_states (l : List GateIx)
    (h : ∀ k, (s.gate k).state = .releasing → (s.gate k).release.isSome = true) (k : GateIx) :
    (k ∈ l → ((l.foldl State.settleRelease s).gate k).state ≠ .releasing) ∧
      ((s.gate k).state ≠ .releasing → ((l.foldl State.settleRelease s).gate k).state = (s.gate k).state) := by
  induction l generalizing s with
  | nil => exact ⟨nofun, fun _ => rfl⟩
  | cons g l ih =>
    obtain ⟨settled, others⟩ := settleRelease_gates (h g)
    have kept : ∀ j, (s.gate j).state ≠ .releasing → ((s.settleRelease g).gate j).state = (s.gate j).state := fun j hj => by
      by_cases hjg : j = g
      · subst hjg
        rw [settleRelease_idle hj]
      · exact state_of_core (others j hjg)
    have next : ∀ j, ((s.settleRelease g).gate j).state = .releasing →
        ((s.settleRelease g).gate j).release.isSome = true := fun j hj => by
      have hjg : j ≠ g := fun he => settled (he ▸ hj)
      rw [release_of_core (others j hjg)]
      exact h j ((state_of_core (others j hjg)).symm.trans hj)
    obtain ⟨hmem, hkeep⟩ := ih next
    rw [List.foldl_cons]
    refine ⟨fun hk => ?_, fun hk => (hkeep (kept k hk ▸ hk)).trans (kept k hk)⟩
    obtain rfl | hk := List.mem_cons.mp hk
    · rw [hkeep settled]
      exact settled
    · exact hmem hk

end Sys2Proof.Machine
end

section
namespace Sys2Proof.Machine

variable {s t : State} {g k : GateIx} {r : Release}

/-! #### The entry into STOPPED (R110, R195) -/

/-- The state in which the entry into STOPPED finds the releases: the due spacers begun. -/
def State.stopping (s : State) : State := { State.beginSpacers { s with stopPin := true } with mode := .stopped }

theorem onStopAsserted_running (hm : s.mode = .running) : s.onStopAsserted = s.stopping.settleReleases.refresh :=
  if_pos hm

theorem stopping_besideSettling (s : State) :
    s.stopping.besideSettling = State.besideSettling { s with stopPin := true, mode := .stopped } :=
  congrArg (fun u : State => { u with mode := .stopped }) (beginSpacers_besideSettling { s with stopPin := true })

theorem onStopAsserted_besideSettling (hm : s.mode = .running) :
    s.onStopAsserted.besideSettling = State.besideSettling { s with stopPin := true, mode := .stopped } := by
  rw [onStopAsserted_running hm, refresh_besideSettling, settleReleases_besideSettling, stopping_besideSettling]

/-- A stopped tracker whose pins follow drives no output and holds no reservation (R45, R95, R119). -/
theorem stopped_pins (h : t.PinsFollow) (hm : t.mode = .stopped) :
    (∀ c, (t.channel c).output = false) ∧ ∀ k, t.ownReservation k = none := by
  obtain ⟨hshown, -, hres⟩ := h
  refine ⟨fun c => ?_, fun k => hres k (by simp [State.suspended, hm])⟩
  rw [hshown c]
  exact shown_output_stopped t _ (by simp [hm])

theorem onStopAsserted_pins (hm : s.mode = .running) : s.onStopAsserted.mode = .stopped ∧
    s.onStopAsserted.stopPin = true ∧ (∀ c, (s.onStopAsserted.channel c).output = false) ∧
    ∀ k, s.onStopAsserted.ownReservation k = none := by
  have frame := besideSettling_frame (onStopAsserted_besideSettling hm)
  have mode : s.onStopAsserted.mode = .stopped := by rw [frame]
  have pin : s.onStopAsserted.stopPin = true := by rw [frame]
  have follows : s.onStopAsserted.PinsFollow := by
    rw [onStopAsserted_running hm]
    exact refresh_pinsFollow _
  exact ⟨mode, pin, stopped_pins follows mode⟩

/-- No gate is left RELEASING, and a gate that was not keeps its state. -/
theorem onStopAsserted_states (hm : s.mode = .running)
    (h : ∀ k, (s.gate k).state = .releasing → (s.gate k).release.isSome = true) (k : GateIx) :
    ((s.gate k).state ≠ .releasing → (s.onStopAsserted.gate k).state = (s.gate k).state) ∧
      (s.onStopAsserted.gate k).state ≠ .releasing := by
  have begun : ∀ j, (s.stopping.gate j).state = (s.gate j).state ∧
      (s.stopping.gate j).release.isSome = (s.gate j).release.isSome := by
    have states := beginSpacers_states { s with stopPin := true }
    unfold State.stopping
    generalize State.beginSpacers _ = u at states ⊢
    exact states
  have next : ∀ j, (s.stopping.gate j).state = .releasing → (s.stopping.gate j).release.isSome = true := fun j hj => by
    rw [(begun j).2]
    exact h j ((begun j).1.symm.trans hj)
  obtain ⟨settled, kept⟩ := foldl_settleRelease_states gateIxs next k
  have state : (s.onStopAsserted.gate k).state = (s.stopping.settleReleases.gate k).state := by
    rw [onStopAsserted_running hm]
    exact state_of_core (refresh_sameCores _ k)
  rw [state]
  exact ⟨fun hk => (kept ((begun k).1.symm ▸ hk)).trans (begun k).1, settled (gateIxs_all k)⟩

/-! #### No gate RELEASING -/

theorem onStopAsserted_idle (hm : s.mode = .running) (h : ∀ k, (s.gate k).state ≠ .releasing) :
    s.onStopAsserted = State.refresh { s with stopPin := true, mode := .stopped } := by
  have begun : State.beginSpacers { s with stopPin := true } = { s with stopPin := true } :=
    foldl_idle (fun _ _ => onSpacerBegun_idle) fun k _ => h k
  have settled : State.settleReleases { s with stopPin := true, mode := .stopped } =
      { s with stopPin := true, mode := .stopped } := foldl_idle (fun _ _ => settleRelease_idle) fun k _ => h k
  rw [onStopAsserted_running hm, State.stopping, begun, settled]

/-- Outside RUNNING a channel is shown with its output inactive and its pulses as they are (R45). -/
theorem shown_stopped (hm : s.mode ≠ .running) (x : Channel) : s.shown x = { x with output := false } := by
  obtain h | ⟨hr, -⟩ | ⟨hr, -⟩ := afresh_cases x (s.pos x.input) (s.mode == .running) (s.ended x)
  · exact h
  · simp_all
  · simp_all

/-- What follows an event in STOPPED: every output inactive, every own reservation withdrawn. -/
theorem refresh_stopped (hm : s.mode = .stopped) : s.refresh = { s with
    gates := s.refresh.gates, reservations := s.reservations.filter fun x => !x.own, queue := s.refresh.queue
    channels := s.channels.map fun x => { x with output := false }, alertPin := s.refresh.alertPin } := by
  have channels : s.refresh.channels = s.channels.map fun x => { x with output := false } := by
    have shown := congrArg State.channels (refresh_shape s)
    refine shown.trans (Vector.ext fun k hk => ?_)
    rw [Vector.getElem_ofFn, Vector.getElem_map]
    exact shown_stopped (by simp [hm]) _
  have reservations := (refresh_all_suspended s fun g => by simp [State.suspended, hm]).1
  have frame := refresh_frame s
  rw [channels, reservations] at frame
  exact frame

/-! #### One gate RELEASING -/

/-- The state in which the entry into STOPPED finds the release of the one RELEASING gate. -/
theorem stopping_single (hm : s.mode = .running) (h : ∀ k, k ≠ g → (s.gate k).state ≠ .releasing)
    (hg : (s.gate g).state = .releasing) (hr : (s.gate g).release = some r) :
    s.stopping = State.setGate { s with stopPin := true, mode := .stopped } g
      { s.gate g with release := some (s.begunRelease g r) } := by
  have begun : State.onSpacerBegun { s with stopPin := true } g = State.setGate { s with stopPin := true } g
      { s.gate g with release := some (s.begunRelease g r) } := onSpacerBegun_eq (s := { s with stopPin := true }) hm hg hr
  have alone : State.beginSpacers { s with stopPin := true } = State.onSpacerBegun { s with stopPin := true } g := by
    refine foldl_gateIxs_single (fun _ _ => onSpacerBegun_idle) h fun k hk => ?_
    rw [begun, setGate_gate_ne _ _ hk]
    exact h k hk
  rw [State.stopping, alone, begun]
  rfl

/-- The entry into STOPPED settles the one release, and what follows every event follows. -/
theorem onStopAsserted_single (hm : s.mode = .running) (h : ∀ k, k ≠ g → (s.gate k).state ≠ .releasing)
    (hg : (s.gate g).state = .releasing) (hr : (s.gate g).release = some r) :
    s.onStopAsserted = (s.stopping.settleRelease g).refresh := by
  have stopping := stopping_single hm h hg hr
  have others : ∀ k, k ≠ g → (s.stopping.gate k).state ≠ .releasing := fun k hk => by
    rw [stopping, setGate_gate_ne _ _ hk]
    exact h k hk
  have settles : (s.stopping.gate g).state = .releasing → (s.stopping.gate g).release.isSome = true := fun _ => by
    rw [stopping, setGate_gate]
    rfl
  have alone : s.stopping.settleReleases = s.stopping.settleRelease g := by
    refine foldl_gateIxs_single (fun _ _ => settleRelease_idle) others fun k hk => ?_
    rw [state_of_core ((settleRelease_gates settles).2 k hk)]
    exact others k hk
  rw [onStopAsserted_running hm, alone]

/-- The fields that the core of a gate keeps. -/
theorem core_fields {x y : Gate} (h : x.core = y.core) : x.state = y.state ∧ x.cls = y.cls ∧ x.lot = y.lot ∧
    x.lastRelease = y.lastRelease ∧ x.hold = y.hold ∧ x.holdPending = y.holdPending ∧ x.lotPending = y.lotPending ∧
    x.gapRequest = y.gapRequest ∧ x.rejectNext = y.rejectNext ∧ x.release = y.release ∧
    x.patienceCount = y.patienceCount := by
  simp only [Gate.core, Gate.mk.injEq] at h
  tauto

end Sys2Proof.Machine
end

section
namespace Sys2Proof.Machine

variable {s t q : State} {g k : GateIx} {r : Release} {y : Record}

/-! #### What the settling of the one release leaves -/

/-- The state in which the one release is settled, its pulse aborted: as before, but for its begun field. -/
structure StoppingAt (s : State) (g : GateIx) (r : Release) (q : State) : Prop where
  own : q.gate g = { s.gate g with release := some (s.begunRelease g r) }
  others : ∀ k, k ≠ g → q.gate k = s.gate k
  train : q.train = s.train
  faults : q.faults = s.faults
  queue : q.queue = s.queue
  pos : q.pos = s.pos

/-- The one release is ended where it had started, or cancelled where it had not (R109, R110). -/
theorem onStopAsserted_settles (hm : s.mode = .running) (h : ∀ k, k ≠ g → (s.gate k).state ≠ .releasing)
    (hg : (s.gate g).state = .releasing) (hr : (s.gate g).release = some r) {ch : ChannelIx} {started : Bool}
    (hs : if r.spacer then started = (r.begun || atOrPast (s.pos .a) (Pos.plus r.commit (s.gate g).set.wait))
      else (s.gate g).set.channel = some ch ∧
        ((s.abort ch r.tag).2 = .aborted started ∨ (s.abort ch r.tag).2 = .gone ∧ started = true)) :
    ∃ q, StoppingAt s g r q ∧ s.onStopAsserted = State.refresh (if started then q.stopRelease g (s.begunRelease g r)
      else q.cancelRelease g (s.begunRelease g r)) := by
  have stopping := stopping_single hm h hg hr
  have own : s.stopping.gate g = { s.gate g with release := some (s.begunRelease g r) } := by rw [stopping, setGate_gate]
  have others : ∀ k, k ≠ g → s.stopping.gate k = s.gate k := fun k hk => by
    rw [stopping, setGate_gate_ne _ _ hk]
    rfl
  have aborts : (s.stopping.abort ch r.tag).2 = (s.abort ch r.tag).2 := by
    rw [stopping]
    rfl
  have starts : if (s.begunRelease g r).spacer then started = (s.begunRelease g r).begun
      else (s.stopping.gate g).set.channel = some ch ∧ ((s.stopping.abort ch (s.begunRelease g r).tag).2 = .aborted started ∨
        (s.stopping.abort ch (s.begunRelease g r).tag).2 = .gone ∧ started = true) := by
    have spacer : (s.begunRelease g r).spacer = r.spacer := rfl
    have tag : (s.begunRelease g r).tag = r.tag := rfl
    rw [spacer, tag, aborts, own]
    cases hspacer : r.spacer with
    | true => simpa [State.begunRelease, hspacer] using hs
    | false => simpa [hspacer] using hs
  obtain ⟨c, settled⟩ := settleRelease_eq (by rw [own]; exact hg) (by rw [own]) starts
  have event := onStopAsserted_single hm h hg hr
  rw [settled] at event
  generalize s.stopping = w at *
  have found : StoppingAt s g r w := by
    refine ⟨own, others, ?_, ?_, ?_, ?_⟩ <;> rw [stopping] <;> rfl
  exact ⟨{ w with channels := c }, ⟨found.own, found.others, found.train, found.faults, found.queue, found.pos⟩, event⟩

namespace StoppingAt

variable (h : StoppingAt s g r q)
include h

theorem findRecord (tag : Tag) : q.findRecord tag = s.findRecord tag := by
  rw [State.findRecord, h.train, State.findRecord]

/-- Of the gates the settling of the release sets its own alone. -/
theorem gates {x : Gate} (hx : (q.setGate g x).SameCores t) :
    (t.refresh.gate g).core = x.core ∧ ∀ k, k ≠ g → (t.refresh.gate k).state = (s.gate k).state := by
  refine ⟨?_, fun k hk => ?_⟩
  · rw [refresh_sameCores t g, hx g, setGate_gate]
  · have core : (t.refresh.gate k).core = (s.gate k).core := by
      rw [refresh_sameCores t k, hx k, setGate_gate_ne _ _ hk, h.others k hk]
    exact state_of_core core

theorem ended_gates : ((q.stopRelease g (s.begunRelease g r)).refresh.gate g).core =
      (Gate.lotApplied { s.gate g with release := some (s.begunRelease g r) }.emptied).core ∧
    ∀ k, k ≠ g → ((q.stopRelease g (s.begunRelease g r)).refresh.gate k).state = (s.gate k).state := by
  rw [← h.own]
  exact h.gates (stopRelease_sameCores q g _)

theorem cancelled_gates : ((q.cancelRelease g (s.begunRelease g r)).refresh.gate g).core = ((s.gate g).cancelled r).core ∧
    ∀ k, k ≠ g → ((q.cancelRelease g (s.begunRelease g r)).refresh.gate k).state = (s.gate k).state := by
  have gates := h.gates (cancelRelease_sameCores q g (s.begunRelease g r))
  rw [h.own] at gates
  exact gates

theorem ended_fault : (q.stopRelease g (s.begunRelease g r)).refresh.Records
    { kind := .stopAbort, position := s.pos .a, input := .a, tag := some r.tag, lot := some (s.abortLot g r)
      unit := some (.gate g) } := by
  have lot : q.abortLot g (s.begunRelease g r) = s.abortLot g r := by
    rw [State.abortLot, h.findRecord, h.own]
    rfl
  obtain ⟨-, -, recorded⟩ := stopRelease_leaves q g (s.begunRelease g r)
  rw [lot, h.pos] at recorded
  rw [State.Records, refresh_faults]
  exact recorded

theorem cancelled_absent (hf : s.findRecord r.tag = none) :
    (q.cancelRelease g (s.begunRelease g r)).refresh.faults = s.faults := by
  have queues := cancelRelease_onlyQueues q g (s.begunRelease g r)
  have absent : q.findRecord (s.begunRelease g r).tag = none := (h.findRecord _).trans hf
  rw [cancelRecord_absent absent] at queues
  rw [refresh_faults, queues.faults, h.faults]

theorem cancelled_found (hf : s.findRecord r.tag = some y) :
    (if s.queue.length < 16 then TxFrame.new (.lost r.tag 5) 0 ∈ (q.cancelRelease g (s.begunRelease g r)).refresh.queue
      else (q.cancelRelease g (s.begunRelease g r)).refresh.Records
        { kind := .txOverrun, position := s.pos .a, input := .a, tag := some r.tag }) ∧
      (q.cancelRelease g (s.begunRelease g r)).refresh.Records
        { kind := .stopAbort, position := s.pos y.basis, input := y.basis, tag := some r.tag, lot := some y.lot
          unit := some (.gate g) } := by
  have queues := cancelRelease_onlyQueues q g (s.begunRelease g r)
  have found : q.findRecord (s.begunRelease g r).tag = some y := (h.findRecord _).trans hf
  have removed := cancelRecord_found (g := g) found
  have tag : y.tag = r.tag := (findRecord_some s hf).2
  obtain ⟨-, -, -, queued, overrun, fault⟩ := removed
  rw [tag, h.queue] at queued
  rw [tag, h.queue, h.pos] at overrun
  rw [tag, h.pos] at fault
  have recorded : ∀ f, (q.cancelRecord g (s.begunRelease g r).tag).Records f →
      (q.cancelRelease g (s.begunRelease g r)).refresh.Records f := fun f hf => by
    rw [State.Records, refresh_faults]
    exact queues.records hf
  refine ⟨?_, recorded _ fault⟩
  split
  · rename_i hroom
    exact mem_refresh_queue (fun _ => rfl) (queues.queue _ (queued hroom))
  · rename_i hfull
    exact recorded _ (overrun (Nat.not_lt.mp hfull))

end StoppingAt

/-! #### The gate that is left -/

theorem emptied_gapRequest {x : Gate} (h : x.release = some r) : x.emptied.gapRequest = (x.gapRequest && !r.spacer) := by
  cases hspacer : r.spacer <;> simp [Gate.emptied, h, hspacer]

theorem cancelled_item (x : Gate) (h : r.spacer = false) :
    x.cancelled r = { x.restored r with state := .ready, patienceCount := 0 } := by
  rw [Gate.cancelled, h]
  rfl

theorem cancelled_spacer (x : Gate) (h : r.spacer = true) :
    x.cancelled r = { x.restored r with state := .empty }.lotApplied := by
  rw [Gate.cancelled, h]
  rfl

/-- What a cancelled commit gives back, of an item and of a spacer (R109). -/
theorem cancelled_fields (x : Gate) (r : Release) : (x.cancelled r).release = none ∧ (x.cancelled r).holdPending = false ∧
    (x.cancelled r).cls = x.cls ∧ (x.cancelled r).rejectNext = r.prevRejectNext ∧
    (x.cancelled r).gapRequest = x.gapRequest ∧ (x.cancelled r).hold = (x.hold || x.holdPending) ∧
    (x.cancelled r).lastRelease = if r.spacer ∧ x.lotPending.isSome then none else r.prevLast := by
  cases h : r.spacer with
  | false =>
    rw [cancelled_item x h]
    exact ⟨rfl, rfl, rfl, rfl, rfl, rfl, by simp [Gate.restored]⟩
  | true =>
    rw [cancelled_spacer x h]
    refine ⟨rfl, rfl, rfl, rfl, rfl, rfl, ?_⟩
    cases hlot : x.lotPending <;> simp [Gate.restored, Gate.lotApplied, hlot]

/-! #### The obligation -/

/-- Settles O49, clause by clause: the pin alone, every release, no release, and one release ended or cancelled. -/
theorem stopSettlesReleases : Obligations.StopSettlesReleases := by
  unfold Obligations.StopSettlesReleases
  intro s g r ch started
  refine ⟨fun hm => ?_, fun hm hgates => ?_, fun hm hidle => ?_, fun hm hothers hg hr hs _ _ => ?_⟩
  · have pin : s.onStopAsserted = { s with stopPin := true } := if_neg hm
    rw [← pin]
    rfl
  · obtain ⟨mode, pin, outputs, reservations⟩ := onStopAsserted_pins hm
    have states := onStopAsserted_states hm fun k => (hgates k).1.mpr
    exact ⟨s.onStopAsserted, rfl, mode, pin, outputs, reservations, fun k => (states k).1, fun k => (states k).2,
      besideSettling_frame (onStopAsserted_besideSettling hm)⟩
  · refine ⟨s.onStopAsserted, rfl, ?_⟩
    rw [onStopAsserted_idle hm hidle]
    have apart := refresh_pendingApart { s with stopPin := true, mode := .stopped }
    have withdrawn := (refresh_all_suspended { s with stopPin := true, mode := .stopped } fun k => by
      simp [State.suspended]).2
    have frame := refresh_stopped (s := { s with stopPin := true, mode := .stopped }) rfl
    refine ⟨apart, withdrawn, fun hnone => ?_, frame⟩
    have none : ∀ k, State.ownReservation { s with stopPin := true, mode := .stopped } k = none := fun k => by
      rw [State.ownReservation, hnone]
      rfl
    rw [refresh_unreserved _ none]
    exact ⟨rfl, rfl⟩
  · obtain ⟨mode, pin, outputs, -⟩ := onStopAsserted_pins hm
    obtain ⟨q, settles, event⟩ := onStopAsserted_settles hm hothers hg hr hs
    refine ⟨s.onStopAsserted, rfl, mode, pin, outputs, ?_⟩
    cases started with
    | true =>
      rw [if_pos rfl] at event
      rw [event]
      obtain ⟨core, others⟩ := settles.ended_gates
      obtain ⟨state, cls, lot, last, hold, holdPending, lotPending, gap, reject, release, -⟩ := core_fields core
      have train := (refresh_train _).trans ((stopRelease_leaves q g (s.begunRelease g r)).2.1.trans settles.train)
      exact ⟨release, others, holdPending, fun _ => ⟨state, lotPending, lot⟩, nofun, fun _ =>
        ⟨train, cls, hold, reject, gap.trans (emptied_gapRequest (r := s.begunRelease g r) rfl), last,
          settles.ended_fault.imp id fun hf => ⟨_, hf, rfl, rfl, rfl, rfl, rfl⟩⟩⟩
    | false =>
      rw [if_neg (by simp)] at event
      rw [event]
      obtain ⟨core, others⟩ := settles.cancelled_gates
      obtain ⟨state, cls, lot, last, hold, holdPending, lotPending, gap, reject, release, patience⟩ := core_fields core
      obtain ⟨release', holdPending', cls', reject', gap', hold', last'⟩ := cancelled_fields (s.gate g) r
      have train := (refresh_train _).trans (cancelRelease_leaves q g (s.begunRelease g r)).2
      rw [settles.train] at train
      refine ⟨release.trans release', others, holdPending.trans holdPending', fun hspacer => ?_, fun _ =>
        ⟨train, fun hitem => ?_, cls.trans cls', reject.trans reject', gap.trans gap', last.trans last',
          hold.trans hold', settles.cancelled_absent, fun y hy => ?_⟩, nofun⟩
      · rw [cancelled_spacer _ (hspacer.resolve_right nofun)] at state lot lotPending
        exact ⟨state, lotPending, lot⟩
      · rw [cancelled_item _ hitem] at state lot lotPending patience
        exact ⟨state, patience, lot, lotPending⟩
      · obtain ⟨lost, fault⟩ := settles.cancelled_found hy
        refine ⟨?_, fault⟩
        split
        · rwa [if_pos ‹_›] at lost
        · rw [if_neg ‹_›] at lost
          exact lost.imp id fun hf => ⟨_, hf, rfl, rfl⟩

end Sys2Proof.Machine
end

section
namespace Sys2Proof.Machine

variable {s t u : State} {g : GateIx} {r : Record} {tag : Tag}

/-! ### What follows an event that suspends no gate anew (R35, R95, R198) -/

/-- The hold causes of t are among those of s, beside the causes of the eyes. -/
structure State.FewerCauses (s t : State) : Prop where
  address : t.address = s.address
  line : t.lineHold = s.lineHold
  wrap : t.wrapAlarm = true → s.wrapAlarm = true
  train : t.trainCause = true → s.trainCause = true
  holder : ∀ a, (t.holder a).isSome = true → (s.holder a).isSome = true
  jam : t.jamCause = true → s.jamCause = true
  level : t.levelCause = true → s.levelCause = true
  mode : t.mode = s.mode

theorem anyCause_iff (s : State) : s.anyCause = true ↔
    s.lineHold = true ∨ s.wrapAlarm = true ∨ s.levelCause = true ∨ s.jamCause = true ∨ s.trainCause = true := by
  unfold State.anyCause State.causes
  cases s.lineHold <;> cases s.wrapAlarm <;> cases s.levelCause <;> cases s.jamCause <;> cases s.trainCause <;> decide

theorem State.FewerCauses.anyCause (h : s.FewerCauses t) (ht : t.anyCause = true) : s.anyCause = true := by
  rw [anyCause_iff] at ht ⊢
  rw [h.line] at ht
  exact ht.imp id (.imp h.wrap (.imp h.level (.imp h.jam h.train)))

theorem State.FewerCauses.holding (h : s.FewerCauses t) (ht : t.holding = true) : s.holding = true := by
  unfold State.holding State.joined at ht ⊢
  rw [h.mode, Bool.and_eq_true] at ht
  rw [Bool.and_eq_true]
  exact ht.imp id h.anyCause

/-- A tracker with fewer causes is held by fewer (R125, R128). -/
theorem State.FewerCauses.held (h : s.FewerCauses t) (ht : t.held = true) : s.held = true := by
  unfold State.held at ht ⊢
  rw [Bool.or_eq_true, List.any_eq_true] at ht ⊢
  refine ht.imp h.holding fun ⟨a, ha, hheld⟩ => ⟨a, ha, ?_⟩
  unfold State.reasonHeld at hheld ⊢
  rw [h.address] at hheld
  split
  · rename_i own
    rw [if_pos own] at hheld
    cases ho : t.holding with
    | true => rw [h.holding ho]; rfl
    | false => simp [ho] at hheld
  · rename_i own
    rw [if_neg own] at hheld
    exact h.holder a hheld

/-- From s to t no gate is suspended anew, no own reservation is made, and neither travel nor tracker state moves. -/
structure State.Calmer (s t : State) : Prop where
  pos : ∀ i, t.pos i = s.pos i
  mode : t.mode = s.mode
  step : t.lastStep = s.lastStep
  suspended : ∀ g, t.suspended g = true → s.suspended g = true
  reservations : t.reservations.Sublist s.reservations

theorem State.FewerCauses.suspended (h : s.FewerCauses t) (hgate : (t.gate g).SameFlags (s.gate g))
    (hfull : t.trainFull = true → s.trainFull = true) (hfeed : t.feedCount ≤ s.feedCount)
    (hreverse : t.travelA.reverse = true → s.travelA.reverse = true) (ht : t.suspended g = true) :
    s.suspended g = true := by
  obtain ⟨hhold, hblock, hlock⟩ := hgate
  have held := h.held
  simp only [State.suspended, hhold, hblock, hlock, h.mode, Bool.or_eq_true, decide_eq_true_eq] at ht ⊢
  have feed : Config.feedCapacity ≤ t.feedCount → Config.feedCapacity ≤ s.feedCount := fun hx => hx.trans hfeed
  tauto

theorem State.Calmer.shown (h : s.Calmer t) : t.shown = s.shown := funext (shown_congr h.pos h.mode h.step)

theorem State.Calmer.ownReservation (h : s.Calmer t) (hs : s.ownReservation g = none) : t.ownReservation g = none :=
  ownReservation_none hs h.reservations

/-- The pulses follow the outputs, and no suspended gate holds a reservation: `State.PinsFollow` but for ALERT. -/
abbrev State.OutputsFollow (s : State) : Prop :=
  (∀ c : ChannelIx, s.channel c = s.shown (s.channel c)) ∧ ∀ g : GateIx, s.suspended g = true → s.ownReservation g = none

theorem outputsFollow_of_pins (hp : s.PinsFollow) : s.OutputsFollow := by
  obtain ⟨hshown, -, hres⟩ := hp
  exact ⟨hshown, hres⟩

/-- Where nothing is suspended anew, an event is followed by its outputs and ALERT alone. -/
theorem State.Calmer.refresh_follows (h : s.Calmer t) (hp : s.OutputsFollow) :
    t.refresh = State.alertAfresh { t with channels := Vector.ofFn fun c => s.shown (t.channel c) } := by
  obtain ⟨-, hres⟩ := hp
  rw [refresh_unwithdrawn t fun g hg => h.ownReservation (hres g (h.suspended g hg)), outputsAfresh_eq, h.shown]

theorem State.Calmer.refresh_outputs (h : s.Calmer t) (hp : s.PinsFollow) :
    t.refresh = State.alertAfresh { t with channels := Vector.ofFn fun c => s.shown (t.channel c) } :=
  h.refresh_follows (outputsFollow_of_pins hp)

theorem shown_channels (hp : s.PinsFollow) (ht : t.channels = s.channels) :
    (Vector.ofFn fun c => s.shown (t.channel c)) = t.channels := by
  obtain ⟨hshown, -, -⟩ := hp
  apply Vector.ext
  intro k hk
  rw [Vector.getElem_ofFn]
  have same : t.channel ⟨k, hk⟩ = s.channel ⟨k, hk⟩ := by rw [State.channel, ht, State.channel]
  rw [same, ← hshown ⟨k, hk⟩, ← same]
  rfl

/-- Where no pulse has changed either, ALERT alone is left to follow. -/
theorem State.Calmer.refresh (h : s.Calmer t) (hp : s.PinsFollow) (hc : t.channels = s.channels) :
    t.refresh = t.alertAfresh := by
  rw [h.refresh_outputs hp, shown_channels hp hc]

/-- And where no condition of ALERT has changed, nothing. -/
theorem State.Calmer.refresh_eq (h : s.Calmer t) (hp : s.PinsFollow) (hc : t.channels = s.channels)
    (hconditions : t.conditions = s.conditions) (hmask : t.alertMask = s.alertMask) (hpin : t.alertPin = s.alertPin) :
    t.refresh = t := by
  obtain ⟨-, halert, -⟩ := id hp
  rw [h.refresh hp hc]
  exact alertAfresh_follows t (by rw [hpin, hconditions, hmask, halert])

theorem refresh_refresh (s : State) : s.refresh.refresh = s.refresh := refresh_follows _ (refresh_pinsFollow s)

end Sys2Proof.Machine
end

section
namespace Sys2Proof.Machine

variable {s t : State} {r : Record} {tag : Tag}

/-! ### Removal of a record (R62) -/

/-- The state beside what a removal changes once the record is out of the train. -/
def State.besideRemoval (s : State) : State := { s.besideLots with queue := [], wrapAlarm := false }

theorem besideRemoval_frame (h : t.besideRemoval = s.besideRemoval) : t = { s with
    lots := t.lots, closureList := t.closureList, dests := t.dests, channels := t.channels, queue := t.queue
    faults := t.faults, overflow := t.overflow, wrapAlarm := t.wrapAlarm } :=
  congrArg (fun u : State => { u with
    lots := t.lots, closureList := t.closureList, dests := t.dests, channels := t.channels, queue := t.queue
    faults := t.faults, overflow := t.overflow, wrapAlarm := t.wrapAlarm }) h

theorem besideRemoval_of_besideLots (h : t.besideLots = s.besideLots) : t.besideRemoval = s.besideRemoval :=
  congrArg (fun u : State => { u with queue := [], wrapAlarm := false }) h

theorem recordFault_besideRemoval (s : State) (f : FaultRecord) : (s.recordFault f).besideRemoval = s.besideRemoval :=
  besideRemoval_of_besideLots (recordFault_besideLots s f)

theorem queueRoom_iff (s : State) : s.queueRoom = true ↔ s.queue.length < 16 := decide_eq_true_iff

/-- A frame of no class that finds room is queued; else TX_OVERRUN is recorded (R62, R182). -/
theorem offerOrDrop_eq (s : State) (f : Frame) (tag : Tag) (hf : feedClass f = false) :
    s.offerOrDrop f tag = if s.queue.length < 16 then s.push f 0 else s.txOverrun tag := by
  have room : s.roomFor f = decide (s.queue.length < 16) := by
    rw [State.roomFor, hf]
    rfl
  unfold State.offerOrDrop State.offer
  rw [room]
  by_cases h : s.queue.length < 16 <;> simp [h]

/-- What a removal leaves: the record out of the train and the lots handed it, its LOST queued or TX_OVERRUN recorded, its
fault recorded. -/
structure RemovedAs (s : State) (r : Record) (cause : RemovalCause) (unit : Option FaultUnit) (t : State) : Prop where
  beside : t.besideRemoval = (s.takeOut r.tag).besideRemoval
  queue : t.queue = match cause.lostCode with
    | some c => if s.queue.length < 16 then s.queue ++ [TxFrame.new (.lost r.tag c) 0] else s.queue
    | none => s.queue
  overrun : cause.lostCode.isSome = true → 16 ≤ s.queue.length →
    t.Records { kind := .txOverrun, position := s.pos .a, input := .a, tag := some r.tag }
  fault : ∀ k ∈ cause.fault, t.Records
    { kind := k, position := s.pos r.basis, input := r.basis, tag := some r.tag, lot := some r.lot, unit := unit }
  alarm : t.wrapAlarm = (s.wrapAlarm || decide (cause = .wrap))
  records : ∀ f, s.Records f → t.Records f

/-- The LOST of a removal (R62). -/
theorem queueLost_leaves (s : State) (tag : Tag) (cause : RemovalCause) :
    (s.queueLost tag cause).besideRemoval = s.besideRemoval ∧
      (s.queueLost tag cause).wrapAlarm = s.wrapAlarm ∧
      ((s.queueLost tag cause).queue = match cause.lostCode with
        | some c => if s.queue.length < 16 then s.queue ++ [TxFrame.new (.lost tag c) 0] else s.queue
        | none => s.queue) ∧
      (cause.lostCode.isSome = true → 16 ≤ s.queue.length →
        (s.queueLost tag cause).Records { kind := .txOverrun, position := s.pos .a, input := .a, tag := some tag }) ∧
      ∀ f, s.Records f → (s.queueLost tag cause).Records f := by
  unfold State.queueLost
  cases cause.lostCode with
  | none => exact ⟨rfl, rfl, rfl, by simp, fun _ => id⟩
  | some c =>
    dsimp only
    rw [offerOrDrop_eq s _ tag rfl]
    by_cases h : s.queue.length < 16
    · rw [if_pos h, if_pos h]
      exact ⟨rfl, rfl, rfl, fun _ hx => absurd h (Nat.not_lt.mpr hx), fun _ => id⟩
    · rw [if_neg h, if_neg h]
      exact ⟨recordFault_besideRemoval s _, recordFault_wrapAlarm .., recordFault_queue .., fun _ _ => recordFault_records s _,
        fun f hf => records_recordFault hf _⟩

theorem removalFault_leaves (s : State) (r : Record) (cause : RemovalCause) (unit : Option FaultUnit) :
    (s.removalFault r cause unit).besideRemoval = s.besideRemoval ∧
      (s.removalFault r cause unit).wrapAlarm = s.wrapAlarm ∧ (s.removalFault r cause unit).queue = s.queue ∧
      (∀ k ∈ cause.fault, (s.removalFault r cause unit).Records
        { kind := k, position := s.pos r.basis, input := r.basis, tag := some r.tag, lot := some r.lot, unit := unit }) ∧
      ∀ f, s.Records f → (s.removalFault r cause unit).Records f := by
  unfold State.removalFault
  cases cause.fault with
  | none => exact ⟨rfl, rfl, rfl, by simp, fun _ => id⟩
  | some k =>
    refine ⟨recordFault_besideRemoval s _, recordFault_wrapAlarm .., recordFault_queue .., fun x hx => ?_,
      fun f hf => records_recordFault hf _⟩
    obtain rfl : k = x := by simpa using hx
    exact recordFault_records s _

theorem removeRecord_removedAs (s : State) (r : Record) (cause : RemovalCause) (unit : Option FaultUnit) :
    RemovedAs s r cause unit (s.removeRecord r cause unit) := by
  have lots := lotRemove_besideLots (s.takeOut r.tag) r cause.passed
  obtain ⟨-, -, -, hqueue⟩ := train_of_besideLots lots
  have alarmOf : ∀ x y : State, x.besideLots = y.besideLots → x.wrapAlarm = y.wrapAlarm := fun x y h => by
    exact (congrArg State.wrapAlarm h : x.besideLots.wrapAlarm = y.besideLots.wrapAlarm)
  have halarm : ((s.takeOut r.tag).lotRemove r cause.passed).wrapAlarm = s.wrapAlarm :=
    alarmOf _ (s.takeOut r.tag) lots
  have hpos : ((s.takeOut r.tag).lotRemove r cause.passed).pos = s.pos :=
    (besideAdmission_fields (s := s.takeOut r.tag) (besideAdmission_of_besideLots lots)).2.1
  have out : ∀ f, s.Records f → ((s.takeOut r.tag).lotRemove r cause.passed).Records f := fun f hf =>
    (records_kept f).lotRemove (s := s.takeOut r.tag) hf r cause.passed
  have beside := besideRemoval_of_besideLots lots
  unfold State.removeRecord State.alarmAt
  dsimp only
  generalize (s.takeOut r.tag).lotRemove r cause.passed = u at *
  have hq : u.queue = s.queue := hqueue
  obtain ⟨lostBeside, lostAlarm, lostQueue, overrun, lostKept⟩ := queueLost_leaves u r.tag cause
  have lostPos : (u.queueLost r.tag cause).pos = u.pos := by
    rw [besideRemoval_frame lostBeside]
    rfl
  generalize u.queueLost r.tag cause = v at *
  obtain ⟨faultBeside, faultAlarm, faultQueue, fault, faultKept⟩ := removalFault_leaves v r cause unit
  generalize v.removalFault r cause unit = w at *
  rw [lostPos, hpos] at fault
  rw [hq, hpos] at overrun
  rw [hq] at lostQueue
  have removed : ∀ x : Bool, x = (s.wrapAlarm || decide (cause = .wrap)) →
      RemovedAs s r cause unit { w with wrapAlarm := x } := fun x hx =>
    ⟨(faultBeside.trans lostBeside).trans beside, faultQueue.trans lostQueue,
      fun h h' => faultKept _ (overrun h h'), fault, hx, fun f hf => faultKept f (lostKept f (out f hf))⟩
  split
  · rename_i hwrap
    exact removed true (by simp [hwrap])
  · rename_i hwrap
    have := removed w.wrapAlarm (by simp [hwrap, faultAlarm, lostAlarm, halarm])
    exact this

theorem RemovedAs.train {cause : RemovalCause} {unit : Option FaultUnit} (h : RemovedAs s r cause unit t) :
    t.train = s.train.filter fun x => x.tag != r.tag := by
  rw [besideRemoval_frame h.beside]
  rfl

/-- What a removal changes, beside what the record leaves behind. -/
theorem RemovedAs.frame {cause : RemovalCause} {unit : Option FaultUnit} (h : RemovedAs s r cause unit t) : t = { s with
    train := t.train, trainCause := t.trainCause, waiting := t.waiting, freshWindows := t.freshWindows, lots := t.lots
    closureList := t.closureList, dests := t.dests, channels := t.channels, queue := t.queue, faults := t.faults
    overflow := t.overflow, wrapAlarm := t.wrapAlarm } := by
  have frame := besideRemoval_frame h.beside
  generalize t = x at *
  rw [frame]
  rfl

end Sys2Proof.Machine
end

section
namespace Sys2Proof.Machine

variable {s t : State} {r : Record} {tag : Tag} {k : Checkpoint} {e : EyeIx} {closing : Pos}

/-! ### O28: a closure on a clear eye (R84, R87) -/

theorem exec_windowClosure (h : s.dueRecord .closure tag = some r) :
    exec (.windowClosure tag) s = .next (s.closeWindow r).refresh := by
  have taken : s.onWindowClosure tag = (s.closeWindow r).refresh := by
    unfold State.onWindowClosure State.takeEvent
    rw [h]
  exact congrArg Host.Outcome.next taken

theorem closeWindow_decided (hw : s.windowOf r = some (k, e, closing))
    (hc : (s.eye e).holdsBefore r.basis closing = false) : s.closeWindow r = s.decideClosure r k e closing := by
  unfold State.closeWindow
  rw [hw]
  dsimp only
  rw [if_neg (by simp [hc])]

theorem decideClosure_clear (h : (s.eye e).accepted = .clear) : s.decideClosure r k e closing = s.miss r k e := by
  unfold State.decideClosure
  rw [h]

/-- The fault and the LOST code of the first cause that applies to a miss (R87). -/
def State.missCodes (s : State) (r : Record) (k : Checkpoint) (e : EyeIx) : FaultKind × Byte :=
  if k = .exit then (.wrap, 3)
  else if r.flags.unverified then (.cleared, 2)
  else if r.flags.own ∧ k = .feed ∧ r.gate = some (s.eye e).set.gate then (.releaseFail, 4)
  else (.missed, 1)

theorem missCause_codes (s : State) (r : Record) (k : Checkpoint) (e : EyeIx) :
    (s.missCause r k e).fault = some (s.missCodes r k e).1 ∧ (s.missCause r k e).lostCode = some (s.missCodes r k e).2 ∧
      decide (s.missCause r k e = .wrap) = (k == .exit) := by
  have own : s.ownAtGateEye r k e = true ↔ r.flags.own = true ∧ k = .feed ∧ r.gate = some (s.eye e).set.gate := by
    simp [State.ownAtGateEye, and_assoc]
  unfold State.missCause State.missCodes
  by_cases hk : k = .exit
  · simp [hk, RemovalCause.fault, RemovalCause.lostCode]
  · by_cases hu : r.flags.unverified = true
    · simp [hk, hu, RemovalCause.fault, RemovalCause.lostCode]
    · simp only [hk, hu, ← own]
      by_cases ho : s.ownAtGateEye r k e = true <;> simp [ho, hk, RemovalCause.fault, RemovalCause.lostCode]

/-- A miss and what follows it (R62, R87, R90). -/
theorem miss_missed (s : State) (r : Record) (k : Checkpoint) (e : EyeIx) : s.Missed r k e (s.miss r k e).refresh := by
  obtain ⟨hfault, hlost, hwrap⟩ := missCause_codes s r k e
  have removed : RemovedAs s r (s.missCause r k e) (some (.eye e)) (s.miss r k e) := removeRecord_removedAs ..
  have frame := removed.frame
  have train := removed.train
  obtain ⟨-, queue, overrun, fault, alarm, -⟩ := removed
  have followed := refresh_frame (s.miss r k e)
  have faults := refresh_faults (s.miss r k e)
  rw [hlost] at queue overrun
  rw [hwrap] at alarm
  have recorded := fault _ hfault
  refine ⟨by rw [refresh_train, train], ?_, ?_, ?_, ?_⟩
  · split
    · rename_i hroom
      have room := (queueRoom_iff s).mp hroom
      refine mem_refresh_queue (fun _ => rfl) ?_
      rw [queue]
      dsimp only
      rw [if_pos room]
      exact List.mem_append_right _ (List.mem_singleton.mpr rfl)
    · rename_i hroom
      have full := Nat.le_of_not_lt (mt (queueRoom_iff s).mpr hroom)
      rw [faults]
      exact (overrun rfl full).imp id fun hf => ⟨_, hf, rfl, rfl⟩
  · rw [faults]
    exact recorded.imp id fun hf => ⟨_, hf, rfl, rfl, rfl, rfl, rfl, rfl⟩
  · rw [followed]
    exact alarm
  · generalize (s.miss r k e).refresh = t at *
    rw [followed, frame]

/-- Settles O28: the closure is decided on the clear eye, and its record missed. -/
theorem closureOnClearEyeIsMiss : Obligations.ClosureOnClearEyeIsMiss := by
  unfold Obligations.ClosureOnClearEyeIsMiss
  intro s tag r k e closing hdue hw hclear hnone
  refine ⟨_, exec_windowClosure hdue, ?_⟩
  rw [closeWindow_decided hw hnone, decideClosure_clear hclear]
  exact miss_missed s r k e

end Sys2Proof.Machine
end

section
namespace Sys2Proof.Machine

variable {s t : State} {r : Record} {tag : Tag}

/-! ### What suspends no gate anew (R95) -/

/-- What the suspension of gates and the outputs look at, beside eyes, train, queue and the causes that come and go. -/
def State.calmView (s : State) : State :=
  { State.reset with
    travelA := s.travelA, travelB := s.travelB, lastStep := s.lastStep, gates := s.gates, reservations := s.reservations
    holders := s.holders, lineHold := s.lineHold, address := s.address, mode := s.mode }

/-- What it says field by field. -/
theorem calmView_fields (h : t.calmView = s.calmView) : t.pos = s.pos ∧ t.mode = s.mode ∧ t.lastStep = s.lastStep ∧
    t.gate = s.gate ∧ t.reservations = s.reservations ∧ t.holder = s.holder ∧ t.lineHold = s.lineHold ∧
    t.address = s.address ∧ t.travelA = s.travelA := by
  have view : ∀ u : State, (u.pos, u.mode, u.lastStep, u.gate, u.reservations, u.holder, u.lineHold, u.address, u.travelA) =
      (u.calmView.pos, u.calmView.mode, u.calmView.lastStep, u.calmView.gate, u.calmView.reservations, u.calmView.holder,
        u.calmView.lineHold, u.calmView.address, u.calmView.travelA) := fun u => by
    have pos : u.calmView.pos = u.pos := funext fun i => by cases i <;> rfl
    rw [pos]
    rfl
  have := (view t).trans ((by rw [h]) : _ = _) |>.trans (view s).symm
  simpa only [Prod.mk.injEq] using this

/-- The eyes give no cause anew (R126). -/
abbrev State.EyesCalmer (s t : State) : Prop :=
  (t.jamCause = true → s.jamCause = true) ∧ (t.levelCause = true → s.levelCause = true)

theorem eyesCalmer_of_eyes (h : t.eyes = s.eyes) : s.EyesCalmer t := by
  have jam : t.jamCause = s.jamCause := by simp only [State.jamCause, State.eye, h]
  have level : t.levelCause = s.levelCause := by simp only [State.levelCause, State.eye, h]
  exact ⟨fun hj => jam ▸ hj, fun hl => level ▸ hl⟩

theorem calmer_of_view (h : t.calmView = s.calmView) (heyes : s.EyesCalmer t)
    (hwrap : t.wrapAlarm = true → s.wrapAlarm = true) (hcause : t.trainCause = true → s.trainCause = true)
    (hfull : t.trainFull = true → s.trainFull = true) (hfeed : t.feedCount ≤ s.feedCount) : s.Calmer t := by
  obtain ⟨hpos, hmode, hstep, hgate, hres, hholder, hline, haddress, htravel⟩ := calmView_fields h
  have fewer : s.FewerCauses t :=
    ⟨haddress, hline, hwrap, hcause, fun a ha => by rw [← hholder]; exact ha, heyes.1, heyes.2, hmode⟩
  refine ⟨fun i => by rw [hpos], hmode, hstep, fun g => ?_, by rw [hres]⟩
  exact fewer.suspended (by rw [hgate]; exact ⟨rfl, rfl, rfl⟩) hfull hfeed (by rw [htravel]; exact id)

theorem State.Calmer.trans {u : State} (h : s.Calmer t) (h' : t.Calmer u) : s.Calmer u where
  pos i := (h'.pos i).trans (h.pos i)
  mode := h'.mode.trans h.mode
  step := h'.step.trans h.step
  suspended g hg := h.suspended g (h'.suspended g hg)
  reservations := h'.reservations.trans h.reservations

/-- The fault list and its overflow once a fault is recorded (R199). -/
def noteFault (faults : List FaultRecord) (overflow : Nat) (f : FaultRecord) : List FaultRecord × Nat :=
  if faults.length < 8 then (faults ++ [f], overflow) else (faults, min 255 (overflow + 1))

theorem recordFault_eq (s : State) (f : FaultRecord) : s.recordFault f = { s with
    faults := (noteFault s.faults s.overflow f).1, overflow := (noteFault s.faults s.overflow f).2 } := by
  obtain ⟨h, hf⟩ | ⟨h, hf⟩ := recordFault_cases s f
  · rw [hf, noteFault, if_pos h]
  · rw [hf, noteFault, if_neg (Nat.not_lt.mpr h)]

end Sys2Proof.Machine
end

section
namespace Sys2Proof.Machine

variable {s x : State} {m r : Record} {tag : Tag} {e : Pos} {d : DestIx} {others : List Record}

/-! ### The divert of a routed record (R151, R152) -/

/-- What the divert channel of a destination answers to the span of a record with routing position e. -/
def State.askDivert (s : State) (d : DestIx) (e : Pos) (r : Record) : Option (ChannelIx × Channel × Answer) :=
  let set := (s.dest d).set
  set.divert.map fun i =>
    (i, (s.channel i).request (s.pos (s.channel i).input) (Pos.plus e (set.xd - set.mb : Int))
      (Pos.plus e (set.xd + max 1 r.nominal + set.ma)) (some r.tag))

/-- The destination a record takes for an answer, and the fault of the answer (R152). -/
def divertTaken (d : DestIx) : Option (ChannelIx × Channel × Answer) → DestIx × Option FaultKind
  | some (_, _, .late _) => (d, some .lateDivert)
  | some (_, _, .tooLate) => (0, some .lateDivert)
  | some (_, _, .busy) => (0, some .divertBusy)
  | _ => (d, none)

/-- The channel that has answered. -/
def State.withAnswer (s : State) : Option (ChannelIx × Channel × Answer) → State
  | some (i, y, _) => s.setChannel i y
  | none => s

/-- The fault of an answer recorded. -/
def State.noteDivert (s : State) (r : Record) (d : DestIx) : Option FaultKind → State
  | some kind => s.recordFault
    { kind := kind, position := s.pos .a, input := .a, tag := some r.tag, lot := some r.lot, unit := some (.destination d) }
  | none => s

theorem withAnswer_channel (s : State) (ans : Option (ChannelIx × Channel × Answer)) (j : ChannelIx) :
    (s.withAnswer ans).channel j = match ans with
      | some (i, y, _) => if j = i then y else s.channel j
      | none => s.channel j := by
  rcases ans with _ | ⟨i, y, a⟩
  · rfl
  · dsimp only [State.withAnswer]
    split
    · rename_i h
      rw [h, setChannel_channel]
    · rename_i h
      exact setChannel_channel_ne _ _ h

/-- Two changes of one record made one after the other. -/
theorem updateRecord_updateRecord (s : State) (tag : Tag) (f g : Record → Record) (hf : ∀ y, (f y).tag = y.tag) :
    (s.updateRecord tag f).updateRecord tag g = s.updateRecord tag fun y => g (f y) := by
  unfold State.updateRecord
  dsimp only
  rw [List.map_map]
  refine congrArg (fun l => { s with train := l }) (List.map_congr_left fun y _ => ?_)
  by_cases hy : y.tag = tag
  · simp [hy, hf y]
  · simp [hy]

/-- The divert requested of a record just given its destination, and the answer acted on (R152). -/
theorem requestDivert_routed (x : State) (r : Record) (e : Pos) (d : DestIx) :
    (x.updateRecord r.tag fun y => { y with dest := some d }).requestDivert r e d =
      ((x.withAnswer (x.askDivert d e r)).updateRecord r.tag fun y =>
        { y with dest := some (divertTaken d (x.askDivert d e r)).1 }).noteDivert r d
          (divertTaken d (x.askDivert d e r)).2 := by
  have again : ∀ z : State, (z.updateRecord r.tag fun y => { y with dest := some d }).updateRecord r.tag
      (fun y => { y with dest := some 0 }) = z.updateRecord r.tag fun y => { y with dest := some 0 } := fun z =>
    updateRecord_updateRecord z r.tag _ _ fun _ => rfl
  have same : ((x.updateRecord r.tag fun y => { y with dest := some d }).dest d).set = (x.dest d).set := rfl
  unfold State.requestDivert State.askDivert
  dsimp only
  rw [same]
  cases (x.dest d).set.divert with
  | none => rfl
  | some c =>
    dsimp only [Option.map_some, State.request, State.withAnswer]
    have asked : (x.updateRecord r.tag fun y => { y with dest := some d }).channel c = x.channel c := rfl
    have here : (x.updateRecord r.tag fun y => { y with dest := some d }).pos = x.pos := funext fun i => by cases i <;> rfl
    rw [asked, here]
    have length : r.nominalUsed = max 1 r.nominal := rfl
    have cast : ((x.dest d).set.xd + r.nominalUsed + (x.dest d).set.ma : Int) =
        ((x.dest d).set.xd + (max 1 r.nominal : Nat) + (x.dest d).set.ma : Int) := by rw [length]
    rw [cast]
    generalize (x.channel c).request _ _ _ _ = q
    obtain ⟨y, a⟩ := q
    cases a
    case tooLate | busy =>
      dsimp only [divertTaken, State.noteDivert]
      rw [State.divertFault]
      exact congrArg (fun z : State => z.recordFault _) (again (x.setChannel c y))
    all_goals rfl

/-! ### Routing of a record that stands in the train (R151, R155) -/

/-- The record with the destination that the divert's answer at destination d leaves it. -/
def State.routedRecord (s : State) (m : Record) (e : Pos) (d : DestIx) : Record :=
  { m with dest := some (divertTaken d (s.askDivert d e m)).1 }

/-- The tracker beside its train once a record has been routed to d: the channel that answered, and the fault of the
answer. -/
def State.routing (s : State) (m : Record) (e : Pos) (d : DestIx) : State :=
  (s.withAnswer (s.askDivert d e m)).noteDivert m d (divertTaken d (s.askDivert d e m)).2

/-- What is routed, once it stands in its place. -/
def State.routed (s : State) (m : Record) (e : Pos) (d : DestIx) (others : List Record) : State :=
  { s.routing m e d with train := insertRecord (s.routedRecord m e d) others }

theorem withAnswer_frame (s : State) (ans : Option (ChannelIx × Channel × Answer)) :
    s.withAnswer ans = { s with channels := (s.withAnswer ans).channels } := by
  rcases ans with _ | ⟨i, y, a⟩ <;> rfl

theorem noteDivert_frame (s : State) (r : Record) (d : DestIx) (kind : Option FaultKind) :
    s.noteDivert r d kind = { s with
      faults := (s.noteDivert r d kind).faults, overflow := (s.noteDivert r d kind).overflow } := by
  cases kind with
  | none => rfl
  | some kind =>
    dsimp only [State.noteDivert]
    rw [recordFault_eq]

theorem routing_frame (s : State) (m : Record) (e : Pos) (d : DestIx) : s.routing m e d = { s with
    channels := (s.withAnswer (s.askDivert d e m)).channels, faults := (s.routing m e d).faults
    overflow := (s.routing m e d).overflow } := by
  have noted : s.routing m e d = { s.withAnswer (s.askDivert d e m) with
      faults := (s.routing m e d).faults, overflow := (s.routing m e d).overflow } := noteDivert_frame ..
  exact noted.trans (congrArg (fun u : State => { u with
    faults := (s.routing m e d).faults, overflow := (s.routing m e d).overflow }) (withAnswer_frame s (s.askDivert d e m)))

/-- A record that departs leaves the train, and the others stand as they were (R156). -/
theorem depart_train (s : State) {r : Record} (h : r.dest.isSome = true) :
    (s.depart r).train = s.train.filter fun x => x.tag != r.tag := by
  obtain ⟨d, hd⟩ := Option.isSome_iff_exists.mp h
  have counted : (s.countIntoStack d r.lot).besideLots = s.besideLots := (besideLots_kept _).countIntoStack rfl d r.lot
  have removed := (removeRecord_removedAs (s.countIntoStack d r.lot) r .departed none).train
  unfold State.depart
  rw [hd]
  dsimp only
  rw [removed, (train_of_besideLots counted).1]

/-- A routed record whose departure is behind departs at once (R155). -/
theorem departIfPassed_behind (hrole : s.role = some .outlet) (hr : s.findRecord tag = some r)
    (hbehind : ((s.departureAt r).any fun y => atOrPast (s.pos .a) y) = true) : s.departIfPassed tag = s.depart r := by
  unfold State.departIfPassed
  rw [hr]
  dsimp only
  split
  · rename_i p hp
    rw [hp] at hbehind
    rw [if_pos ⟨hrole, hbehind⟩]
  · rename_i hnone
    rw [hnone] at hbehind
    cases hbehind

theorem departureAt_dest (h : (s.departureAt r).isSome = true) : r.dest.isSome = true := by
  unfold State.departureAt at h
  split at h
  · rename_i hd _
    rw [hd]
    rfl
  · cases h

theorem updateRecord_dest_insertRecord (x : State) (ht : x.train = insertRecord m others)
    (hothers : ∀ y ∈ others, y.tag ≠ m.tag) (d : Option DestIx) :
    (x.updateRecord m.tag fun y => { y with dest := d }) =
      { x with train := insertRecord { m with dest := d } others } := by
  unfold State.updateRecord
  rw [ht, map_insertRecord (fun y => { y with dest := d }) ⟨rfl, rfl, rfl⟩ hothers]

/-- Routing: the record takes its destination and its divert is asked for; it departs at once where its departure is behind. -/
theorem route_routed (hrole : x.role = some .outlet) (hrev : x.travelA.reverse = false)
    (ht : x.train = insertRecord m others) (hothers : ∀ y ∈ others, y.tag ≠ m.tag) (hlead : m.lead = some e)
    (hd : x.routeOf m = d) :
    (((x.departureAt (x.routedRecord m e d)).all fun y => !atOrPast (x.pos .a) y) = true →
        x.route m.tag = x.routed m e d others) ∧
      (¬ ((x.departureAt (x.routedRecord m e d)).all fun y => !atOrPast (x.pos .a) y) = true →
        (x.route m.tag).train = others) := by
  have found : x.findRecord m.tag = some m := by
    rw [State.findRecord, ht]
    exact find_insertRecord hothers
  have asked : x.route m.tag = (x.routed m e d others).departIfPassed m.tag := by
    have routing : (x.updateRecord m.tag fun y => { y with dest := some d }).requestDivert m e d =
        x.routed m e d others := by
      have here : (x.withAnswer (x.askDivert d e m)).train = insertRecord m others := by
        rw [withAnswer_frame]
        exact ht
      rw [requestDivert_routed, updateRecord_dest_insertRecord _ here hothers]
      unfold State.routed State.routing State.routedRecord
      generalize (divertTaken d (x.askDivert d e m)).2 = kind
      cases kind with
      | none => rfl
      | some kind =>
        dsimp only [State.noteDivert]
        rw [recordFault_eq, recordFault_eq]
        rfl
    unfold State.route
    rw [if_neg (by rw [State.outletWaits, hrev]; simp), found]
    dsimp only
    rw [hlead]
    dsimp only
    rw [hd, routing]
  have routedFound : (x.routed m e d others).findRecord m.tag = some (x.routedRecord m e d) :=
    find_insertRecord (r := x.routedRecord m e d) hothers
  have frame := routing_frame x m e d
  have departure : (x.routed m e d others).departureAt = x.departureAt := by
    rw [State.routed, frame]
    rfl
  have here : (x.routed m e d others).pos = x.pos := by
    rw [State.routed, frame]
    exact funext fun i => by cases i <;> rfl
  have role : (x.routed m e d others).role = some .outlet := by
    rw [State.routed, frame]
    exact hrole
  refine ⟨fun hahead => ?_, fun hbehind => ?_⟩
  · rw [asked, departIfPassed_ahead routedFound (by rw [departure, here]; exact hahead)]
  · have behind : ((x.departureAt (x.routedRecord m e d)).any fun y => atOrPast (x.pos .a) y) = true := by
      cases hp : x.departureAt (x.routedRecord m e d) with
      | none => simp [hp] at hbehind
      | some p => simpa [hp] using hbehind
    rw [asked, departIfPassed_behind role routedFound (by rw [departure, here]; exact behind), depart_train _ rfl]
    exact filter_insertRecord (y := x.routedRecord m e d) hothers

end Sys2Proof.Machine
end

section
namespace Sys2Proof.Machine

variable {s d t : State} {r m : Record} {tag : Tag} {k : Checkpoint} {e : EyeIx} {closing : Pos} {pre : Option Record}

/-! ### O29: a closure on a blocked eye (R84 to R86) -/

/-- Another record that awaits its trailing edge where a window closes (R85). -/
def State.preceding (s : State) (r : Record) (k : Checkpoint) : Option Record :=
  s.train.find? fun y => y.awaitsTrail k && y.lane == r.lane && y.tag != r.tag

/-- The closing record, DOUBLE and REJECT where another record precedes it (R85). -/
def Record.joined (r : Record) (pre : Option Record) : Record :=
  { r with flags := { r.flags with double := r.flags.double || pre.isSome, reject := r.flags.reject || pre.isSome } }

/-- The other records, with the preceding one DOUBLE and REJECT (R85). -/
def State.besides (s : State) (r : Record) (pre : Option Record) : List Record :=
  (s.train.map fun y => if (pre.any fun x => x.tag == y.tag) = true then y.doubled else y).filter fun y => y.tag != r.tag

/-- The DOUBLE fault of a closure (R85). -/
def State.noteDouble (s : State) (r : Record) (e : EyeIx) (closing : Pos) (pre : Option Record) : State :=
  if pre.isSome then s.recordFault
    { kind := .double, position := closing, input := r.basis, tag := some r.tag, lot := some r.lot, unit := some (.eye e) }
  else s

/-- The MARK of a preceding record whose HANDOFF is gone (R144). -/
def State.markGone (s : State) (k : Checkpoint) : Option Record → State
  | some y => s.exitDoubleMark y k
  | none => s

/-- The tracker beside its train once a closure on a blocked eye is decided and before the record moves on. -/
def State.decided (s : State) (r : Record) (k : Checkpoint) (e : EyeIx) (closing : Pos) : State :=
  (s.markGone k (s.preceding r k)).noteDouble r e closing (s.preceding r k)

theorem filter_map_tag (l : List Record) (tag : Tag) (f : Record → Record) (hf : ∀ y, (f y).tag = y.tag) :
    (l.map fun y => if y.tag == tag then f y else y).filter (fun x => x.tag != tag) = l.filter fun x => x.tag != tag := by
  induction l with
  | nil => rfl
  | cons y l ih =>
    by_cases hy : y.tag = tag
    · have : (f y).tag = tag := (hf y).trans hy
      simpa [hy, this] using ih
    · simpa [hy] using ih

theorem preceding_some {y : Record} (h : s.preceding r k = some y) : y ∈ s.train ∧ y.tag ≠ r.tag := by
  refine ⟨List.mem_of_find?_eq_some h, ?_⟩
  have := List.find?_some h
  simp only [Bool.and_eq_true, bne_iff_ne] at this
  exact this.2

/-- The MARK and the DOUBLE fault look at no record of the train. -/
theorem exitDoubleMark_train (s : State) (y : Record) (k : Checkpoint) (l : List Record) :
    State.exitDoubleMark { s with train := l } y k = { s.exitDoubleMark y k with train := l } := by
  have same : State.handoffQueued { s with train := l } y.tag = s.handoffQueued y.tag := rfl
  unfold State.exitDoubleMark
  rw [same]
  split
  · rw [offerOrDrop_eq _ _ _ rfl, offerOrDrop_eq _ _ _ rfl]
    dsimp only
    split
    · rfl
    · rw [State.txOverrun, State.txOverrun, recordFault_eq, recordFault_eq]
      rfl
  · rfl

/-- A closure on a blocked eye, up to the record's moving on (R85, R86, R144). -/
theorem decideClosure_blocked (hacc : (s.eye e).accepted = .blocked) (hr : s.findRecord r.tag = some r) :
    ∃ d : State, d = { s.decided r k e closing with train := d.train } ∧
      d.findRecord r.tag = some (r.joined (s.preceding r k)) ∧
      d.train.filter (fun x => x.tag != r.tag) = s.besides r (s.preceding r k) ∧
      s.decideClosure r k e closing = d.passOn r.tag k e := by
  unfold State.decided
  cases hpre : s.preceding r k with
  | none =>
    refine ⟨s, rfl, ?_, ?_, ?_⟩
    · simp [hr, Record.joined]
    · simp [State.besides]
    · unfold State.decideClosure
      rw [hacc]
      dsimp only
      rw [← State.preceding, hpre]
  | some y =>
    obtain ⟨-, hne⟩ := preceding_some hpre
    let both := (s.updateRecord y.tag Record.doubled).updateRecord r.tag Record.doubled
    have marked : both.exitDoubleMark y k = { s.exitDoubleMark y k with train := both.train } := exitDoubleMark_train s y k both.train
    have noted : ∀ u : State, State.noteDouble { u with train := both.train } r e closing (some y) =
        { u.noteDouble r e closing (some y) with train := both.train } := fun u => by
      dsimp only [State.noteDouble, Option.isSome_some]
      rw [if_pos rfl, if_pos rfl, recordFault_eq, recordFault_eq]
    refine ⟨(both.exitDoubleMark y k).noteDouble r e closing (some y), ?_, ?_, ?_, ?_⟩
    · rw [marked, noted]
      rfl
    · have found : both.findRecord r.tag = some (r.joined (some y)) := by
        have first := findRecord_updateRecord s y.tag r.tag Record.doubled fun _ => rfl
        have second := findRecord_updateRecord (s.updateRecord y.tag Record.doubled) r.tag r.tag Record.doubled fun _ => rfl
        rw [first, hr] at second
        refine second.trans ?_
        simp [hne.symm, Record.joined, Record.doubled]
      rw [marked, noted]
      exact found
    · have train : both.train.filter (fun x => x.tag != r.tag) = s.besides r (some y) := by
        have one : (s.train.map fun x => if x.tag == y.tag then x.doubled else x) =
            s.train.map fun x => if (Option.any (fun z : Record => z.tag == x.tag) (some y)) = true then x.doubled else x :=
          List.map_congr_left fun x _ => by
            by_cases hx : x.tag = y.tag
            · simp [hx]
            · simp [hx, Ne.symm hx]
        exact (filter_map_tag _ _ Record.doubled fun _ => rfl).trans (congrArg (List.filter fun x => x.tag != r.tag) one)
      rw [marked, noted]
      exact train
    · unfold State.decideClosure
      rw [hacc]
      dsimp only
      rw [← State.preceding, hpre]
      rfl

/-- A record in no wait: taking it out of the waiting closures changes nothing. -/
theorem stopWaiting_none (h : ∀ w ∈ s.waiting, w.tag ≠ tag) : s.stopWaiting tag = s := by
  have : (s.waiting.filter fun w => w.tag != tag) = s.waiting := List.filter_eq_self.mpr fun w hw => by simpa using h w hw
  unfold State.stopWaiting
  rw [this]

/-- The closing record moved on as at its expected crossing, at each checkpoint (R58, R60, R61, R86). -/
def State.movedOn (d : State) (m : Record) (e : EyeIx) : Checkpoint → State
  | .feed => d.replaceRecord { m with stage := .entering, lead := some (Pos.plus m.p (d.eye e).set.offset) }
  | .entry => (d.replaceRecord (d.rebased m (Pos.plus (d.pos .b) (-(m.h : Int))) .entering)).markFresh m.tag
  | .exit => (d.replaceRecord { m with
      stage := .leaving, lead := some (Pos.plus m.p (d.eye e).set.offset) }).exitSteps m.tag none
  | .outlet => (d.replaceRecord { m with
      stage := .entering, lead := some (Pos.plus m.p (d.eye e).set.offset) }).route m.tag

theorem passOn_found (hr : d.findRecord tag = some m) (hw : ∀ w ∈ d.waiting, w.tag ≠ m.tag) {l : Lane}
    (hlane : m.lane = l) (hoff : d.offsetAt k l = (d.eye e).set.offset) : d.passOn tag k e = d.movedOn m e k := by
  have back : Pos.plus (Pos.plus m.p (d.eye e).set.offset) (-(d.eye e).set.offset) = m.p := plus_plus_neg _ _
  unfold State.passOn
  rw [hr]
  dsimp only
  unfold State.advanceLead
  rw [stopWaiting_none hw, hlane, hoff, back]
  cases k with
  | feed =>
    have found := replaceRecord_findRecord d { m with stage := .entering, lead := some (Pos.plus m.p (d.eye e).set.offset) }
    dsimp only at found ⊢
    unfold State.clearIfMoved
    rw [found]
    exact if_pos rfl
  | entry => rfl
  | exit => rfl
  | outlet => rfl

end Sys2Proof.Machine
end

section
namespace Sys2Proof.Machine

variable {s d t : State} {r m y : Record} {tag : Tag} {k : Checkpoint} {e : EyeIx} {closing : Pos} {pre : Option Record}

/-! #### What a decided closure notes and queues -/

theorem noteDouble_eq (s : State) (r : Record) (e : EyeIx) (closing : Pos) (pre : Option Record) :
    s.noteDouble r e closing pre = if pre.isSome then s.recordFault
      { kind := .double, position := closing, input := r.basis, tag := some r.tag, lot := some r.lot, unit := some (.eye e) }
    else s := rfl

theorem noteDouble_frame (s : State) (r : Record) (e : EyeIx) (closing : Pos) (pre : Option Record) :
    s.noteDouble r e closing pre = { s with
      faults := (s.noteDouble r e closing pre).faults, overflow := (s.noteDouble r e closing pre).overflow } := by
  unfold State.noteDouble
  split
  · rw [recordFault_eq]
  · rfl

/-- The MARK where it is called for (R144), in the statement's words. -/
theorem markGone_exit (s : State) (pre : Option Record) : s.markGone .exit pre =
    match pre.filter (fun y => !y.flags.reject && s.queue.all fun q =>
      match q.frame with
      | .handoff f => f.tag != y.tag
      | _ => true) with
    | none => s
    | some y =>
      if s.queue.length < 16 then { s with queue := s.queue ++ [TxFrame.new (.mark y.tag 1) 0] }
      else s.recordFault { kind := .txOverrun, position := s.pos .a, input := .a, tag := some y.tag } := by
  cases pre with
  | none => rfl
  | some y =>
    have gone : (s.queue.all fun q => match q.frame with
        | .handoff f => f.tag != y.tag
        | _ => true) = !s.handoffQueued y.tag := by
      unfold State.handoffQueued
      rw [List.not_any_eq_all_not]
      refine congrArg s.queue.all (funext fun q => ?_)
      cases q.frame <;> rfl
    rw [Option.filter_some, gone]
    dsimp only [State.markGone]
    unfold State.exitDoubleMark
    cases y.flags.reject <;> cases s.handoffQueued y.tag <;>
      simp only [Bool.not_true, Bool.not_false, Bool.and_false, Bool.and_true, and_true, and_false, if_true, if_false,
        Bool.false_eq_true]
    rw [offerOrDrop_eq _ _ _ rfl]
    rfl

theorem markGone_elsewhere (s : State) (hk : k ≠ .exit) (pre : Option Record) : s.markGone k pre = s := by
  cases pre with
  | none => rfl
  | some y =>
    dsimp only [State.markGone]
    unfold State.exitDoubleMark
    rw [if_neg fun h => hk h.1]

theorem markGone_leaves (s : State) (k : Checkpoint) (pre : Option Record) :
    (s.markGone k pre).besideTrain = s.besideTrain ∧ (s.markGone k pre).feedCount = s.feedCount ∧
      s.markGone k pre = { s with
        queue := (s.markGone k pre).queue, faults := (s.markGone k pre).faults
        overflow := (s.markGone k pre).overflow } := by
  cases pre with
  | none => exact ⟨rfl, rfl, rfl⟩
  | some y =>
    dsimp only [State.markGone]
    unfold State.exitDoubleMark
    split
    · rw [offerOrDrop_eq _ _ _ rfl]
      split
      · refine ⟨rfl, ?_, rfl⟩
        rw [State.feedCount, push_queue, List.countP_append]
        rfl
      · rw [State.txOverrun, recordFault_eq]
        exact ⟨rfl, rfl, rfl⟩
    · exact ⟨rfl, rfl, rfl⟩

/-- What is noted and queued before the record moves on is nothing that pins and reservations follow. -/
theorem decided_leaves (s : State) (r : Record) (k : Checkpoint) (e : EyeIx) (closing : Pos) :
    (s.decided r k e closing).besideTrain = s.besideTrain ∧ (s.decided r k e closing).feedCount = s.feedCount ∧
      s.decided r k e closing = { s with
        queue := (s.decided r k e closing).queue, faults := (s.decided r k e closing).faults
        overflow := (s.decided r k e closing).overflow } := by
  obtain ⟨beside, feed, frame⟩ := markGone_leaves s k (s.preceding r k)
  have noted := noteDouble_frame (s.markGone k (s.preceding r k)) r e closing (s.preceding r k)
  have here : s.decided r k e closing = (s.markGone k (s.preceding r k)).noteDouble r e closing (s.preceding r k) := rfl
  rw [← here] at noted
  generalize s.markGone k (s.preceding r k) = u at *
  generalize s.decided r k e closing = v at *
  refine ⟨?_, ?_, ?_⟩
  · rw [noted]
    exact beside
  · rw [noted]
    exact feed
  · have queue : v.queue = u.queue := by rw [noted]
    rw [queue]
    exact noted.trans (congrArg (fun x : State => { x with faults := v.faults, overflow := v.overflow }) frame)

/-! #### The train with the record moved on -/

/-- The train with the closing record in its new place has as many records as before. -/
theorem besides_length (ht : s.TrainSound) (hr : r ∈ s.train) (hpre : ∀ x ∈ pre, x.tag ≠ r.tag) (m : Record) :
    (insertRecord m (s.besides r pre)).length = s.train.length := by
  obtain ⟨-, htags, -⟩ := ht
  let f : Record → Record := fun y => if (pre.any fun x => x.tag == y.tag) = true then y.doubled else y
  have tags : (s.train.map f).map (·.tag) = s.train.map (·.tag) := by
    rw [List.map_map]
    refine List.map_congr_left fun y _ => ?_
    dsimp only [Function.comp, f]
    split <;> rfl
  have member : r ∈ s.train.map f := by
    refine List.mem_map.mpr ⟨r, hr, if_neg ?_⟩
    cases hp : pre with
    | none => simp
    | some x => simpa using hpre x hp
  have count := filter_tag_length (l := s.train.map f) (by rw [tags]; exact htags) member
  rw [List.length_map] at count
  rw [length_insertRecord]
  exact count

/-- The record moved on, before what follows: the train with it in its place, and what the closure noted. -/
def State.placed (s : State) (r : Record) (k : Checkpoint) (e : EyeIx) (closing : Pos) (m : Record) : State :=
  { s.decided r k e closing with train := insertRecord m (s.besides r (s.preceding r k)) }

theorem placed_leaves (ht : s.TrainSound) (hr : r ∈ s.train) (m : Record) :
    (s.placed r k e closing m).besideTrain = s.besideTrain ∧ (s.placed r k e closing m).feedCount = s.feedCount ∧
      (s.placed r k e closing m).trainFull = s.trainFull := by
  obtain ⟨beside, feed, -⟩ := decided_leaves s r k e closing
  refine ⟨beside, feed, ?_⟩
  have count := besides_length (pre := s.preceding r k) ht hr (fun x hx => (preceding_some hx).2) m
  unfold State.trainFull
  rw [← count]
  rfl

theorem besides_tags (s : State) (r : Record) (pre : Option Record) : ∀ y ∈ s.besides r pre, y.tag ≠ r.tag := fun y hy => by
  have := (List.mem_filter.mp hy).2
  simpa using this

end Sys2Proof.Machine
end

section
namespace Sys2Proof.Machine

variable {s t d : State} {r m y : Record} {tag : Tag} {k : Checkpoint} {e : EyeIx} {closing : Pos} {pre : Option Record}

/-! #### The passage at each checkpoint -/

theorem replaceRecord_placed (hd : d = { s.decided r k e closing with train := d.train })
    (hothers : d.train.filter (fun x => x.tag != r.tag) = s.besides r (s.preceding r k)) (hm : m.tag = r.tag) :
    d.replaceRecord m = s.placed r k e closing m := by
  unfold State.replaceRecord State.placed
  rw [hm, hothers]
  exact congrArg (fun u : State => { u with train := insertRecord m (s.besides r (s.preceding r k)) }) hd

/-- Away from the exit a closure notes its DOUBLE fault and nothing else. -/
theorem placed_elsewhere (hk : k ≠ .exit) (s : State) (r : Record) (e : EyeIx) (closing : Pos) (m : Record) :
    s.placed r k e closing m = { s.noteDouble r e closing (s.preceding r k) with
      train := insertRecord m (s.besides r (s.preceding r k)) } := by
  unfold State.placed State.decided
  rw [markGone_elsewhere s hk]

theorem placed_refresh (hp : s.OutputsFollow) (ht : s.TrainSound) (hr : r ∈ s.train) (m : Record) :
    (s.placed r k e closing m).refresh = (s.placed r k e closing m).alertAfresh := by
  obtain ⟨beside, feed, full⟩ := placed_leaves (k := k) (e := e) (closing := closing) ht hr m
  obtain ⟨hshown, hres⟩ := hp
  exact refresh_besideTrain beside full feed hshown hres

/-- The closing record with its lead edge at its expected crossing (R86). -/
def State.crossing (s : State) (r : Record) (k : Checkpoint) (e : EyeIx) (stage : Stage) : Record :=
  { r.joined (s.preceding r k) with stage := stage, lead := some (Pos.plus r.p (s.eye e).set.offset) }

theorem passedOn_feed (hp : s.OutputsFollow) (ht : s.TrainSound) (hr : r ∈ s.train) :
    s.PassedOn r .feed e closing (s.placed r .feed e closing (s.crossing r .feed e .entering)).refresh := by
  rw [placed_refresh hp ht hr, placed_elsewhere (by simp)]
  exact ⟨fun _ => rfl, by simp, by simp, by simp, by simp⟩

theorem passedOn_entry (hp : s.OutputsFollow) (ht : s.TrainSound) (hr : r ∈ s.train) :
    s.PassedOn r .entry e closing ((s.placed r .entry e closing (s.rebased (r.joined (s.preceding r .entry))
      (Pos.plus (s.pos .b) (-(r.h : Int))) .entering)).markFresh r.tag).refresh := by
  obtain ⟨hshown, hres⟩ := id hp
  have frame := noteDouble_frame s r e closing (s.preceding r .entry)
  have fresh : (s.noteDouble r e closing (s.preceding r .entry)).freshWindows = s.freshWindows := by rw [frame]
  have followed : ∀ m, ((s.placed r .entry e closing m).markFresh r.tag).refresh =
      State.alertAfresh { s.noteDouble r e closing (s.preceding r .entry) with
        train := insertRecord m (s.besides r (s.preceding r .entry)), freshWindows := r.tag :: s.freshWindows } := fun m => by
    obtain ⟨beside, feed, full⟩ := placed_leaves (k := .entry) (e := e) (closing := closing) ht hr m
    have after : ((s.placed r .entry e closing m).markFresh r.tag).refresh =
        ((s.placed r .entry e closing m).markFresh r.tag).alertAfresh :=
      refresh_besideTrain (s := s) beside full feed hshown hres
    rw [after, placed_elsewhere (by simp), ← fresh]
    rfl
  rw [followed]
  exact ⟨by simp, fun _ => rfl, by simp, by simp, by simp⟩

/-- The announcement looks at no record of the train, nor at the exit reject-next. -/
theorem announce_left (s : State) (r : Record) (train : List Record) (x : Bool) :
    State.announce { s with train := train, exitRejectNext := x } r =
      { s.announce r with train := train, exitRejectNext := x } := by
  unfold State.announce
  rw [recordFault_eq, recordFault_eq]
  dsimp only
  split <;> rfl

theorem announce_at {p : Pos} {n : Seq} (hpos : s.pos .b = p) (hseq : s.passageSeq = n) (r : Record) : s.announce r =
    if s.queue.length < 16 then
      { s with queue := s.queue ++ [TxFrame.new (.handoff (handoffFrame r)) (r.lead.getD 0)] }
    else
      { s.recordFault { kind := .txOverrun, position := p, input := .b, tag := some r.tag, lot := some r.lot } with
        passageSeq := n + 1 } := by
  subst hpos hseq
  rfl

/-- The record that passes the exit, its HANDOFF announced (R141 to R145). -/
theorem passedOn_exit (hp : s.OutputsFollow) (ht : s.TrainSound) (hr : r ∈ s.train)
    (hd : d = { s.decided r .exit e closing with train := d.train })
    (hothers : d.train.filter (fun x => x.tag != r.tag) = s.besides r (s.preceding r .exit)) :
    s.PassedOn r .exit e closing
      ((d.replaceRecord (s.crossing r .exit e .leaving)).exitSteps r.tag none).refresh := by
  obtain ⟨hshown, hres⟩ := id hp
  let leaving := s.leavingRecord (s.crossing r .exit e .leaving)
  obtain ⟨-, -, frame⟩ := decided_leaves s r .exit e closing
  have next : d.exitRejectNext = s.exitRejectNext := by rw [hd, frame]
  have record : d.leavingRecord (s.crossing r .exit e .leaving) = leaving := by
    unfold State.leavingRecord
    rw [next]
    rfl
  have left : d.leave (s.crossing r .exit e .leaving) = { s.placed r .exit e closing leaving with exitRejectNext := false } := by
    unfold State.leave
    rw [record]
    exact congrArg (fun u : State => { u with exitRejectNext := false }) (replaceRecord_placed (m := leaving) hd hothers rfl)
  have steps : (d.replaceRecord (s.crossing r .exit e .leaving)).exitSteps r.tag none =
      { (s.decided r .exit e closing).announce leaving with
        train := insertRecord leaving (s.besides r (s.preceding r .exit)), exitRejectNext := false } := by
    have reckoned := exitSteps_reckoned d (s.crossing r .exit e .leaving)
    rw [queueHandoff_eq, record, left] at reckoned
    exact reckoned.trans (announce_left (s.decided r .exit e closing) leaving _ false)
  obtain ⟨beside, feed, full⟩ := placed_leaves (k := .exit) (e := e) (closing := closing) ht hr leaving
  have followed : ((d.replaceRecord (s.crossing r .exit e .leaving)).exitSteps r.tag none).refresh = State.alertAfresh
      { (s.decided r .exit e closing).announce leaving with
        train := insertRecord leaving (s.besides r (s.preceding r .exit)), exitRejectNext := false } := by
    rw [steps]
    refine refresh_besideTrain (s := s) ?_ full ?_ hshown hres
    · have := (announce_besideTrain (s.decided r .exit e closing) leaving).trans beside
      exact this
    · exact (announce_feedCount (s.decided r .exit e closing) leaving).trans feed
  have seq : (s.decided r .exit e closing).passageSeq = s.passageSeq := by rw [frame]
  have pos : (s.decided r .exit e closing).pos .b = s.pos .b := by
    rw [frame]
    rfl
  rw [followed]
  refine ⟨by simp, by simp, fun _ => ?_, by simp, by simp⟩
  rw [announce_at pos seq]
  unfold State.decided
  rw [markGone_exit]
  rfl

theorem passedOn_outlet_reverse (hp : s.OutputsFollow) (ht : s.TrainSound) (hr : r ∈ s.train) (hrev : s.travelA.reverse = true) :
    s.PassedOn r .outlet e closing
      ((s.placed r .outlet e closing (s.crossing r .outlet e .entering)).route r.tag).refresh := by
  obtain ⟨-, -, frame⟩ := decided_leaves s r .outlet e closing
  have waits : (s.placed r .outlet e closing (s.crossing r .outlet e .entering)).outletWaits = true := by
    rw [State.placed, frame]
    exact hrev
  have still : (s.placed r .outlet e closing (s.crossing r .outlet e .entering)).route r.tag =
      s.placed r .outlet e closing (s.crossing r .outlet e .entering) := by
    unfold State.route
    rw [if_pos waits]
  rw [still, placed_refresh hp ht hr, placed_elsewhere (by simp)]
  refine ⟨by simp, by simp, by simp, fun _ hforward => ?_, fun _ _ => rfl⟩
  rw [hrev] at hforward
  cases hforward

/-- The outputs after a channel has been asked: it shows what it shows, and the others what they showed. -/
theorem shown_withAnswer (hshown : ∀ c, s.channel c = s.shown (s.channel c)) (ans : Option (ChannelIx × Channel × Answer))
    (j : ChannelIx) : s.shown ((s.withAnswer ans).channel j) = match ans with
      | some (i, y, _) => if j = i then s.shown y else s.channel j
      | none => s.channel j := by
  rw [withAnswer_channel]
  rcases ans with _ | ⟨i, y, a⟩
  · exact (hshown j).symm
  · dsimp only
    split
    · rfl
    · exact (hshown j).symm

theorem askDivert_congr (hdests : t.dests = s.dests) (hchannels : t.channels = s.channels) (hpos : t.pos = s.pos) (x : DestIx)
    (p : Pos) (r : Record) : t.askDivert x p r = s.askDivert x p r := by
  unfold State.askDivert State.dest State.channel
  rw [hdests, hchannels, hpos]

theorem withAnswer_of_channels (h : t.channels = s.channels) (ans : Option (ChannelIx × Channel × Answer)) :
    t.withAnswer ans = { t with channels := (s.withAnswer ans).channels } := by
  rcases ans with _ | ⟨i, y, a⟩
  · dsimp only [State.withAnswer]
    rw [← h]
  · dsimp only [State.withAnswer, State.setChannel]
    rw [h]

/-- The fault of a divert's answer is noted beside the channels and the train. -/
theorem noteDivert_beside (s : State) (r : Record) (x : DestIx) (kind : Option FaultKind) (channels : Vector Channel 8)
    (train : List Record) : State.noteDivert { s with channels := channels, train := train } r x kind =
      { s.noteDivert r x kind with channels := channels, train := train } := by
  cases kind with
  | none => rfl
  | some kind =>
    dsimp only [State.noteDivert]
    rw [recordFault_eq, recordFault_eq]
    rfl

/-- The fault noted, said of one position of input A. -/
theorem noteDivert_at {p : Pos} (hpos : s.pos .a = p) (r : Record) (x : DestIx) (kind : Option FaultKind) :
    s.noteDivert r x kind = match kind with
      | some kind => s.recordFault
        { kind := kind, position := p, input := .a, tag := some r.tag, lot := some r.lot, unit := some (.destination x) }
      | none => s := by
  subst hpos
  cases kind <;> rfl

/-- What follows a routed closure: the outputs of the channel asked, and ALERT. -/
theorem placed_routed_refresh (hp : s.OutputsFollow) (ht : s.TrainSound) (hr : r ∈ s.train)
    {ans : Option (ChannelIx × Channel × Answer)} {d : DestIx} {kind : Option FaultKind} {x : State}
    (hx : x = { (s.noteDouble r e closing (s.preceding r .outlet)).noteDivert m d kind with
      channels := (s.withAnswer ans).channels, train := insertRecord y (s.besides r (s.preceding r .outlet)) }) :
    (∀ j, x.refresh.channel j = s.shown ((s.withAnswer ans).channel j)) ∧
    x.refresh = { (s.noteDouble r e closing (s.preceding r .outlet)).noteDivert m d kind with
      channels := x.refresh.channels, alertPin := x.refresh.alertPin
      train := insertRecord y (s.besides r (s.preceding r .outlet)) } := by
  have frame : x = { s with channels := x.channels, train := x.train, faults := x.faults, overflow := x.overflow } := by
    rw [hx, noteDivert_frame, noteDouble_frame]
  have full : x.trainFull = s.trainFull := by
    have count := besides_length (pre := s.preceding r .outlet) ht hr (fun x hx => (preceding_some hx).2) y
    unfold State.trainFull
    rw [← count, hx]
  have calmer : s.Calmer x := by
    have view : x.calmView = s.calmView := by
      rw [frame]
      rfl
    refine calmer_of_view view (eyesCalmer_of_eyes (by rw [frame])) ?_ ?_ (fun h => full ▸ h) ?_
    · rw [frame]
      exact id
    · rw [frame]
      exact id
    · rw [frame]
      exact Nat.le_refl _
  have outputs := calmer.refresh_follows hp
  refine ⟨fun j => ?_, ?_⟩
  · rw [outputs]
    have asked : x.channel j = (s.withAnswer ans).channel j := by
      rw [hx]
      rfl
    rw [← asked]
    simp [State.alertAfresh, State.channel]
  · rw [outputs]
    generalize (Vector.ofFn fun c => s.shown (x.channel c)) = channels
    rw [hx]
    rfl

/-- The record that passes the outlet's entry eye in forward travel, routed (R86, R151, R152). -/
theorem passedOn_outlet (hp : s.OutputsFollow) (ht : s.TrainSound) (hr : r ∈ s.train) (hrole : s.role = some .outlet)
    (hrev : s.travelA.reverse = false) :
    s.PassedOn r .outlet e closing
      ((s.placed r .outlet e closing (s.crossing r .outlet e .entering)).route r.tag).refresh := by
  obtain ⟨hshown, hres⟩ := id hp
  obtain ⟨-, -, frame⟩ := decided_leaves s r .outlet e closing
  let expected := Pos.plus r.p (s.eye e).set.offset
  let m := s.crossing r .outlet e .entering
  let others := s.besides r (s.preceding r .outlet)
  let x := s.placed r .outlet e closing m
  let D : DestIx := if m.flags.reject = true ∨ r.lot = 255 ∨
      ((m.flags.double || m.flags.stray || m.flags.unverified || m.flags.length) = true ∧ s.doubtfulToClass = false) then
        s.rejectDest
      else (s.classOf r.cls).dest
  let ans := s.askDivert D expected m
  have here : x = { s with
      train := x.train, queue := x.queue, faults := x.faults, overflow := x.overflow } :=
    congrArg (fun u : State => { u with train := x.train }) frame
  have route : x.routeOf m = D := by
    rw [routeOf_eq, here]
    rfl
  have pos : x.pos = s.pos := by
    rw [here]
    exact funext fun i => by cases i <;> rfl
  have channels : x.channels = s.channels := by rw [here]
  have asks : x.askDivert D expected m = ans := askDivert_congr (by rw [here]) channels pos D expected m
  have departs : x.departureAt = s.departureAt := by
    rw [here]
    rfl
  obtain ⟨ahead, behind⟩ := route_routed (x := x) (m := m) (e := expected) (others := others) (d := D) (by rw [here]; exact hrole)
    (by rw [here]; exact hrev) rfl (besides_tags s r _) rfl route
  rw [departs, pos] at ahead behind
  have record : x.routedRecord m expected D = { m with dest := some (divertTaken D ans).1 } := by
    unfold State.routedRecord
    rw [asks]
  rw [record] at ahead behind
  have position : (s.noteDouble r e closing (s.preceding r .outlet)).pos .a = s.pos .a := by
    rw [noteDouble_frame]
    rfl
  refine ⟨by simp, by simp, by simp, fun _ _ => ?_, fun _ hreverse => ?_⟩
  · have noted : x.routed m expected D others = { (s.noteDouble r e closing (s.preceding r .outlet)).noteDivert m D
        (divertTaken D ans).2 with
        channels := (s.withAnswer ans).channels, train := insertRecord { m with dest := some (divertTaken D ans).1 } others } := by
      have base : x = { s.noteDouble r e closing (s.preceding r .outlet) with train := x.train } := placed_elsewhere (by simp) ..
      have answered : x.withAnswer ans = { s.noteDouble r e closing (s.preceding r .outlet) with
          channels := (s.withAnswer ans).channels, train := x.train } :=
        (withAnswer_of_channels channels ans).trans
          (congrArg (fun u : State => { u with channels := (s.withAnswer ans).channels }) base)
      unfold State.routed State.routing
      rw [record, asks, answered, noteDivert_beside]
    by_cases hahead : ((s.departureAt { m with dest := some (divertTaken D ans).1 }).all fun y =>
        !atOrPast (s.pos .a) y) = true
    · refine Eq.mpr (if_pos hahead) ?_
      obtain ⟨channel, rest⟩ := placed_routed_refresh hp ht hr noted
      rw [← ahead hahead, noteDivert_at position] at rest
      exact ⟨fun j => (congrArg (fun z : State => z.refresh.channel j) (ahead hahead)).trans
        ((channel j).trans (shown_withAnswer hshown ans j)), rest⟩
    · refine Eq.mpr (if_neg hahead) ?_
      exact (refresh_train _).trans (behind hahead)
  · rw [hrev] at hreverse
    cases hreverse

/-- A closure decided on a blocked eye, whatever the checkpoint: the record passes (R85, R86). -/
theorem decideClosure_passedOn (hp : s.OutputsFollow) (ht : s.TrainSound) (hr : s.findRecord r.tag = some r)
    (hw : s.windowOf r = some (k, e, closing)) (hwait : ∀ w ∈ s.waiting, w.tag ≠ r.tag)
    (hacc : (s.eye e).accepted = .blocked) : s.PassedOn r k e closing (s.decideClosure r k e closing).refresh := by
  obtain ⟨hawaits, heye, -⟩ := windowOf_some hw
  obtain ⟨hrole, -⟩ := awaitsAt_some hawaits
  obtain ⟨-, -, -, hoffset⟩ := eyeAt_some heye
  obtain ⟨hmem, -⟩ := findRecord_some s hr
  obtain ⟨d, hd, found, others, decided⟩ := decideClosure_blocked (k := k) (e := e) (closing := closing) hacc hr
  obtain ⟨-, -, frame⟩ := decided_leaves s r k e closing
  have same : d = { s with train := d.train, queue := d.queue, faults := d.faults, overflow := d.overflow } := by
    have := hd.trans (congrArg (fun u : State => { u with train := d.train }) frame)
    generalize s.decided r k e closing = z at *
    rw [this]
  have eye : d.eye e = s.eye e := by
    rw [same]
    rfl
  have passes := passOn_found (k := k) (e := e) found (by rw [same]; exact hwait) rfl
    (by rw [same]; exact hoffset)
  have place : ∀ m : Record, m.tag = r.tag → d.replaceRecord m = s.placed r k e closing m := fun m hm =>
    replaceRecord_placed hd others hm
  rw [decided, passes]
  cases k with
  | feed =>
    dsimp only [State.movedOn]
    rw [eye]
    exact (congrArg (fun z : State => s.PassedOn r .feed e closing z.refresh) (place (s.crossing r .feed e .entering) rfl)).mpr
      (passedOn_feed hp ht hmem)
  | entry =>
    dsimp only [State.movedOn]
    have rebased : d.rebased = s.rebased := by
      rw [same]
      rfl
    have pos : d.pos .b = s.pos .b := by
      rw [same]
      rfl
    rw [rebased, pos]
    exact (congrArg (fun z : State => s.PassedOn r .entry e closing (z.markFresh r.tag).refresh)
      (place (s.rebased (r.joined (s.preceding r .entry)) (Pos.plus (s.pos .b) (-(r.h : Int))) .entering) rfl)).mpr
      (passedOn_entry hp ht hmem)
  | exit =>
    dsimp only [State.movedOn]
    rw [eye]
    exact passedOn_exit hp ht hmem hd others
  | outlet =>
    dsimp only [State.movedOn]
    rw [eye]
    refine (congrArg (fun z : State => s.PassedOn r .outlet e closing (z.route r.tag).refresh)
      (place (s.crossing r .outlet e .entering) rfl)).mpr ?_
    cases hrev : s.travelA.reverse with
    | true => exact passedOn_outlet_reverse hp ht hmem hrev
    | false => exact passedOn_outlet hp ht hmem hrole hrev

/-! #### The closure taken -/

theorem firstDue_mem {l : List Due} {x : Due} (h : firstDue l = some x) : x ∈ l := by
  induction l generalizing x with
  | nil => cases h
  | cons y l ih =>
    unfold firstDue at h
    split at h
    · cases h
      exact List.mem_cons_self
    · rename_i z hz
      split at h
      · cases h
        exact List.mem_cons_of_mem _ (ih hz)
      · cases h
        exact List.mem_cons_self

theorem dueOf_some {event : TravelEvent} {x : Due} (h : s.dueOf r event = some x) :
    r.tag = x.tag ∧ (s.eventAt r event).isSome = true := by
  unfold State.dueOf at h
  split at h
  · rename_i hevent
    split at h
    · cases h
      exact ⟨rfl, by rw [hevent]; rfl⟩
    · cases h
  · cases h

/-- A closure that is due waits on no candidate. -/
theorem dueRecord_closure (ht : s.TrainSound) (h : s.dueRecord .closure tag = some r) :
    s.findRecord r.tag = some r ∧ ∀ w ∈ s.waiting, w.tag ≠ r.tag := by
  obtain ⟨hmem, htag⟩ := dueRecord_some h
  unfold State.dueRecord at h
  split at h
  · rename_i x y hx hy
    split at h
    · rename_i hc
      cases h
      subst htag
      refine ⟨hy, fun w hw hwt => ?_⟩
      obtain ⟨z, hz, hdue⟩ := List.mem_flatMap.mp (firstDue_mem hx)
      have at_ : s.dueOf z .closure = some x := by simpa using hdue
      obtain ⟨htag, hevent⟩ := dueOf_some at_
      have here : z = r := List.inj_on_of_nodup_map ht.2.1 hz hmem (htag.trans hc.1)
      have waiting : (s.waiting.any fun w => w.tag == r.tag) = true := List.any_eq_true.mpr ⟨w, hw, by simpa using hwt⟩
      have none : s.eventAt r .closure = none := by
        unfold State.eventAt
        rw [waiting]
        rfl
      rw [here, none] at hevent
      cases hevent
    · cases h
  · cases h

/-- Settles O29: a closure waits on a candidate; on a blocked eye its record passes. -/
theorem closureOnBlockedEyePasses : Obligations.ClosureOnBlockedEyePasses := by
  unfold Obligations.ClosureOnBlockedEyePasses
  intro s tag r k e closing hp ht hdue hw
  obtain ⟨found, waits⟩ := dueRecord_closure ht hdue
  rw [exec_windowClosure hdue]
  refine ⟨fun hholds => ?_, fun hnone hacc => ⟨_, rfl, ?_⟩⟩
  · have closed : s.closeWindow r = { s with waiting := s.waiting ++ [{ eye := e, tag := r.tag, widened := false }] } := by
      unfold State.closeWindow
      rw [hw]
      exact if_pos hholds
    have follows : State.PinsFollow { s with waiting := s.waiting ++ [{ eye := e, tag := r.tag, widened := false }] } := hp
    rw [closed, refresh_follows _ follows, (dueRecord_some hdue).2]
  · rw [closeWindow_decided hw hnone]
    exact decideClosure_passedOn (outputsFollow_of_pins hp) ht found hw waits hacc

end Sys2Proof.Machine
end

section
namespace Sys2Proof.Machine

variable {s t : State} {tag : Tag} {g : GateIx} {k : Fin 16}

/-! ### An admission closes no lot (R163, R169) -/

/-- No entry of the table that is not CLOSED would be judged so (R169). -/
def State.NoneToClose (s : State) : Prop :=
  ∀ k e, s.lotSlot k = some e → e.state ≠ .closed → e.judged ≠ .closed

theorem noneToClose_of_sound (h : s.LotsSound) : s.NoneToClose := fun k e he hs => by
  obtain ⟨-, -, hjudged, -⟩ := h
  rw [← (hjudged k e (by simp [he])).2]
  exact hs

theorem noneToClose_setLotSlot (h : s.NoneToClose) {y : LotEntry} (hy : y.state ≠ .closed → y.judged ≠ .closed) :
    (s.setLotSlot k (some y)).NoneToClose := fun j e he => by
  by_cases hj : j = k
  · subst hj
    rw [setLotSlot_lotSlot] at he
    cases he
    exact hy
  · rw [setLotSlot_lotSlot_ne _ _ hj] at he
    exact h j e he

/-- Where no lot is to be closed, judging changes entries alone. -/
theorem judgeLots_open (h : s.NoneToClose) : s.judgeLots = { s with lots := s.judgeLots.lots } := by
  have kept : (s.judgeLots).NoneToClose ∧ s.judgeLots = { s with lots := s.judgeLots.lots } := by
    refine List.foldlRecOn (motive := fun t : State => t.NoneToClose ∧ t = { s with lots := t.lots }) _ _ ⟨h, rfl⟩ ?_
    rintro t ⟨open_, ht⟩ k -
    unfold State.judgeLot
    split
    · exact ⟨open_, ht⟩
    · rename_i e he
      rw [if_neg fun hc => open_ k e he hc.2 hc.1]
      refine ⟨noneToClose_setLotSlot open_ fun hs => hs, ?_⟩
      exact congrArg (fun u : State => u.setLotSlot k (some { e with state := e.judged })) ht
  exact kept.2

theorem judged_inFlight {e : LotEntry} (h : 0 < e.inFlight) : e.judged ≠ .closed := by
  unfold LotEntry.judged
  rw [if_pos h]
  split <;> decide

theorem addSource_inFlight (e : LotEntry) (tag : Tag) (g : GateIx) : (e.addSource tag g).inFlight = e.inFlight := by
  unfold LotEntry.addSource
  split
  · rfl
  · split <;> rfl

/-- A record handed to the lots: entries, closures and faults change, and no stack is closed (R163 to R165). -/
theorem lotAdmit_lots (h : s.LotsSound) (tag : Tag) (lot : Lot) (gate : Option GateIx) : (s.lotAdmit tag lot gate).1 = { s with
    lots := (s.lotAdmit tag lot gate).1.lots, closureList := (s.lotAdmit tag lot gate).1.closureList
    faults := (s.lotAdmit tag lot gate).1.faults, overflow := (s.lotAdmit tag lot gate).1.overflow } := by
  have none_ := noneToClose_of_sound h
  have judged : ∀ u : State, u.NoneToClose → u = { s with
      lots := u.lots, closureList := u.closureList, faults := u.faults, overflow := u.overflow } →
      u.judgeLots = { s with
        lots := u.judgeLots.lots, closureList := u.judgeLots.closureList, faults := u.judgeLots.faults
        overflow := u.judgeLots.overflow } := fun u hu h => by
    have open_ := judgeLots_open hu
    generalize u.judgeLots = v at *
    rw [open_, h]
  have noted : ∀ (u : State) f, u.NoneToClose → (u.recordFault f).NoneToClose := fun u f hu => by
    rw [recordFault_eq]
    exact hu
  unfold State.lotAdmit
  split
  · rfl
  split
  · split
    · rfl
    rename_i e he
    split <;> dsimp only
    · refine judged _ (noted _ _ (noneToClose_setLotSlot (s := s) none_ fun _ => judged_inFlight Nat.one_pos)) ?_
      rw [recordFault_eq]
      rfl
    · refine judged _ (noneToClose_setLotSlot none_ fun _ => judged_inFlight ?_) rfl
      cases gate with
      | none => exact Nat.succ_pos _
      | some g =>
        rw [addSource_inFlight]
        exact Nat.succ_pos _
  · split <;> dsimp only
    · rename_i k discarded hk
      have opened : State.NoneToClose (State.setLotSlot { s with closureList := s.closureList.filter (· != k) } k
          (some (LotEntry.new lot tag gate))) := noneToClose_setLotSlot (s := s) none_ fun _ => judged_inFlight Nat.one_pos
      split
      · refine judged _ (noted _ _ opened) ?_
        rw [recordFault_eq]
        rfl
      · exact judged _ opened rfl
    · rw [recordFault_eq]

/-- What a record handed to the lots changes (R53, R165). -/
theorem handToLots_lots (h : s.LotsSound) (tag : Tag) (lot : Lot) (gate : Option GateIx) : s.handToLots tag lot gate = { s with
    train := (s.handToLots tag lot gate).train
    lots := (s.handToLots tag lot gate).lots, closureList := (s.handToLots tag lot gate).closureList
    faults := (s.handToLots tag lot gate).faults, overflow := (s.handToLots tag lot gate).overflow } := by
  have lots := lotAdmit_lots h tag lot gate
  unfold State.handToLots
  dsimp only
  generalize s.lotAdmit tag lot gate = q at *
  obtain ⟨u, b⟩ := q
  dsimp only at lots
  dsimp only
  split
  · rw [lots]
    rfl
  · rw [lots]

/-- A record of no known lot is handed to none (R163). -/
theorem handToLots_unknown (s : State) (tag : Tag) (gate : Option GateIx) :
    s.handToLots tag Config.unknownLot gate = s := by
  unfold State.handToLots State.lotAdmit
  rw [if_pos rfl]
  rfl

/-! ### O44, O45: commits (R97, R98) -/

theorem reservationAtCommit_besideWithdrawals (s : State) (g : GateIx) (x : Pos) :
    (s.reservationAtCommit g x).besideWithdrawals = s.besideWithdrawals := by
  unfold State.reservationAtCommit
  split
  · rfl
  · split
    · split <;> rfl
    · exact withdrawEntry_besideWithdrawals s g

theorem withdrawEntry_ownReservation (s : State) (g : GateIx) : (s.withdrawEntry g).ownReservation g = none := by
  unfold State.ownReservation
  rw [withdrawEntry_reservations]
  simp

/-- After a commit its gate holds no reservation (R113). -/
theorem reservationAtCommit_ownReservation (s : State) (g : GateIx) (x : Pos) :
    (s.reservationAtCommit g x).ownReservation g = none := by
  have dropped : (s.dropOwn g).ownReservation g = none := by
    unfold State.dropOwn State.ownReservation
    simp
  unfold State.reservationAtCommit
  split
  · assumption
  · split
    · split
      · exact dropped
      · exact dropped
    · exact withdrawEntry_ownReservation s g

theorem mem_reservationAtCommit {q : TxFrame} (hq : ∀ g, isReserveOf g q = false) (h : q ∈ s.queue) (g : GateIx) (x : Pos) :
    q ∈ (s.reservationAtCommit g x).queue := by
  unfold State.reservationAtCommit
  split
  · exact h
  · split
    · split
      · exact List.mem_filterMap.mpr ⟨q, h, by simp [hq g]⟩
      · exact h
    · exact mem_withdrawEntry hq h g

theorem refresh_ownReservation (h : s.ownReservation g = none) : s.refresh.ownReservation g = none := by
  refine ownReservation_none h ?_
  have withdrawn : ∀ u : State, u.withdrawSuspended.reservations.Sublist u.reservations := fun u => by
    unfold State.withdrawSuspended
    rw [foldl_withdrawEntry_reservations]
    exact List.filter_sublist
  unfold State.refresh
  rw [outputsAfresh_eq]
  exact (withdrawn _).trans (withdrawn _)

end Sys2Proof.Machine
end

section
namespace Sys2Proof.Machine

variable {s t u : State} {tag : Tag} {g : GateIx} {y : Gate} {x : Pos}

/-! #### What follows a commit -/

/-- The gate once its commit is done, and what follows: the reservation gone, the frames of u kept, outputs and ALERT taken
afresh. -/
def State.committed (u : State) (g : GateIx) (x : Pos) (y : Gate) : State :=
  ((u.reservationAtCommit g x).setGate g y).refresh

theorem committed_core (u : State) (g : GateIx) (x : Pos) (y : Gate) :
    ((u.committed g x y).gate g).core = y.core ∧
      ∀ k, k ≠ g → ((u.committed g x y).gate k).core = (u.gate k).core := by
  have cores := refresh_sameCores ((u.reservationAtCommit g x).setGate g y)
  refine ⟨?_, fun k hk => ?_⟩
  · rw [State.committed, cores g, setGate_gate]
  · rw [State.committed, cores k, setGate_gate_ne _ _ hk, reservationAtCommit_pendingApart u g x k]
    rfl

theorem committed_ownReservation (u : State) (g : GateIx) (x : Pos) (y : Gate) :
    (u.committed g x y).ownReservation g = none :=
  refresh_ownReservation (s := (u.reservationAtCommit g x).setGate g y) (reservationAtCommit_ownReservation u g x)

theorem mem_committed {q : TxFrame} (hq : ∀ g, isReserveOf g q = false) (h : q ∈ u.queue) (g : GateIx) (x : Pos) (y : Gate) :
    q ∈ (u.committed g x y).queue :=
  mem_refresh_queue hq (s := (u.reservationAtCommit g x).setGate g y) (mem_reservationAtCommit hq h g x)

theorem committed_frame (u : State) (g : GateIx) (x : Pos) (y : Gate) : u.committed g x y = { u with
    channels := Vector.ofFn fun c => u.shown (u.channel c)
    gates := (u.committed g x y).gates, reservations := (u.committed g x y).reservations
    queue := (u.committed g x y).queue, alertPin := (u.committed g x y).alertPin } := by
  have frame := besideWithdrawals_frame (reservationAtCommit_besideWithdrawals u g x)
  have shape := refresh_shape ((u.reservationAtCommit g x).setGate g y)
  have here : u.committed g x y = ((u.reservationAtCommit g x).setGate g y).refresh := rfl
  rw [← here] at shape
  have shown : ((u.reservationAtCommit g x).setGate g y).shown = u.shown := by
    rw [frame]
    exact funext (shown_congr (fun i => by cases i <;> rfl) rfl rfl)
  have channel : ((u.reservationAtCommit g x).setGate g y).channel = u.channel := by
    rw [frame]
    rfl
  rw [shown, channel] at shape
  generalize u.committed g x y = t at *
  rw [shape, frame]
  rfl

/-- What a gate's core says of it once the commit is followed. -/
theorem committed_field {α : Type} (f : Gate → α) (hf : ∀ z : Gate, f z.core = f z) (u : State) (g : GateIx) (x : Pos) (y : Gate) :
    f ((u.committed g x y).gate g) = f y := by
  rw [← hf, (committed_core u g x y).1, hf]

theorem reservationAtCommit_gate (h : u.gates = s.gates) (g : GateIx) (x : Pos) : (u.reservationAtCommit g x).gate g =
    { s.gate g with withdrawPending := ((u.reservationAtCommit g x).gate g).withdrawPending } := by
  have here : u.gate g = s.gate g := by rw [State.gate, h, State.gate]
  have apart := reservationAtCommit_pendingApart u g x g
  rw [here] at apart
  exact apart

/-! #### The record and its RELEASE -/

/-- The record of a commit handed to the lots, before its RELEASE is queued (R56, R97, R98). -/
def State.committing (s : State) (r : Record) : State :=
  ((s.allocate.2.addRecord r).markFresh s.allocate.1).handToLots s.allocate.1 r.lot r.gate

theorem commitAnnounced_eq (s : State) (g : GateIx) (cls : Cls) (lot : Lot) (nominal : Nat) (flags : Flags) :
    s.commitAnnounced g cls lot nominal flags =
      (let r := s.allocate.2.commitRecord g s.allocate.1 cls lot nominal flags
       { s.committing r with
         queue := (s.committing r).queue ++ [TxFrame.new (.release (releaseFrame r g)) (s.dropAt g)] }, s.allocate.1) := rfl

/-- A record handed to the lots stands in its place, LOT_UNTRACKED or not (R165). -/
theorem handToLots_train {m : Record} {others : List Record} (ht : s.train = insertRecord m others)
    (h : ∀ x ∈ others, x.tag ≠ m.tag) (hu : m.flags.lotUntracked = false) (lot : Lot) (gate : Option GateIx) :
    ∃ b, (s.handToLots m.tag lot gate).train =
      insertRecord { m with flags := { m.flags with lotUntracked := b } } others := by
  obtain ⟨htrain, -⟩ := train_of_besideLots (lotAdmit_besideLots s m.tag lot gate)
  rw [ht] at htrain
  unfold State.handToLots
  dsimp only
  split
  · refine ⟨true, ?_⟩
    unfold State.updateRecord
    dsimp only
    rw [htrain]
    exact map_insertRecord (fun x => { x with flags := { x.flags with lotUntracked := true } }) ⟨rfl, rfl, rfl⟩ h
  · refine ⟨false, ?_⟩
    rw [htrain, ← hu]

theorem dropAt_eq (s : State) (g : GateIx) :
    s.dropAt g = Pos.plus (s.pos .a) ((s.gate g).set.wait + (s.gate g).set.active) := by
  unfold State.dropAt State.dropWait
  push_cast
  rfl

/-- The record of a commit, field by field (R56). -/
theorem commitRecord_eq (s : State) (g : GateIx) (tag : Tag) (cls : Cls) (lot : Lot) (nominal : Nat) (flags : Flags) (n : Nat) :
    { s.allocate.2.commitRecord g tag cls lot nominal flags with order := n } =
      ({ tag := tag, cls := cls, lot := lot, gate := some g, lanes := (s.gate g).set.lanes, nominal := nominal
         measured := none, stage := .pending, basis := .a
         p := Pos.plus (s.pos .a) ((s.gate g).set.wait + (s.gate g).set.active)
         h := halfWidth s.baseWidth s.propWidth ((s.gate g).set.wait + (s.gate g).set.active +
           s.offsetAt .feed (refLane (s.gate g).set.lanes)) flags.doubles
         lead := none, entryB := none, dest := none, flags := flags, order := n } : Record) := by
  have cast : ((s.dropWait g : Nat) : Int) = (s.gate g).set.wait + (s.gate g).set.active := by
    unfold State.dropWait
    push_cast
    rfl
  rw [← dropAt_eq, ← cast]
  rfl

theorem findRecord_none (h : s.findRecord tag = none) : ∀ x ∈ s.train, x.tag ≠ tag := fun x hx htag => by
  have := List.find?_eq_none.mp h x hx
  simp [htag] at this

/-- Settles O45: the spacer's record and RELEASE, and the begin of its release. -/
theorem spacerCommits : Obligations.SpacerCommits := by
  unfold Obligations.SpacerCommits
  intro s g
  refine ⟨fun hcan hfirst hfree hp => ?_, fun hdue => ?_⟩
  · have gap : (s.gate g).gapRequest = true := by
      unfold State.canSpacer at hcan
      simp only [Bool.and_eq_true] at hcan
      exact hcan.1.1.1.2
    let r := s.allocate.2.commitRecord g s.allocate.1 0 Config.unknownLot (s.gate g).set.spacerLength { own := true, spacer := true }
    have lots : s.committing r = (s.allocate.2.addRecord r).markFresh s.allocate.1 := handToLots_unknown ..
    let u : State := { s.committing r with
         queue := (s.committing r).queue ++ [TxFrame.new (.release (releaseFrame r g)) (s.dropAt g)] }
    have same : u = { s with
        train := u.train, trainCause := u.trainCause, admissions := u.admissions, serial := s.allocate.1.serial + 1
        freshWindows := u.freshWindows, queue := u.queue } := by
      dsimp only [u]
      rw [lots]
      rfl
    let y : Gate := { (u.reservationAtCommit g (s.dropAt g)).gate g with
      state := .releasing
      release := some {
        commit := s.pos .a, stop := s.dropAt g, tag := s.allocate.1, spacer := true, begun := (s.gate g).set.wait == 0
        prevRejectNext := (s.gate g).rejectNext, prevLast := (s.gate g).lastRelease } }
    have spacer : s.commitSpacer g = (u.reservationAtCommit g (s.dropAt g)).setGate g y := rfl
    have run : exec (.spacerCommit g) s = .next (u.committed g (s.dropAt g) y) := by
      have on : s.onSpacerCommit g = (s.commitSpacer g).refresh := if_pos (by simp [hcan, hfirst])
      exact congrArg Host.Outcome.next on
    have frame := committed_frame u g (s.dropAt g) y
    have stop := dropAt_eq s g
    have queued := mem_committed (u := u) (q := TxFrame.new (.release (releaseFrame r g)) (s.dropAt g)) (fun _ => rfl)
      (List.mem_append_right _ (List.mem_singleton.mpr rfl)) g (s.dropAt g) y
    have gate := reservationAtCommit_gate (u := u) (s := s) (by rw [same]) g (s.dropAt g)
    have state : ∀ {α : Type} (f : Gate → α), (∀ z : Gate, f z.core = f z) → f ((u.committed g (s.dropAt g) y).gate g) = f y :=
      fun f hf => committed_field f hf u g _ y
    have train : u.train = insertRecord { r with order := s.admissions } s.train := by
      dsimp only [u]
      rw [lots]
      rfl
    have channels : (Vector.ofFn fun c => u.shown (u.channel c)) = s.channels := by
      have shown : u.shown = s.shown := by
        rw [same]
        exact funext (shown_congr (fun i => by cases i <;> rfl) rfl rfl)
      rw [shown]
      exact shown_channels hp (by rw [same])
    refine ⟨_, run, ?_, ?_, ?_, state (·.state) fun _ => rfl, ?_, ?_, ?_, ?_, ?_⟩
    · rw [frame, train]
      exact congrArg (insertRecord · s.train) (commitRecord_eq ..)
    · rw [frame, same]
    · exact List.any_eq_true.mpr ⟨_, queued, Bool.and_eq_true_iff.mpr ⟨beq_iff_eq.mpr stop, beq_iff_eq.mpr rfl⟩⟩
    · rw [state (·.rejectNext) fun _ => rfl]
      dsimp only [y]
      rw [gate]
    · rw [state (·.lastRelease) fun _ => rfl]
      dsimp only [y]
      rw [gate]
    · rw [state (·.gapRequest) fun _ => rfl]
      dsimp only [y]
      rw [gate]
      exact gap
    · rw [state (·.release) fun _ => rfl]
      dsimp only [y]
      rw [stop]
    · rw [channels] at frame
      generalize u.committed g (s.dropAt g) y = t at *
      rw [frame, same]
  · have on : s.onSpacerBegun g = s.beginSpacer g := if_pos hdue
    exact congrArg Host.Outcome.next on


/-- A request changes the channel asked alone (R36). -/
theorem requestRelease_channel (u : State) (g : GateIx) (c : Pos) (tag : Tag) (k : ChannelIx) :
    (u.requestRelease g c tag).channel k = if (u.gate g).set.channel = some k then
      ((u.channel k).request (u.pos (u.channel k).input) (Pos.plus c (u.gate g).set.wait)
        (Pos.plus c ((u.gate g).set.wait + (u.gate g).set.active)) (some tag)).1
    else u.channel k := by
  unfold State.requestRelease
  dsimp only
  split
  · rename_i ch hch
    rw [hch]
    by_cases hk : ch = k
    · subst hk
      rw [if_pos rfl]
      exact setChannel_channel ..
    · rw [if_neg (by simpa using hk)]
      exact setChannel_channel_ne _ _ (Ne.symm hk)
  · rename_i hch
    rw [hch]
    rfl

theorem requestRelease_frame (u : State) (g : GateIx) (c : Pos) (tag : Tag) :
    u.requestRelease g c tag = { u with channels := (u.requestRelease g c tag).channels } := by
  unfold State.requestRelease
  dsimp only
  split <;> rfl

/-- Settles O44: the item's record and RELEASE, its clamp span, and its gate. -/
theorem gateCommitsItem : Obligations.GateCommitsItem := by
  unfold Obligations.GateCommitsItem
  intro s g cls hcan hfirst hcls hp hlots hfree
  obtain ⟨hshown, -, -⟩ := id hp
  let r := s.allocate.2.commitRecord g s.allocate.1 cls ((s.gate g).lot.getD 255) (s.classOf cls).nominal
    { own := true, reject := (s.gate g).rejectNext }
  let added := (s.allocate.2.addRecord r).markFresh s.allocate.1
  have lots : s.committing r = { added with
      train := (s.committing r).train, lots := (s.committing r).lots, closureList := (s.committing r).closureList
      faults := (s.committing r).faults, overflow := (s.committing r).overflow } :=
    handToLots_lots (s := added) hlots s.allocate.1 r.lot r.gate
  let v : State := { s.committing r with
    queue := (s.committing r).queue ++ [TxFrame.new (.release (releaseFrame r g)) (s.dropAt g)] }
  have same : v = { s with
      train := v.train, trainCause := v.trainCause, admissions := v.admissions, serial := s.allocate.1.serial + 1
      freshWindows := s.allocate.1 :: s.freshWindows, lots := v.lots, closureList := v.closureList
      faults := v.faults, overflow := v.overflow, queue := v.queue } := by
    dsimp only [v]
    generalize s.committing r = c at lots ⊢
    rw [lots]
    rfl
  let u := v.requestRelease g (s.pos .a) s.allocate.1
  let y : Gate := { (u.reservationAtCommit g (s.dropAt g)).gate g with
    state := .releasing, rejectNext := false, lastRelease := some s.allocate.1.serial
    release := some {
      commit := s.pos .a, stop := s.dropAt g, tag := s.allocate.1, spacer := false, begun := false
      prevRejectNext := (s.gate g).rejectNext, prevLast := (s.gate g).lastRelease } }
  have item : s.commitItem g = (u.reservationAtCommit g (s.dropAt g)).setGate g y := by
    unfold State.commitItem
    dsimp only
    rw [hcls]
    rfl
  have run : exec (.gateCommit g) s = .next (u.committed g (s.dropAt g) y) := by
    have on : s.onGateCommit g = (s.commitItem g).refresh := if_pos (by simp [hcan, hfirst])
    rw [item] at on
    exact congrArg Host.Outcome.next on
  have frame := committed_frame u g (s.dropAt g) y
  have asked : u = { v with channels := u.channels } := requestRelease_frame v g (s.pos .a) s.allocate.1
  have gate : v.gate g = s.gate g := by
    rw [same]
    rfl
  have gates : u.gates = s.gates := by rw [asked, same]
  have kept := reservationAtCommit_gate gates g (s.dropAt g)
  have field : ∀ {α : Type} (f : Gate → α), (∀ z : Gate, f z.core = f z) → f ((u.committed g (s.dropAt g) y).gate g) = f y :=
    fun f hf => committed_field f hf u g _ y
  have queued := mem_committed (u := u) (q := TxFrame.new (.release (releaseFrame r g)) (s.dropAt g)) (fun _ => rfl)
    (by
      rw [asked]
      exact List.mem_append_right _ (List.mem_singleton.mpr rfl)) g (s.dropAt g) y
  have pos : v.pos = s.pos := by
    rw [same]
    exact funext fun i => by cases i <;> rfl
  have shown : u.shown = s.shown := by
    rw [asked, same]
    exact funext (shown_congr (fun i => by cases i <;> rfl) rfl rfl)
  have train : ∃ b, v.train = insertRecord { { r with order := s.admissions } with
      flags := { r.flags with lotUntracked := b } } s.train :=
    handToLots_train (s := added) (m := { r with order := s.admissions }) rfl (findRecord_none hfree) rfl r.lot r.gate
  refine ⟨_, run, ?_, ?_, ?_, field (·.state) fun _ => rfl, field (·.rejectNext) fun _ => rfl,
    field (·.lastRelease) fun _ => rfl, ?_, fun k => ?_, committed_ownReservation .., fun k hk => ?_, ?_⟩
  · obtain ⟨b, train⟩ := train
    refine ⟨b, ?_⟩
    rw [frame, asked, train]
    exact congrArg (fun z : Record => insertRecord { z with flags := { r.flags with lotUntracked := b } } s.train)
      (commitRecord_eq ..)
  · rw [frame, asked, same]
  · rw [dropAt_eq] at queued
    exact queued
  · rw [field (·.release) fun _ => rfl]
    dsimp only [y]
    rw [dropAt_eq]
  · have channel := requestRelease_channel v g (s.pos .a) s.allocate.1 k
    have before : v.channel k = s.channel k := by
      rw [same]
      rfl
    rw [gate, pos, before] at channel
    have after : (u.committed g (s.dropAt g) y).channel k = s.shown (u.channel k) := by
      rw [frame, ← shown]
      simp [State.channel]
    rw [after, show u.channel k = _ from channel, apply_ite s.shown, ← hshown k]
  · obtain ⟨-, others⟩ := committed_core u g (s.dropAt g) y
    have here : u.gate k = s.gate k := by rw [State.gate, gates, State.gate]
    have core := others k hk
    rw [here] at core
    generalize u.committed g (s.dropAt g) y = t at core ⊢
    exact (congrArg Gate.state core : (t.gate k).core.state = (s.gate k).core.state)
  · generalize u.committed g (s.dropAt g) y = t at *
    generalize (Vector.ofFn fun c => u.shown (u.channel c)) = ch at *
    rw [frame, asked, same]

end Sys2Proof.Machine
end

section
namespace Sys2Proof.Machine

variable {s t u : State} {e : EyeIx} {c : Candidate} {k : Checkpoint} {x : Edge} {l : Level}

/-! ### Edges delivered to the matcher (R23, R68) -/

theorem candidate_capture (hset : (s.eye e).set = (t.eye e).set) (c : Candidate) :
    s.capture (c.edge e) = c.snap (t.eye e).set.input := by
  have at_ : (c.edge e).eye = e := rfl
  unfold State.capture
  rw [at_, hset]
  cases (t.eye e).set.input <;> rfl

theorem function_checkpoint (k : Checkpoint) : k.function.checkpoint = some k := by cases k <;> rfl

/-- An accepted edge goes to its checkpoint as a leading or a trailing edge. -/
theorem edge_at (hdue : s.EdgeDue e c k) : (s.setEye e ((s.eye e).become c.level)).edge (c.edge e) =
    if c.level = .blocked then (s.setEye e ((s.eye e).become c.level)).leadingEdge k (c.edge e)
    else (s.setEye e ((s.eye e).become c.level)).trailingEdge k (c.edge e) := by
  obtain ⟨-, -, hf, -, -⟩ := hdue
  have at_ : (c.edge e).eye = e := rfl
  have leading : (c.edge e).leading = (c.level == .blocked) := rfl
  unfold State.edge
  rw [at_, setEye_become_set s e c.level e, hf, function_checkpoint]
  dsimp only
  rw [leading]
  simp only [beq_iff_eq]

/-- An accepted edge, up to what follows it, where no closure waits on its eye then. -/
theorem exec_edgeAccepted (hdue : s.EdgeDue e c k)
    (hu : (s.setEye e ((s.eye e).become c.level)).edge (c.edge e) = u) (hw : ∀ w ∈ u.waiting, w.eye ≠ e) :
    exec (.edgeAccepted e) s = .next u.refresh := by
  have kept : u.refresh.waiting = u.waiting := by rw [refresh_frame]
  have delivered : s.onEdgeAccepted e = u.refresh.refresh :=
    onEdgeAccepted_delivered hdue (by rw [hu]) (by rw [kept]; exact hw)
  rw [refresh_refresh] at delivered
  exact congrArg Host.Outcome.next delivered

/-- A checkpoint eye that changes its level gives no cause anew: it only ends a jam (R28, R29). -/
theorem become_eyesCalmer (h : (s.eye e).set.function ≠ .levelHold) (l : Level) :
    s.EyesCalmer (s.setEye e ((s.eye e).become l)) := by
  have eye : ∀ j, ((s.setEye e ((s.eye e).become l)).eye j).set = (s.eye j).set ∧
      ((s.eye j).set.function = .levelHold →
        ((s.setEye e ((s.eye e).become l)).eye j).accepted = (s.eye j).accepted) ∧
      (((s.setEye e ((s.eye e).become l)).eye j).jammed = true → (s.eye j).jammed = true) := fun j => by
    by_cases hj : j = e
    · subst hj
      rw [setEye_eye]
      refine ⟨become_set _ _, fun hf => absurd hf h, fun hjam => ?_⟩
      cases l with
      | blocked => exact hjam
      | clear => cases hjam
    · rw [setEye_eye_ne _ _ hj]
      exact ⟨rfl, fun _ => rfl, id⟩
  refine ⟨fun hjam => ?_, fun hlevel => ?_⟩
  · unfold State.jamCause at hjam ⊢
    obtain ⟨j, hj, hx⟩ := List.any_eq_true.mp hjam
    obtain ⟨-, -, hjammed⟩ := eye j
    exact List.any_eq_true.mpr ⟨j, hj, hjammed hx⟩
  · unfold State.levelCause at hlevel ⊢
    obtain ⟨j, hj, hx⟩ := List.any_eq_true.mp hlevel
    obtain ⟨hset, haccepted, -⟩ := eye j
    refine List.any_eq_true.mpr ⟨j, hj, ?_⟩
    simp only [hset, Bool.and_eq_true, beq_iff_eq] at hx ⊢
    rw [← haccepted (by tauto)]
    exact hx

theorem function_ne_levelHold (k : Checkpoint) : k.function ≠ .levelHold := by cases k <;> decide

theorem inFootprint_congr (h : ∀ k, (t.eye k).set = (s.eye k).set) : t.inFootprint = s.inFootprint :=
  funext fun r => funext fun k => funext fun x => by
    have anchor : t.anchor r k x.eye = s.anchor r k x.eye := by
      unfold State.anchor
      rw [h, offsetAt_congr h]
    unfold State.inFootprint
    rw [anchor]

/-- An event that moves neither position nor tracker state nor channel is followed by withdrawals and ALERT alone. -/
theorem refresh_shown (hp : s.PinsFollow) (hpos : ∀ i, t.pos i = s.pos i) (hmode : t.mode = s.mode)
    (hstep : t.lastStep = s.lastStep) (hc : t.channels = s.channels) : t.refresh = { t with
      gates := t.refresh.gates, reservations := t.refresh.reservations, queue := t.refresh.queue
      alertPin := t.refresh.alertPin } := by
  have shape := refresh_shape t
  rw [funext (shown_congr hpos hmode hstep), shown_channels hp hc] at shape
  generalize t.refresh = w at *
  rw [shape]

end Sys2Proof.Machine
end

section
namespace Sys2Proof.Machine

variable {s t u : State} {e : EyeIx} {c : Candidate} {k : Checkpoint} {x : Edge}

/-! ### O22: strays (R73 to R75) -/

/-- An edge that no record takes, repeats or absorbs makes a stray (R70 to R73). -/
theorem leadingEdge_stray (h : (s.train.all fun y =>
      !(y.awaitsLead k && y.lane == (s.eye x.eye).set.lane && s.inWindow y k x) &&
        !(y.awaitsTrail k && y.lane == (s.eye x.eye).set.lane && s.inFootprint y k x) &&
        !(y.present k && hasLane y.lanes (s.eye x.eye).set.lane && y.lane != (s.eye x.eye).set.lane &&
          s.inFootprint y k x)) = true) : s.leadingEdge k x = s.stray k x := by
  have each := fun y (hy : y ∈ s.train) => by simpa only [Bool.and_eq_true, Bool.not_eq_true'] using List.all_eq_true.mp h y hy
  have free : (s.train.find? fun r => r.awaitsLead k && r.lane == (s.eye x.eye).set.lane && s.inWindow r k x) = none :=
    List.find?_eq_none.mpr fun y hy => by rw [(each y hy).1.1]; decide
  unfold State.leadingEdge
  dsimp only
  rw [free]
  dsimp only
  rw [if_neg fun hc => ?_, if_neg fun hc => ?_]
  · obtain ⟨y, hy, hx⟩ := List.any_eq_true.mp hc
    rw [(each y hy).2] at hx
    cases hx
  · obtain ⟨y, hy, hx⟩ := List.any_eq_true.mp hc
    rw [(each y hy).1.2] at hx
    cases hx

/-- The flags of a stray: RECOVERED with a credit, else STRAY (R73). -/
def strayFlags (watch : List WatchEntry) : Flags :=
  { recovered := (creditIndex watch).isSome, stray := (creditIndex watch).isNone }

/-- The watch list once the credit is taken (R73). -/
def State.watchSpent (s : State) : List WatchEntry :=
  match creditIndex s.watch with
  | some i => takeCredit s.watch i
  | none => s.watch

/-- The STRAY fault of a record made without a credit. -/
def State.noteStray (s : State) (x : Edge) : State :=
  if (creditIndex s.watch).isSome then s else s.recordFault
    { kind := .stray, position := s.capture x, input := (s.eye x.eye).set.input, tag := some s.allocate.1, lot := some 255
      unit := some (.eye x.eye) }

/-- The stray record in its place, with what its making changes and notes. -/
def State.strayed (s : State) (r : Record) (x : Edge) : State :=
  { s.noteStray x with
    train := insertRecord r s.train, admissions := s.admissions + 1, serial := s.allocate.1.serial + 1
    freshWindows := s.allocate.1 :: s.freshWindows, watch := s.watchSpent
    trainCause := if s.highMark ≤ s.train.length + 1 then true
      else if s.train.length + 1 ≤ s.lowMark then false else s.trainCause }

theorem spendCredit_eq (s : State) : s.spendCredit (creditIndex s.watch) = { s with watch := s.watchSpent } := by
  unfold State.spendCredit State.watchSpent
  cases creditIndex s.watch <;> rfl

theorem addRecord_eq (s : State) (r : Record) : s.addRecord r = { s with
    train := insertRecord { r with order := s.admissions } s.train, admissions := s.admissions + 1
    trainCause := if s.highMark ≤ s.train.length + 1 then true
      else if s.train.length + 1 ≤ s.lowMark then false else s.trainCause } := by
  rw [← length_insertRecord { r with order := s.admissions } s.train]
  rfl

/-- What a stray record is made of. -/
theorem strayRecord_free (s : State) (serial : Serial) (watch : List WatchEntry) :
    State.strayRecord { s with serial := serial, watch := watch } = s.strayRecord := by
  funext tag flags k x
  cases k <;> rfl

/-- A stray at a first checkpoint with room in the train (R73, R74). -/
theorem stray_strayed (hk : k ≠ .exit) (hfull : s.trainFull = false) : s.stray k x =
    (let r := { s.strayRecord s.allocate.1 (strayFlags s.watch) k x with order := s.admissions }
     match k with
     | .outlet => (s.strayed r x).route s.allocate.1
     | .feed => (s.strayed r x).clearIfPassed s.allocate.1
     | _ => s.strayed r x) := by
  let r := { s.strayRecord s.allocate.1 (strayFlags s.watch) k x with order := s.admissions }
  have spent : s.allocate.2.spendCredit (creditIndex s.watch) =
      { s with serial := s.allocate.1.serial + 1, watch := s.watchSpent } := spendCredit_eq s.allocate.2
  let added : State := { s with
    train := insertRecord r s.train, admissions := s.admissions + 1, serial := s.allocate.1.serial + 1
    freshWindows := s.allocate.1 :: s.freshWindows, watch := s.watchSpent
    trainCause := if s.highMark ≤ s.train.length + 1 then true
      else if s.train.length + 1 ≤ s.lowMark then false else s.trainCause }
  have noted : (match creditIndex s.watch with
      | some _ => added
      | none => added.recordFault
          { kind := .stray, position := s.capture x, input := (s.eye x.eye).set.input, tag := some s.allocate.1
            lot := some Config.unknownLot, unit := some (.eye x.eye) }) = s.strayed r x := by
    unfold State.strayed State.noteStray
    cases creditIndex s.watch with
    | some i => rfl
    | none =>
      dsimp only
      rw [recordFault_eq, if_neg (by decide), recordFault_eq]
      rfl
  unfold State.stray
  dsimp only
  rw [if_neg hk, hfull, if_neg (by decide), handToLots_unknown, spent, strayRecord_free, addRecord_eq]
  cases k with
  | feed => exact congrArg (State.clearIfPassed · s.allocate.1) noted
  | entry => exact noted
  | exit => exact absurd rfl hk
  | outlet => exact congrArg (State.route · s.allocate.1) noted

theorem noteStray_frame (s : State) (x : Edge) :
    s.noteStray x = { s with faults := (s.noteStray x).faults, overflow := (s.noteStray x).overflow } := by
  unfold State.noteStray
  split
  · rfl
  · rw [recordFault_eq]

theorem strayed_frame (s : State) (r : Record) (x : Edge) : s.strayed r x = { s with
    train := insertRecord r s.train, admissions := s.admissions + 1, serial := s.allocate.1.serial + 1
    freshWindows := s.allocate.1 :: s.freshWindows, watch := s.watchSpent, trainCause := (s.strayed r x).trainCause
    faults := (s.strayed r x).faults, overflow := (s.strayed r x).overflow } := by
  unfold State.strayed
  rw [noteStray_frame]

theorem halfWidth_zero (base prop : Nat) : halfWidth base prop 0 false = max 1 (min 2047 base) := by
  unfold halfWidth baseHalf clampHalf
  simp only [Int.toNat_zero, Nat.zero_mul, Nat.zero_div, Nat.add_zero]
  rfl

/-- The stray record of an edge at a first checkpoint of input A (R74). -/
def State.strayMade (s : State) (e : EyeIx) (c : Candidate) : Record :=
  { tag := s.allocate.1, cls := 15, lot := 255, gate := none, lanes := (1 : Lanes) <<< (s.eye e).set.lane.val, nominal := 0
    measured := none, stage := .entering, basis := .a
    p := Pos.plus (c.snap (s.eye e).set.input) (-(s.eye e).set.offset)
    h := max 1 (min 2047 s.baseWidth), lead := some (c.snap (s.eye e).set.input), entryB := none, dest := none
    flags := strayFlags s.watch, order := s.admissions }

theorem strayRecord_made (hset : (s.eye e).set = (t.eye e).set) (hs : s = { t with eyes := s.eyes }) (c : Candidate) :
    { s.strayRecord s.allocate.1 (strayFlags s.watch) k (c.edge e) with order := s.admissions } =
      match k with
      | .entry => { t.strayMade e c with
          basis := .b, p := Pos.plus c.snapB t.pred, h := halfWidth t.baseWidth t.propWidth t.pred false
          lead := some c.snapB, entryB := some c.snapB }
      | _ => t.strayMade e c := by
  have at_ : (c.edge e).eye = e := rfl
  have snapB : (c.edge e).snapB = c.snapB := rfl
  have half : s.halfWidthFor 0 (strayFlags s.watch) = max 1 (min 2047 t.baseWidth) := by
    have base : s.baseWidth = t.baseWidth := by rw [hs]
    rw [← base]
    exact halfWidth_zero ..
  unfold State.strayRecord
  rw [candidate_capture hset c, at_, hset, half, snapB]
  dsimp only
  rw [hs]
  cases k <;> rfl

/-- The STRAY fault of an edge, with the eye blocked. -/
theorem noteStray_setEye (s : State) (e : EyeIx) (c : Candidate) (l : Level) :
    (s.setEye e ((s.eye e).become l)).noteStray (c.edge e) =
      { (if (creditIndex s.watch).isSome then s else s.recordFault
          { kind := .stray, position := c.snap (s.eye e).set.input, input := (s.eye e).set.input, tag := some s.allocate.1
            lot := some 255, unit := some (.eye e) }) with
        eyes := s.eyes.set e ((s.eye e).become l) } := by
  have hset := setEye_become_set s e l e
  have at_ : (c.edge e).eye = e := rfl
  have watch : (s.setEye e ((s.eye e).become l)).watch = s.watch := rfl
  have tag : (s.setEye e ((s.eye e).become l)).allocate.1 = s.allocate.1 := rfl
  unfold State.noteStray
  rw [candidate_capture hset c, at_, hset, watch, tag]
  split
  · rfl
  · rw [recordFault_eq, recordFault_eq]
    rfl

/-- Where a stray record has been made, withdrawals and ALERT follow. -/
theorem strayed_refresh (hp : s.PinsFollow) (y : Eye) (r : Record) (x : Edge) :
    ((s.setEye e y).strayed r x).refresh = { (s.setEye e y).strayed r x with
      gates := ((s.setEye e y).strayed r x).refresh.gates
      reservations := ((s.setEye e y).strayed r x).refresh.reservations
      queue := ((s.setEye e y).strayed r x).refresh.queue, alertPin := ((s.setEye e y).strayed r x).refresh.alertPin } := by
  have frame := strayed_frame (s.setEye e y) r x
  refine refresh_shown hp (fun i => ?_) ?_ ?_ ?_ <;> rw [frame]
  · cases i <;> rfl
  · rfl
  · rfl
  · rfl

/-- A fault at an eye that only changes its level is followed by ALERT (R28, R29). -/
theorem recordFault_setEye_refresh (hp : s.PinsFollow) (h : (s.eye e).set.function ≠ .levelHold) (l : Level) (f : FaultRecord) :
    ((s.setEye e ((s.eye e).become l)).recordFault f).refresh =
      ((s.setEye e ((s.eye e).become l)).recordFault f).alertAfresh := by
  have calm : s.Calmer ((s.setEye e ((s.eye e).become l)).recordFault f) := by
    rw [recordFault_eq]
    exact calmer_of_view rfl (become_eyesCalmer h l) id id id (Nat.le_refl _)
  refine calm.refresh hp ?_
  rw [recordFault_eq]
  rfl

/-- A record whose clearance is ahead stays (R59). -/
theorem clearIfPassed_ahead {r : Record} {tag : Tag} (hr : s.findRecord tag = some r)
    (h : atOrPast (s.pos .a) (s.clearanceAt r) = false) : s.clearIfPassed tag = s := by
  unfold State.clearIfPassed
  rw [hr]
  exact if_neg fun hc => by simp [h] at hc

theorem strayed_findRecord (r : Record) (x : Edge) (h : ∀ y ∈ s.train, y.tag ≠ r.tag) :
    (s.strayed r x).findRecord r.tag = some r := by
  rw [strayed_frame]
  exact find_insertRecord h

/-- A stray record routed: what its routing notes comes after its STRAY fault (R73, R152). -/
theorem strayed_noteDivert {j : State} {E : Vector Eye 8} {p : Pos} (hj : s.noteStray x = { j with eyes := E })
    (hpos : j.pos .a = p) (r m : Record) (ans : Option (ChannelIx × Channel × Answer)) (d : DestIx) (kind : Option FaultKind) :
    ((s.strayed r x).withAnswer ans).noteDivert m d kind =
      { (match kind with
          | some kind => j.recordFault
            { kind := kind, position := p, input := .a, tag := some m.tag, lot := some m.lot, unit := some (.destination d) }
          | none => j) with
        eyes := E, channels := ((s.strayed r x).withAnswer ans).channels
        train := insertRecord r s.train, admissions := s.admissions + 1, serial := s.allocate.1.serial + 1
        freshWindows := s.allocate.1 :: s.freshWindows, watch := s.watchSpent
        trainCause := if s.highMark ≤ s.train.length + 1 then true
          else if s.train.length + 1 ≤ s.lowMark then false else s.trainCause } := by
  subst hpos
  rw [withAnswer_frame]
  generalize ((s.strayed r x).withAnswer ans).channels = channels
  unfold State.strayed
  rw [hj]
  cases kind with
  | none => rfl
  | some kind =>
    dsimp only [State.noteDivert]
    rw [recordFault_eq, recordFault_eq]
    rfl

/-- Settles O22: the stray is made, at an outlet routed, and what follows withdraws reservations at most. -/
theorem strayEdgeMakesARecord : Obligations.StrayEdgeMakesARecord := by
  unfold Obligations.StrayEdgeMakesARecord
  intro s e c k hp hdue hlevel hw
  dsimp only
  intro hall
  obtain ⟨-, -, hf, -, -⟩ := id hdue
  have checkpoint : (s.eye e).set.function ≠ .levelHold := by
    rw [hf]
    exact function_ne_levelHold k
  let s0 := s.setEye e ((s.eye e).become .blocked)
  have hsets := setEye_become_set s e .blocked
  have hset := hsets e
  have edge : (s.setEye e ((s.eye e).become c.level)).edge (c.edge e) = s0.stray k (c.edge e) := by
    rw [edge_at hdue, if_pos hlevel, hlevel]
    refine leadingEdge_stray ?_
    have at_ : (c.edge e).eye = e := rfl
    rw [at_, hset, inWindow_congr hsets, inFootprint_congr hsets]
    exact hall
  have run : ∀ u, s0.stray k (c.edge e) = u → u.waiting = s.waiting → exec (.edgeAccepted e) s = .next u.refresh :=
    fun u hu hwait => exec_edgeAccepted hdue (edge.trans hu) (by rw [hwait]; exact hw)
  have waiting : ∀ r, (s0.strayed r (c.edge e)).waiting = s.waiting := fun r => by
    rw [strayed_frame]
    rfl
  have record := strayRecord_made (k := k) hset (s := s0) (t := s) rfl c
  have after : ∀ r, (s0.strayed r (c.edge e)).refresh = _ := fun r =>
    strayed_refresh (e := e) hp ((s.eye e).become .blocked) r (c.edge e)
  refine ⟨fun hk hrole hfull hahead hfree => ?_, fun hk hrole hfull hfree => ?_, fun hk hrole hinput hfull hfree => ?_,
    fun hk hfull => ?_, fun hk => ?_⟩
  · subst hk
    have made := stray_strayed (k := .feed) (s := s0) (x := c.edge e) (by decide) hfull
    rw [record] at made
    dsimp only at made
    have kept : (s0.strayed (s.strayMade e c) (c.edge e)).clearIfPassed s0.allocate.1 =
        s0.strayed (s.strayMade e c) (c.edge e) := by
      refine clearIfPassed_ahead (strayed_findRecord (s := s0) _ _ (findRecord_none hfree)) ?_
      rw [strayed_frame]
      exact hahead
    rw [kept] at made
    refine ⟨_, run _ made (waiting _), ?_⟩
    have := after (s.strayMade e c)
    generalize (s0.strayed (s.strayMade e c) (c.edge e)).refresh = t at *
    rw [this]
    unfold State.strayed
    rw [noteStray_setEye]
    rfl
  · subst hk
    have made := stray_strayed (k := .entry) (s := s0) (x := c.edge e) (by decide) hfull
    rw [record] at made
    dsimp only at made
    refine ⟨_, run _ made (waiting _), ?_⟩
    generalize hr : ({ s.strayMade e c with
      basis := .b, p := Pos.plus c.snapB s.pred, h := halfWidth s.baseWidth s.propWidth s.pred false
      lead := some c.snapB, entryB := some c.snapB } : Record) = r
    have := after r
    generalize (s0.strayed r (c.edge e)).refresh = t at *
    rw [this]
    unfold State.strayed
    rw [noteStray_setEye, ← hr]
    rfl
  · subst hk
    have made := stray_strayed (k := .outlet) (s := s0) (x := c.edge e) (by decide) hfull
    rw [record] at made
    dsimp only at made
    obtain ⟨-, hdelivers, -, -, -⟩ := id hdue
    have forward : s.travelA.reverse = false := by
      unfold State.delivers at hdelivers
      rw [hinput] at hdelivers
      simp only [Bool.and_eq_true, Bool.not_eq_true'] at hdelivers
      exact hdelivers.2
    intro hahead
    let m := s.strayMade e c
    let y := s0.strayed m (c.edge e)
    let at_ := c.snap (s.eye e).set.input
    let ans := s.askDivert s.rejectDest at_ m
    have frame : y = _ := strayed_frame s0 m (c.edge e)
    have pos : y.pos = s.pos := by
      rw [frame]
      exact funext fun i => by cases i <;> rfl
    have asks : y.askDivert s.rejectDest at_ m = ans :=
      askDivert_congr (by rw [frame]; rfl) (by rw [frame]; rfl) pos s.rejectDest at_ m
    have unrouted : y.routeOf m = s.rejectDest := by
      rw [routeOf_eq, if_pos (.inr (.inl rfl)), frame]
      rfl
    have departs : y.departureAt = s.departureAt := by
      rw [frame]
      rfl
    obtain ⟨ahead, -⟩ := route_routed (x := y) (m := m) (e := at_) (others := s.train) (d := s.rejectDest)
      (by rw [frame]; exact hrole) (by rw [frame]; exact forward) (by rw [frame]; rfl) (findRecord_none hfree) rfl unrouted
    rw [departs, pos] at ahead
    unfold State.routedRecord at ahead
    rw [asks] at ahead
    have routed := ahead hahead
    obtain ⟨hshown, -, -⟩ := hp
    let kind := (divertTaken s.rejectDest ans).2
    have channels : (y.withAnswer ans).channels = (s.withAnswer ans).channels := by
      rw [withAnswer_of_channels (s := s) (by rw [frame]; rfl)]
    have noted := strayed_noteDivert (s := s0) (noteStray_setEye s e c .blocked) (p := s.pos .a) (by
      split
      · rfl
      · rw [recordFault_eq]; rfl) m m ans s.rejectDest kind
    have result : y.routed m at_ s.rejectDest s.train = { (y.withAnswer ans).noteDivert m s.rejectDest kind with
        train := insertRecord { m with dest := some (divertTaken s.rejectDest ans).1 } s.train } := by
      unfold State.routed State.routing State.routedRecord
      rw [asks]
    let z := y.routed m at_ s.rejectDest s.train
    have view : z = { s0 with
        channels := (s.withAnswer ans).channels, train := z.train, admissions := z.admissions, serial := z.serial
        freshWindows := z.freshWindows, watch := z.watch, trainCause := z.trainCause, faults := z.faults
        overflow := z.overflow } := by
      have whole : z = _ := result
      rw [noteDivert_frame, withAnswer_frame, channels] at whole
      clear_value z
      rw [whole, frame]
    have shown : z.shown = s.shown := by
      rw [view]
      exact funext (shown_congr (fun i => by cases i <;> rfl) rfl rfl)
    have shape := refresh_shape z
    rw [shown] at shape
    refine ⟨_, run z (made.trans routed) (by rw [view]; rfl), fun j => ?_, ?_⟩
    · have out : z.refresh.channel j = s.shown (z.channel j) := by
        rw [shape]
        simp [State.channel]
      have asked : z.channel j = (s.withAnswer ans).channel j := by
        rw [view]
        rfl
      rw [out, asked]
      exact shown_withAnswer hshown ans j
    · have whole : z = _ := result
      rw [noted] at whole
      generalize z.refresh = t at *
      generalize (Vector.ofFn fun c => s.shown (z.channel c)) = outputs at *
      rw [shape, whole]
      rfl
  · have full : s0.stray k (c.edge e) = s0.recordFault
        { kind := .trainFull, position := s.pos .a, input := .a, unit := some (.eye e) } := by
      unfold State.stray
      dsimp only
      rw [if_neg hk]
      exact if_pos hfull
    refine (run _ full (by rw [recordFault_eq]; rfl)).trans ?_
    exact congrArg Host.Outcome.next (recordFault_setEye_refresh hp checkpoint .blocked _)
  · have noted : s0.stray k (c.edge e) = s0.recordFault 
        { kind := .stray, position := c.snap (s.eye e).set.input, input := (s.eye e).set.input
          unit := some (.eye e) } := by
      have at_ : (c.edge e).eye = e := rfl
      unfold State.stray
      dsimp only
      rw [if_pos hk, candidate_capture hset c, at_, hset]
    refine (run _ noted (by rw [recordFault_eq]; rfl)).trans ?_
    exact congrArg Host.Outcome.next (recordFault_setEye_refresh hp checkpoint .blocked _)

end Sys2Proof.Machine
end

section
namespace Sys2Proof.Machine

variable {s t : State} {r : Record} {tag : Tag} {sender : Addr} {cause : RemovalCause} {unit : Option FaultUnit}

/-! ### What follows a removal (R52, R126) -/

/-- The TRAIN cause stands from the high water mark on (R126). -/
abbrev State.CauseMarked (s : State) : Prop := s.highMark ≤ s.train.length → s.trainCause = true

theorem RemovedAs.trainCause (h : RemovedAs s r cause unit t) : t.trainCause = (s.takeOut r.tag).trainCause := by
  rw [besideRemoval_frame h.beside]

theorem RemovedAs.marked (h : RemovedAs s r cause unit t) : t.CauseMarked := by
  intro hmark
  rw [h.trainCause]
  have same : t.highMark = s.highMark ∧ t.train.length = (s.takeOut r.tag).train.length := by
    rw [besideRemoval_frame h.beside]
    exact ⟨rfl, rfl⟩
  rw [same.1, same.2] at hmark
  exact if_pos hmark

theorem takeOut_trainCause (hm : s.CauseMarked) (tag : Tag) (h : (s.takeOut tag).trainCause = true) : s.trainCause = true := by
  have fewer : (s.takeOut tag).train.length ≤ s.train.length := List.length_filter_le ..
  have cause : (s.takeOut tag).trainCause = if s.highMark ≤ (s.takeOut tag).train.length then true
      else if (s.takeOut tag).train.length ≤ s.lowMark then false else s.trainCause := rfl
  rw [cause] at h
  split at h
  · rename_i hle
    exact hm (hle.trans fewer)
  · split at h
    · cases h
    · exact h

/-- A removal but a WRAP suspends no gate anew. -/
theorem RemovedAs.calmer (h : RemovedAs s r cause unit t) (hm : s.CauseMarked) (hwrap : cause ≠ .wrap) : s.Calmer t := by
  have frame := h.frame
  have train := h.train
  have alarm := h.alarm
  have queue := h.queue
  have marked := h.trainCause
  have feed : t.feedCount ≤ s.feedCount := by
    unfold State.feedCount
    rw [queue]
    split
    · split
      · rw [List.countP_append]
        exact Nat.le_refl _
      · exact Nat.le_refl _
    · exact Nat.le_refl _
  have full : t.trainFull = true → s.trainFull = true := by
    unfold State.trainFull
    rw [train, decide_eq_true_iff, decide_eq_true_iff]
    exact fun hf => hf.trans (List.length_filter_le ..)
  refine calmer_of_view ?_ (eyesCalmer_of_eyes ?_) ?_ ?_ full feed
  · rw [frame]
    rfl
  · rw [frame]
  · rw [alarm]
    simp [hwrap]
  · rw [marked]
    exact takeOut_trainCause hm r.tag

/-! ### O36: LOST, MARK, HOLD and JOIN from a peer (R63, R64, R125, R132, R185) -/

/-- A frame of another address is handed on, and what follows it follows. -/
theorem accept_peer (hidle : s.attempting = false) (hown : s.address ≠ some sender) (hmode : s.mode ≠ .config) (f : Frame) :
    s.accept sender f = (State.handOn { s with busIdle := false } sender f).refresh := by
  have noClash : State.clash { s with busIdle := false } sender = false := by
    have : (s.address == some sender) = false := by simpa using hown
    exact (congrArg (State.serving s && ·) this).trans (Bool.and_false _)
  unfold State.accept
  dsimp only
  rw [attemptEnded_idle hidle, if_neg hmode, noClash]
  rfl

/-- A LOST of a record that is not PENDING changes nothing (R63). -/
theorem takeLost_none (h : ((s.findRecord tag).all fun r => r.stage != .pending) = true) : s.takeLost tag = s := by
  unfold State.takeLost
  split
  · rename_i r hr
    rw [hr] at h
    have stage : r.stage ≠ .pending := by simpa using h
    rw [if_neg (by simp [stage])]
  · rfl

theorem takeLost_pending (hlive : s.live = true) (hr : s.findRecord tag = some r) (hstage : r.stage = .pending) :
    s.takeLost tag = s.removeRecord r .lostRemote none := by
  unfold State.takeLost
  rw [hr]
  exact if_pos (by simp [hlive, hstage])

/-- What a LOST of a PENDING record leaves (R63). -/
theorem lostRemote_leaves (hp : s.PinsFollow) (ht : s.TrainSound) (r : Record) :
    (s.removeRecord r .lostRemote none).refresh.train = s.train.filter (fun x => x.tag != r.tag) ∧
      ∃ t, t = (s.removeRecord r .lostRemote none).refresh ∧ t = { s with
        train := t.train, trainCause := t.trainCause, waiting := t.waiting, freshWindows := t.freshWindows
        lots := t.lots, closureList := t.closureList, dests := t.dests, channels := t.channels
        faults := t.faults, overflow := t.overflow, alertPin := t.alertPin } := by
  have removed := removeRecord_removedAs s r .lostRemote none
  have frame := removed.frame
  have queue : (s.removeRecord r .lostRemote none).queue = s.queue := removed.queue
  have alarm : (s.removeRecord r .lostRemote none).wrapAlarm = s.wrapAlarm := removed.alarm.trans (Bool.or_false _)
  have outputs := (removed.calmer ht.2.2.2.2.2.1 (by decide)).refresh_outputs hp
  refine ⟨(refresh_train _).trans removed.train, _, rfl, ?_⟩
  rw [queue, alarm] at frame
  generalize (Vector.ofFn fun c => s.shown ((s.removeRecord r .lostRemote none).channel c)) = channels at *
  generalize (s.removeRecord r .lostRemote none).refresh = t at *
  rw [outputs, frame]
  rfl

end Sys2Proof.Machine
end

section
namespace Sys2Proof.Machine

variable {s t : State} {r : Record} {tag : Tag} {sender a : Addr}

theorem setHolder_holder (s : State) (x : Option (BitVec 5)) (a b : Addr) :
    (s.setHolder a x).holder b = if b = a then x else s.holder b := by
  unfold State.setHolder State.holder
  by_cases h : b = a
  · subst h
    simp
  · rw [if_neg h]
    exact Vector.getElem_set_ne a.toFin.isLt b.toFin.isLt fun hn => h (BitVec.eq_of_toNat_eq hn.symm)

/-- A holder set changed at one address (R125). -/
theorem setHolder_reasonHeld (hown : s.address ≠ some sender) (x : Option (BitVec 5)) (a : Addr) :
    (s.setHolder sender x).reasonHeld a = if a = sender then x else s.reasonHeld a := by
  have same : (s.setHolder sender x).reasonHeld a =
      if s.address = some a then (if s.holding then some s.announcedReason else none)
      else (s.setHolder sender x).holder a := rfl
  rw [same, setHolder_holder, State.reasonHeld]
  by_cases h : a = sender
  · subst h
    simp [hown]
  · simp [h]

theorem mem_addrs (a : Addr) : a ∈ addrs :=
  List.mem_map.mpr ⟨a.toNat, List.mem_range.mpr a.isLt, by simp⟩

/-- Where a peer holds, every gate is suspended (R95, R128). -/
theorem suspended_of_reasonHeld (h : (s.reasonHeld a).isSome = true) (g : GateIx) : s.suspended g = true := by
  have held : s.held = true := by
    unfold State.held
    rw [Bool.or_eq_true]
    exact .inr (List.any_eq_true.mpr ⟨a, mem_addrs a, h⟩)
  unfold State.suspended
  simp [held]

/-- A holder cleared, with less reserved and what no cause looks at: nothing is suspended anew. -/
theorem setHolder_none_calmer (s : State) (a : Addr) : s.Calmer (s.setHolder a none) := by
  have fewer : s.FewerCauses (s.setHolder a none) := by
    refine ⟨rfl, rfl, id, id, fun b hb => ?_, id, id, rfl⟩
    rw [setHolder_holder] at hb
    split at hb
    · cases hb
    · exact hb
  exact ⟨fun i => by cases i <;> rfl, rfl, rfl, fun g hg => fewer.suspended (g := g) ⟨rfl, rfl, rfl⟩ id (Nat.le_refl _) id hg,
    List.Sublist.refl _⟩

theorem takeMark_eq (hlive : s.live = true) (tag : Tag) (mark : Byte) : s.takeMark tag mark = { s with
    train := s.train.map fun r =>
      if mark = 1 ∧ r.tag = tag then { r with flags := { r.flags with reject := true } } else r } := by
  have code : rejectMark = 1 := rfl
  unfold State.takeMark State.markReject State.updateRecord
  rw [hlive, code]
  by_cases hmark : mark = 1
  · subst hmark
    rw [if_pos (by rfl)]
    refine congrArg (fun l => { s with train := l }) (List.map_congr_left fun r _ => ?_)
    simp only [beq_iff_eq, true_and]
    rfl
  · have none_ : (s.train.map fun r =>
        if mark = 1 ∧ r.tag = tag then { r with flags := { r.flags with reject := true } } else r) = s.train :=
      (List.map_congr_left fun r _ => if_neg fun h => hmark h.1).trans (List.map_id _)
    rw [if_neg (by simpa using hmark), none_]

/-- What a JOIN of a peer leaves (R125, R132, R185). -/
def State.joinTaken (s : State) (sender : Addr) (role format : Byte) : State :=
  { s.setHolder sender none with
    lastJoin := some { address := sender, role := role, format := format }
    reservations := s.reservations.filter fun r => r.reserver != sender
    watch := s.watch.map fun w => if w.address = sender then { w with expected := none, credits := 0 } else w
    announced := s.announced && !(s.holding && s.mode != .conflict) }

theorem takeJoin_eq (hown : s.address ≠ some sender) (role format : Byte) :
    s.takeJoin sender role format = s.joinTaken sender role format := by
  have watch : ((s.setHolder sender none).watch.map fun w => if w.address == sender then { w with expected := none, credits := 0 } else w) =
      s.watch.map fun w => if w.address = sender then { w with expected := none, credits := 0 } else w := by
    simp only [beq_iff_eq]
    rfl
  unfold State.takeJoin
  rw [if_neg hown]
  dsimp only [State.updateWatch]
  rw [watch]
  have condition : (State.holding { s.setHolder sender none with
      lastJoin := some { address := sender, role := role, format := format }
      reservations := s.reservations.filter fun r => r.reserver != sender
      watch := s.watch.map fun w => if w.address = sender then { w with expected := none, credits := 0 } else w } &&
      s.mode != .conflict) = (s.holding && s.mode != .conflict) := rfl
  unfold State.joinTaken
  cases hc : (s.holding && s.mode != .conflict) with
  | true =>
    refine (if_pos (condition.trans hc)).trans ?_
    rw [Bool.not_true, Bool.and_false]
  | false =>
    refine (if_neg (ne_true_of_eq_false (condition.trans hc))).trans ?_
    rw [Bool.not_false, Bool.and_true]
    rfl

theorem joinTaken_calmer (s : State) (sender : Addr) (role format : Byte) : s.Calmer (s.joinTaken sender role format) := by
  obtain ⟨hpos, hmode, hstep, hsuspended, -⟩ := setHolder_none_calmer s sender
  exact ⟨hpos, hmode, hstep, hsuspended, List.filter_sublist⟩

/-- Settles O36: each frame at its owner, and what follows it. -/
theorem lostMarkHoldAndJoinFromPeers : Obligations.LostMarkHoldAndJoinFromPeers := by
  unfold Obligations.LostMarkHoldAndJoinFromPeers
  intro s sender tag mark cause role format on reason hp hidle hown
  let z : State := { s with busIdle := false }
  have hz : z.PinsFollow := hp
  have heard : ∀ f, s.mode ≠ .config → s.accept sender f = (z.handOn sender f).refresh := fun f hmode =>
    accept_peer hidle hown hmode f
  refine ⟨fun ht hlive => ?_, fun hmode => ?_, fun hmode => ?_⟩
  · have hmode : s.mode ≠ .config := fun h => by simp [State.live, h] at hlive
    have soundz : z.TrainSound := ht
    refine ⟨fun hnone => ?_, fun hpending => ?_, ?_⟩
    · have lost : s.accept sender (.lost tag cause) = z := by
        rw [heard _ hmode, State.handOn, takeLost_none (s := z) hnone]
        exact refresh_follows z hz
      exact congrArg Host.Outcome.next lost
    · obtain ⟨r, hr, hstage⟩ : ∃ r, s.findRecord tag = some r ∧ r.stage = .pending := by
        simpa [Option.any_eq_true] using hpending
      obtain ⟨-, rfl⟩ := findRecord_some s hr
      have lost : s.accept sender (.lost r.tag cause) = (z.removeRecord r .lostRemote none).refresh := by
        rw [heard _ hmode, State.handOn, takeLost_pending (s := z) hlive hr hstage]
      obtain ⟨train, t, htaken, frame⟩ := lostRemote_leaves hz soundz r
      refine ⟨t, htaken ▸ congrArg Host.Outcome.next lost, htaken ▸ train, frame⟩
    · have marked : s.accept sender (.mark tag mark) = { z with train := s.train.map fun r =>
            if mark = 1 ∧ r.tag = tag then { r with flags := { r.flags with reject := true } } else r } := by
        rw [heard _ hmode, State.handOn, takeMark_eq (s := z) hlive]
        refine refresh_besideTrain_eq (s := z) rfl ?_ rfl rfl rfl rfl hz
        unfold State.trainFull
        rw [List.length_map]
      exact congrArg Host.Outcome.next marked
  · let x : Option (BitVec 5) := if on then some reason else none
    have hold : s.accept sender (.hold on reason) = (z.setHolder sender x).refresh := by
      rw [heard _ hmode, State.handOn, State.takeHold, if_neg hown]
    have frame := refresh_shown (s := z) (t := z.setHolder sender x) hz (fun i => by cases i <;> rfl) rfl rfl rfl
    have holders := setHolder_reasonHeld (s := z) hown x
    have kept : ∀ a, (z.setHolder sender x).refresh.reasonHeld a = (z.setHolder sender x).reasonHeld a := fun a => by
      rw [frame]
      rfl
    refine ⟨_, congrArg Host.Outcome.next hold, ?_, fun a ha => ?_, fun hon g => ?_, fun hoff => ?_, ?_⟩
    · rw [kept, holders, if_pos rfl]
    · rw [kept, holders, if_neg ha]
      rfl
    · refine suspended_of_reasonHeld (a := sender) ?_ g
      rw [kept, holders, if_pos rfl]
      dsimp only [x]
      rw [if_pos hon]
      rfl
    · have none_ : x = none := if_neg (by simp [hoff])
      have quiet := (setHolder_none_calmer z sender).refresh hz rfl
      rw [none_, quiet]
      exact ⟨rfl, rfl, rfl⟩
    · generalize (z.setHolder sender x).refresh = t at *
      rw [frame]
      rfl
  · have join : s.accept sender (.join role format) = (z.joinTaken sender role format).alertAfresh := by
      rw [heard _ hmode, State.handOn, takeJoin_eq (s := z) hown]
      exact (joinTaken_calmer z sender role format).refresh hz rfl
    exact congrArg Host.Outcome.next join

end Sys2Proof.Machine
end

section
namespace Sys2Proof.Machine

variable (s : State)

/-! ### An admission leaves the watch list (R53) -/

theorem watch_of_besideLots {s t : State} (h : t.besideLots = s.besideLots) : t.watch = s.watch :=
  (congrArg State.watch h : t.besideLots.watch = s.besideLots.watch)

theorem handToLots_watch (tag : Tag) (lot : Lot) (gate : Option GateIx) : (s.handToLots tag lot gate).watch = s.watch := by
  have lots := watch_of_besideLots (lotAdmit_besideLots s tag lot gate)
  unfold State.handToLots
  dsimp only
  split
  · exact lots
  · exact lots

theorem removeRecord_watch (r : Record) (cause : RemovalCause) (unit : Option FaultUnit) :
    (s.removeRecord r cause unit).watch = s.watch := by
  rw [(removeRecord_removedAs s r cause unit).frame]

theorem expireEntry_watch (r : Reservation) : (s.expireEntry r).watch = s.watch := by
  unfold State.expireEntry
  split
  · split <;> rfl
  · rfl

theorem breakReservations_watch (r : Record) : (s.breakReservations r).watch = s.watch :=
  foldl_view State.watch _ expireEntry_watch ..

theorem clearIfPassed_watch (tag : Tag) : (s.clearIfPassed tag).watch = s.watch := by
  unfold State.clearIfPassed
  split
  · split
    · exact removeRecord_watch ..
    · rfl
  · rfl

theorem depart_watch (r : Record) : (s.depart r).watch = s.watch := by
  unfold State.depart
  split
  · rename_i d hd
    exact (removeRecord_watch ..).trans (watch_of_besideLots ((besideLots_kept _).countIntoStack rfl d r.lot))
  · rfl

theorem departIfPassed_watch (tag : Tag) : (s.departIfPassed tag).watch = s.watch := by
  unfold State.departIfPassed
  split
  · split
    · split
      · exact depart_watch ..
      · rfl
    · rfl
  · rfl

theorem requestDivert_watch (r : Record) (e : Pos) (d : DestIx) : (s.requestDivert r e d).watch = s.watch := by
  unfold State.requestDivert
  dsimp only
  split
  · rfl
  · split
    · exact recordFault_watch ..
    · exact recordFault_watch ..
    · exact recordFault_watch ..
    · rfl

theorem route_watch (tag : Tag) : (s.route tag).watch = s.watch := by
  unfold State.route
  split
  · rfl
  · split
    · rfl
    · split
      · rfl
      · exact (departIfPassed_watch ..).trans (requestDivert_watch ..)

theorem announce_watch (r : Record) : (s.announce r).watch = s.watch := by
  unfold State.announce
  split
  · rfl
  · exact recordFault_watch ..

theorem exitSteps_watch (r : Record) : ((s.replaceRecord r).exitSteps r.tag none).watch = s.watch := by
  rw [exitSteps_reckoned, queueHandoff_eq]
  exact announce_watch (s.leave r) (s.leavingRecord r)

theorem reckonExit_watch (r : Record) : (s.reckonExit r).watch = s.watch :=
  exitSteps_watch s { r with stage := .leaving, lead := some r.p }

theorem reckonExitIfPassed_watch (tag : Tag) : (s.reckonExitIfPassed tag).watch = s.watch := by
  unfold State.reckonExitIfPassed
  split
  · split
    · exact reckonExit_watch ..
    · rfl
  · rfl

theorem reckon_watch (r : Record) : (s.reckon r).watch = s.watch := by
  unfold State.reckon
  split
  · rfl
  · exact reckonExitIfPassed_watch ..
  · exact reckonExit_watch ..
  · exact removeRecord_watch ..
  · exact route_watch ..
  · rfl

theorem reckonIfPassed_watch (tag : Tag) : (s.reckonIfPassed tag).watch = s.watch := by
  unfold State.reckonIfPassed
  split
  · split
    · rfl
    · split
      · exact reckon_watch ..
      · rfl
    · rfl
  · rfl

theorem missIfClosed_watch (tag : Tag) : (s.missIfClosed tag).watch = s.watch := by
  unfold State.missIfClosed
  split
  · rfl
  · split
    · rfl
    · split
      · exact removeRecord_watch ..
      · rfl

theorem takeIn_watch (r : Record) : (s.takeIn r).watch = s.watch := by
  have added : (s.added r).watch = s.watch := by
    unfold State.added
    split
    · exact (recordFault_watch ..).trans (handToLots_watch ..)
    · exact handToLots_watch ..
  have broken : (if s.role = some .feed then (s.added r).breakReservations r else s.added r).watch = s.watch := by
    split
    · exact (breakReservations_watch ..).trans added
    · exact added
  exact (clearIfPassed_watch ..).trans ((reckonIfPassed_watch ..).trans ((missIfClosed_watch ..).trans broken))

theorem testedAdmission_watch (offset : Int) (tag : Tag) (lot : Lot) (lanes : Lanes) (r : Record) :
    (s.testedAdmission offset tag lot lanes r).watch = s.watch := by
  unfold State.testedAdmission
  split
  · rfl
  · split
    · exact recordFault_watch ..
    · split
      · exact recordFault_watch ..
      · split
        · rfl
        · exact takeIn_watch ..

end Sys2Proof.Machine
end

section
namespace Sys2Proof.Machine

variable {s t : State} {sender : Addr} {w : WatchEntry} {seq : Seq} {tag : Tag}

/-! ### O35: announcements are checked (R53, R133, R135) -/

/-- The tracker once the sequence of an announcement from a watched sender has been checked (R133). -/
def State.checkedBy (s : State) (sender : Addr) (w : WatchEntry) (seq : Seq) (tag : Tag) : State :=
  let missing := match w.expected with
    | some e => (seq - e).toNat
    | none => 0
  let u : State :=
    { s with
      busIdle := false
      watch := s.watch.map fun x =>
        if x.address = sender then
          { x with expected := some (seq + 1)
                   credits := min 7 (x.credits + match x.expected with
                     | some e => (seq - e).toNat
                     | none => 0) }
        else x }
  if missing = 0 then u else u.recordFault
    { kind := .missingAnnounce, position := s.pos .a, input := .a, tag := some tag, count := some missing }

theorem sequenceCheck_eq (hserving : s.serving = true) (hw : s.watchOf sender = some w) (seq : Seq) (tag : Tag) :
    State.sequenceCheck { s with busIdle := false } w seq tag = s.checkedBy sender w seq tag := by
  have address : w.address = sender := by
    have := List.find?_some hw
    simpa using this
  have here : State.serving { s with busIdle := false } = true := hserving
  have watch : (s.watch.map fun x => if x.address == sender then x.checked seq else x) = s.watch.map fun x =>
      if x.address = sender then
        { x with expected := some (seq + 1)
                 credits := min 7 (x.credits + match x.expected with
                   | some e => (seq - e).toNat
                   | none => 0) }
      else x := by
    simp only [beq_iff_eq]
    rfl
  unfold State.sequenceCheck State.checkedBy State.updateWatch
  rw [here, address]
  dsimp only
  rw [watch, if_neg (by decide)]
  have missing : w.missing seq = match w.expected with
      | some e => (seq - e).toNat
      | none => 0 := rfl
  rw [← missing]
  by_cases h : w.missing seq = 0
  · rw [if_neg (by omega), if_pos h]
  · rw [if_pos (by omega), if_neg h]
    rfl

theorem checkedBy_frame (s : State) (sender : Addr) (w : WatchEntry) (seq : Seq) (tag : Tag) :
    s.checkedBy sender w seq tag = { s with
      busIdle := false, watch := (s.checkedBy sender w seq tag).watch, faults := (s.checkedBy sender w seq tag).faults
      overflow := (s.checkedBy sender w seq tag).overflow } := by
  unfold State.checkedBy
  generalize (match w.expected with
    | some e => (seq - e).toNat
    | none => 0) = n
  by_cases h : n = 0
  · dsimp only
    rw [if_pos h]
  · dsimp only
    rw [if_neg h, recordFault_eq]

/-- An event that changes the watch list and records faults is followed by ALERT alone. -/
theorem refresh_watched {idle : Bool} (hp : s.PinsFollow) (h : t = { s with
    busIdle := idle, watch := t.watch, faults := t.faults, overflow := t.overflow }) : t.refresh = t.alertAfresh := by
  have calm : s.Calmer t := by
    rw [h]
    exact calmer_of_view rfl (eyesCalmer_of_eyes rfl) id id id (Nat.le_refl _)
  exact calm.refresh hp (by rw [h])

/-- The refusal of an announcement that is recorded (R53). -/
theorem refusal_refresh (hp : s.PinsFollow) (k : FaultKind) (lot : Lot) :
    ((s.checkedBy sender w seq tag).refusal k tag lot).refresh =
      State.alertAfresh ((s.checkedBy sender w seq tag).recordFault
        { kind := k, position := s.pos .a, input := .a, tag := some tag, lot := some lot }) := by
  have frame := checkedBy_frame s sender w seq tag
  have pos : (s.checkedBy sender w seq tag).pos .a = s.pos .a := by
    rw [frame]
    rfl
  unfold State.refusal
  rw [pos]
  refine refresh_watched (idle := false) hp ?_
  generalize s.checkedBy sender w seq tag = u at *
  rw [recordFault_eq, frame]

theorem checkedBy_fields (s : State) (sender : Addr) (w : WatchEntry) (seq : Seq) (tag : Tag) :
    (s.checkedBy sender w seq tag).live = s.live ∧ (s.checkedBy sender w seq tag).role = s.role ∧
      (s.checkedBy sender w seq tag).train = s.train ∧ (s.checkedBy sender w seq tag).trainFull = s.trainFull := by
  rw [checkedBy_frame]
  exact ⟨rfl, rfl, rfl, rfl⟩

/-- The tests that refuse an admission without a fault (R53, R135). -/
theorem testedAdmission_silent {offset : Int} {lot : Lot} {lanes : Lanes}
    (h : lanes = 0 ∨ (offset ≤ 0 ∧ s.findRecord tag = none ∧ s.trainFull = false)) (r : Record) :
    s.testedAdmission offset tag lot lanes r = s := by
  unfold State.testedAdmission
  by_cases hlanes : lanes = 0
  · rw [if_pos hlanes]
  · obtain ⟨hoffset, hnew, hroom⟩ := h.resolve_left hlanes
    have fresh : (s.train.any fun x => x.tag == tag) = false := List.any_eq_false.mpr (List.find?_eq_none.mp hnew)
    rw [if_neg hlanes, fresh, hroom, if_neg (by decide), if_neg (by decide), if_pos hoffset]

theorem testedAdmission_duplicate {offset : Int} {lot : Lot} {lanes : Lanes} (hlanes : lanes ≠ 0)
    (h : (s.findRecord tag).isSome = true) (r : Record) :
    s.testedAdmission offset tag lot lanes r = s.refusal .duplicateTag tag lot := by
  have held : (s.train.any fun x => x.tag == tag) = true := by
    obtain ⟨y, hy⟩ := Option.isSome_iff_exists.mp h
    obtain ⟨hmem, htag⟩ := findRecord_some s hy
    exact List.any_eq_true.mpr ⟨y, hmem, by simp [htag]⟩
  unfold State.testedAdmission
  rw [if_neg hlanes, if_pos held]

theorem testedAdmission_full {offset : Int} {lot : Lot} {lanes : Lanes} (hlanes : lanes ≠ 0) (hnew : s.findRecord tag = none)
    (h : s.trainFull = true) (r : Record) : s.testedAdmission offset tag lot lanes r = s.refusal .trainFull tag lot := by
  have fresh : (s.train.any fun x => x.tag == tag) = false := List.any_eq_false.mpr (List.find?_eq_none.mp hnew)
  unfold State.testedAdmission
  rw [if_neg hlanes, fresh, if_neg (by decide), if_pos h]

theorem silent_refresh {c : Prop} [Decidable c] {x y : State} (h : c → x = y) : State.refresh (if c then x else y) = y.refresh := by
  split
  · rename_i hc
    rw [h hc]
  · rfl

/-- Settles O35: the check, whatever comes of the announcement, and the refusals one by one. -/
theorem announcementsAreChecked : Obligations.AnnouncementsAreChecked := by
  unfold Obligations.AnnouncementsAreChecked
  intro s sender f h w hp hidle hserving hown hw checked refused
  have hmode : s.mode ≠ .config := fun hm => by simp [State.serving, State.live, hm] at hserving
  have quiet : ∀ seq tag, (s.checkedBy sender w seq tag).refresh = (checked seq tag).alertAfresh := fun seq tag =>
    refresh_watched hp (checkedBy_frame s sender w seq tag)
  let u := s.checkedBy sender w f.seq f.tag
  let v := s.checkedBy sender w h.seq h.tag
  obtain ⟨ulive, urole, utrain, ufull⟩ := checkedBy_fields s sender w f.seq f.tag
  obtain ⟨vlive, vrole, vtrain, vfull⟩ := checkedBy_fields s sender w h.seq h.tag
  have ufind : u.findRecord = s.findRecord := funext fun tag => by rw [State.findRecord, utrain, State.findRecord]
  have vfind : v.findRecord = s.findRecord := funext fun tag => by rw [State.findRecord, vtrain, State.findRecord]
  let rf := u.announcedRecord w.offset f.offset (releaseRecord f)
  let rh := v.announcedRecord w.offset h.offset (handoffRecord h)
  have release : exec (.release sender f) s = .next (State.refresh (if (u.live && u.admitsRelease f.spacer) = true then
      u.testedAdmission w.offset f.tag f.lot f.lanes rf else u)) := by
    have watched : State.watchOf { s with busIdle := false } sender = some w := hw
    have taken : State.takeRelease { s with busIdle := false } sender f =
        if (u.live && u.admitsRelease f.spacer) = true then u.testedAdmission w.offset f.tag f.lot f.lanes rf else u := by
      unfold State.takeRelease
      rw [watched]
      dsimp only
      rw [sequenceCheck_eq hserving hw]
    refine congrArg Host.Outcome.next ((accept_peer hidle hown hmode _).trans ?_)
    rw [State.handOn, taken]
  have handoff : exec (.handoff sender h) s = .next (State.refresh (if (v.live && v.role == some .outlet) = true then
      v.testedAdmission w.offset h.tag h.lot h.lanes rh else v)) := by
    have watched : State.watchOf { s with busIdle := false } sender = some w := hw
    have taken : State.takeHandoff { s with busIdle := false } sender h =
        if (v.live && v.role == some .outlet) = true then v.testedAdmission w.offset h.tag h.lot h.lanes rh else v := by
      unfold State.takeHandoff
      rw [watched]
      dsimp only
      rw [sequenceCheck_eq hserving hw]
    refine congrArg Host.Outcome.next ((accept_peer hidle hown hmode _).trans ?_)
    rw [State.handOn, taken]
  have keeps : ∀ (c : Prop) [Decidable c] (x y : State), x.watch = y.watch → (State.refresh (if c then x else y)).watch = y.watch :=
    fun c _ x y hxy => by
      rw [refresh_frame]
      dsimp only
      split
      · exact hxy
      · rfl
  have admits : u.admitsRelease f.spacer = s.admitsRelease f.spacer := by
    unfold State.admitsRelease
    rw [urole]
  have takes : s.live = true → s.role = some .feed ∨ (s.role = some .ironer ∧ f.spacer = false) →
      (u.live && u.admitsRelease f.spacer) = true := fun hlive hrole => by
    rw [ulive, admits, hlive]
    unfold State.admitsRelease
    rcases hrole with hrole | ⟨hrole, hspacer⟩
    · rw [hrole]
      rfl
    · rw [hrole, hspacer]
      rfl
  have takesHandoff : s.live = true → s.role = some .outlet → (v.live && v.role == some .outlet) = true :=
    fun hlive hrole => by
      rw [vlive, vrole, hlive, hrole]
      rfl
  refine ⟨⟨⟨_, release, keeps _ _ _ (testedAdmission_watch ..)⟩, _, handoff, keeps _ _ _ (testedAdmission_watch ..)⟩,
    fun hc => ?_, fun hc => ?_, fun hlive hrole hlanes => ⟨fun hdup => ?_, fun hnew hfull => ?_⟩,
    fun hlive hrole hlanes => ⟨fun hdup => ?_, fun hnew hfull => ?_⟩⟩
  · rw [release, silent_refresh, quiet]
    intro htaken
    rw [ulive, admits, Bool.and_eq_true] at htaken
    obtain ⟨hlive, hadmits⟩ := htaken
    refine testedAdmission_silent ?_ rf
    rw [ufind, ufull]
    rcases hc with hc | hc | hc | ⟨hc, hspacer⟩ | hc
    · simp [State.live, hc] at hlive
    · simp [State.admitsRelease, hc] at hadmits
    · simp [State.admitsRelease, hc] at hadmits
    · simp [State.admitsRelease, hc, hspacer] at hadmits
    · exact hc
  · rw [handoff, silent_refresh, quiet]
    intro htaken
    rw [vlive, vrole, Bool.and_eq_true] at htaken
    obtain ⟨hlive, hrole⟩ := htaken
    refine testedAdmission_silent ?_ rh
    rw [vfind, vfull]
    rcases hc with hc | hc | hc
    · simp [State.live, hc] at hlive
    · exact absurd (by simpa using hrole) hc
    · exact hc
  · rw [release, if_pos (takes hlive hrole), testedAdmission_duplicate hlanes (by rw [ufind]; exact hdup)]
    exact congrArg Host.Outcome.next (refusal_refresh hp ..)
  · rw [release, if_pos (takes hlive hrole), testedAdmission_full hlanes (by rw [ufind]; exact hnew) (by rw [ufull]; exact hfull)]
    exact congrArg Host.Outcome.next (refusal_refresh hp ..)
  · rw [handoff, if_pos (takesHandoff hlive hrole), testedAdmission_duplicate hlanes (by rw [vfind]; exact hdup)]
    exact congrArg Host.Outcome.next (refusal_refresh hp ..)
  · rw [handoff, if_pos (takesHandoff hlive hrole),
      testedAdmission_full hlanes (by rw [vfind]; exact hnew) (by rw [vfull]; exact hfull)]
    exact congrArg Host.Outcome.next (refusal_refresh hp ..)

end Sys2Proof.Machine
end

section
namespace Sys2Proof.Machine

variable {s t : State} {r : Record} {k : Checkpoint} {x : Edge} {n : Nat}

/-! ### O21: trailing edges at the exit and the outlet (R77 to R80, R154) -/

/-- The length verdict is against the record (R79). -/
def State.wrongLength (s : State) (r : Record) (m : Option Nat) : Bool :=
  !r.flags.stray && !r.flags.recovered &&
    m.any fun n => decide ((s.classOf r.cls).tolerance < ((n : Int) - max 1 r.nominal).natAbs)

/-- The fault of the verdict. -/
def State.lengthFault (s : State) (r : Record) (x : Edge) : FaultRecord :=
  { kind := .length, position := s.capture x, input := (s.eye x.eye).set.input, tag := some r.tag, lot := some r.lot
    unit := some (.eye x.eye) }

/-- A record with its measured length and its verdict (R78, R79). -/
def Record.judgedAs (m : Option Nat) (wrong : Bool) (y : Record) : Record :=
  { y with
    measured := if m.isSome then m else y.measured, flags := { y.flags with length := y.flags.length || wrong } }

/-- The state once the verdict has been taken. -/
def State.judgedTrain (s : State) (r : Record) (m : Option Nat) (x : Edge) : State :=
  { (if s.wrongLength r m then s.recordFault (s.lengthFault r x) else s) with
    train := s.train.map fun y => if y.tag == r.tag then y.judgedAs m (s.wrongLength r m) else y }

theorem judgedAs_none (y : Record) : y.judgedAs none false = y := by
  unfold Record.judgedAs
  rw [Bool.or_false]
  rfl

theorem judgedTrain_none (s : State) (r : Record) (x : Edge) : s.judgedTrain r none x = s := by
  have right : s.wrongLength r none = false := Bool.and_false _
  have same : (s.train.map fun y => if y.tag == r.tag then y.judgedAs none false else y) = s.train :=
    (List.map_congr_left fun y _ => by rw [judgedAs_none, ite_self]; rfl).trans (List.map_id _)
  unfold State.judgedTrain
  rw [right, same, if_neg (by decide)]

/-- The measured length and the verdict on it, as the train takes them. -/
theorem verdict_judged (s : State) (r : Record) (n : Nat) (x : Edge) :
    (s.updateRecord r.tag fun y => { y with measured := some n }).verdict r n x = s.judgedTrain r (some n) x := by
  have wrong : s.wrongLength r (some n) = (!(r.flags.stray || r.flags.recovered) && s.outOfTolerance r n) := by
    rw [Bool.not_or]
    have used : r.nominalUsed = max 1 r.nominal := rfl
    unfold State.outOfTolerance
    rw [used]
    rfl
  have out : State.outOfTolerance (s.updateRecord r.tag fun y => { y with measured := some n }) r n = s.outOfTolerance r n := rfl
  unfold State.verdict State.judgedTrain
  rw [out, wrong]
  cases hs : (r.flags.stray || r.flags.recovered) with
  | true =>
    rw [if_pos rfl]
    refine congrArg (fun l => { s with train := l }) (List.map_congr_left fun y _ => ?_)
    unfold Record.judgedAs
    simp
  | false =>
    rw [if_neg (by decide)]
    cases ho : s.outOfTolerance r n with
    | false =>
      refine congrArg (fun l => { s with train := l }) (List.map_congr_left fun y _ => ?_)
      unfold Record.judgedAs
      simp
    | true =>
      have twice := updateRecord_updateRecord s r.tag (fun y => { y with measured := some n })
        (fun y => { y with flags := { y.flags with length := true } }) fun _ => rfl
      rw [if_pos rfl, twice, recordFault_eq, if_pos (by rfl), recordFault_eq]
      refine congrArg (fun l => { s with
        faults := (noteFault s.faults s.overflow (s.lengthFault r x)).1
        overflow := (noteFault s.faults s.overflow (s.lengthFault r x)).2, train := l })
        (List.map_congr_left fun y _ => ?_)
      unfold Record.judgedAs
      simp

/-- What the divert channel of a record measured longer than nominal answers to its extension (R154). -/
def State.extendAnswer (s : State) (r : Record) (m : Option Nat) : Option (DestIx × ChannelIx × Channel × Answer) := do
  let d ← r.dest
  let at_ ← r.lead
  let n ← m
  let ch ← (s.dest d).set.divert
  if max 1 r.nominal < n then
    some (d, ch, (s.channel ch).extend r.tag (Pos.plus at_ ((s.dest d).set.xd + n + (s.dest d).set.ma)))
  else none

/-- The channel that has answered, and the fault of a pulse that is gone. -/
def State.withExtension (s : State) (r : Record) : Option (DestIx × ChannelIx × Channel × Answer) → State
  | some (d, ch, y, .gone) => (s.setChannel ch y).divertFault .lateDivert r d
  | some (_, ch, y, _) => s.setChannel ch y
  | none => s

theorem extendAnswer_some {d : DestIx} {e : Pos} (hd : r.dest = some d) (he : r.lead = some e) (n : Nat) :
    s.extendAnswer r (some n) = (s.dest d).set.divert.bind fun ch => if max 1 r.nominal < n then
      some (d, ch, (s.channel ch).extend r.tag (Pos.plus e ((s.dest d).set.xd + n + (s.dest d).set.ma))) else none := by
  unfold State.extendAnswer
  rw [hd, he]
  rfl

theorem extendDivert_answer (s : State) (r : Record) (n : Nat) :
    s.extendDivert r n = s.withExtension r (s.extendAnswer r (some n)) := by
  unfold State.extendDivert
  cases hd : r.dest with
  | none =>
    unfold State.extendAnswer
    rw [hd]
    rfl
  | some d =>
    cases he : r.lead with
    | none =>
      unfold State.extendAnswer
      rw [hd, he]
      rfl
    | some e =>
      have used : r.nominalUsed = max 1 r.nominal := rfl
      rw [extendAnswer_some hd he, used]
      cases hc : (s.dest d).set.divert with
      | none =>
        dsimp only
        rw [hc, ite_self]
        rfl
      | some c =>
        dsimp only [Option.bind_some]
        rw [hc]
        by_cases h : max 1 r.nominal < n
        · rw [if_pos h, if_pos h]
          unfold State.extend
          dsimp only
          generalize (s.channel c).extend _ _ = q
          obtain ⟨y, a⟩ := q
          cases a <;> rfl
        · rw [if_neg h, if_neg h]
          rfl

end Sys2Proof.Machine
end

section
namespace Sys2Proof.Machine

variable {s t u : State} {r : Record} {k : Checkpoint} {x : Edge} {n : Nat} {cause : RemovalCause}

theorem extendAnswer_none (s : State) (r : Record) : s.extendAnswer r none = none := by
  unfold State.extendAnswer
  cases r.dest with
  | none => rfl
  | some d => cases r.lead <;> rfl

theorem extendAnswer_congr (hdests : t.dests = s.dests) (hchannels : t.channels = s.channels) (r : Record) (m : Option Nat) :
    t.extendAnswer r m = s.extendAnswer r m := by
  unfold State.extendAnswer State.dest State.channel
  rw [hdests, hchannels]

theorem judgedTrain_frame (s : State) (r : Record) (m : Option Nat) (x : Edge) : s.judgedTrain r m x = { s with
    train := s.train.map fun y => if y.tag == r.tag then y.judgedAs m (s.wrongLength r m) else y
    faults := (s.judgedTrain r m x).faults, overflow := (s.judgedTrain r m x).overflow } := by
  unfold State.judgedTrain
  split
  · rw [recordFault_eq]
  · rfl

theorem measured_exit (s : State) (r : Record) (x : Edge) :
    s.measured r .exit x = s.judgedTrain r (s.measure r .exit x) x := by
  unfold State.measured
  cases s.measure r .exit x with
  | none => exact (judgedTrain_none s r x).symm
  | some n =>
    dsimp only
    rw [verdict_judged]
    exact if_neg (by decide)

theorem measured_outlet (s : State) (r : Record) (x : Edge) : s.measured r .outlet x =
    (s.judgedTrain r (s.measure r .outlet x) x).withExtension r (s.extendAnswer r (s.measure r .outlet x)) := by
  unfold State.measured
  cases s.measure r .outlet x with
  | none =>
    rw [judgedTrain_none, extendAnswer_none]
    rfl
  | some n =>
    dsimp only
    have same : (s.judgedTrain r (some n) x).extendAnswer r (some n) = s.extendAnswer r (some n) :=
      extendAnswer_congr (by rw [judgedTrain_frame]) (by rw [judgedTrain_frame]) r _
    rw [verdict_judged, ← same, ← extendDivert_answer]
    exact if_pos rfl

/-- The measured length of a trailing edge but at the IRONER entry (R78). -/
theorem measure_eq (hk : k ≠ .entry) (s : State) (r : Record) (x : Edge) : s.measure r k x =
    ((r.lead.map fun a => diff (s.capture x) a).filter fun n => decide (0 < n)).map Int.toNat := by
  unfold State.measure
  cases k with
  | entry => exact absurd rfl hk
  | _ =>
    cases r.lead with
    | none => rfl
    | some a =>
      dsimp only [Option.map_some]
      by_cases h : 0 < diff (s.capture x) a
      · rw [if_pos h, Option.filter_some, if_pos (by simpa using h)]
        rfl
      · rw [if_neg h, Option.filter_some, if_neg (by simpa using h)]
        rfl

/-! #### Records that pass without a frame -/

/-- From s to t records have left the train, and no frame, gate, eye or alarm has changed. -/
structure State.Passes (s t : State) : Prop where
  frame : t = { s with
    train := t.train, trainCause := t.trainCause, waiting := t.waiting, freshWindows := t.freshWindows, lots := t.lots
    closureList := t.closureList, dests := t.dests, channels := t.channels, faults := t.faults, overflow := t.overflow }
  calmer : s.Calmer t
  marked : t.CauseMarked
  records : ∀ f, s.Records f → t.Records f
  waiting : t.waiting.Sublist s.waiting

theorem State.Passes.refl (h : s.CauseMarked) : s.Passes s :=
  ⟨rfl, ⟨fun _ => rfl, rfl, rfl, fun _ => id, List.Sublist.refl _⟩, h, fun _ => id, List.Sublist.refl _⟩

theorem State.Passes.trans (h : s.Passes t) (h' : t.Passes u) : s.Passes u where
  frame := by
    have one := h.frame
    have two := h'.frame
    clear h h'
    rw [two, one]
  calmer := h.calmer.trans h'.calmer
  marked := h'.marked
  records f hf := h'.records f (h.records f hf)
  waiting := h'.waiting.trans h.waiting

theorem removeRecord_passes (hm : s.CauseMarked) (hlost : cause.lostCode = none) (hwrap : cause ≠ .wrap) (r : Record)
    (unit : Option FaultUnit) : s.Passes (s.removeRecord r cause unit) := by
  have removed := removeRecord_removedAs s r cause unit
  have frame := removed.frame
  have queue : (s.removeRecord r cause unit).queue = s.queue := by rw [removed.queue, hlost]
  have alarm : (s.removeRecord r cause unit).wrapAlarm = s.wrapAlarm := by rw [removed.alarm]; simp [hwrap]
  rw [queue, alarm] at frame
  refine ⟨frame, removed.calmer hm hwrap, removed.marked, removed.records, ?_⟩
  have waiting : (s.removeRecord r cause unit).waiting = s.waiting.filter fun w => w.tag != r.tag := by
    rw [besideRemoval_frame removed.beside]
    rfl
  rw [waiting]
  exact List.filter_sublist

/-- A record leaves at the exit, if it still stands (R77). -/
theorem advanceTrail_exit (hm : s.CauseMarked) (y : Record) : s.Passes (s.advanceTrail y .exit) ∧
    (s.advanceTrail y .exit).train = s.train.filter fun x => x.tag != y.tag := by
  unfold State.advanceTrail
  cases hr : s.findRecord y.tag with
  | none =>
    refine ⟨.refl hm, (List.filter_eq_self.mpr fun x hx => ?_).symm⟩
    simpa using findRecord_none hr x hx
  | some r =>
    obtain ⟨-, htag⟩ := findRecord_some s hr
    refine ⟨removeRecord_passes hm rfl (by decide) r none, ?_⟩
    rw [← htag]
    exact (removeRecord_removedAs s r .departed none).train

/-- The DOUBLE records that leave with it (R80). -/
theorem pairs_exit (pairs : List Record) (hm : s.CauseMarked) :
    s.Passes (pairs.foldl (fun s y => s.advanceTrail y .exit) s) ∧
      (pairs.foldl (fun s y => s.advanceTrail y .exit) s).train =
        s.train.filter fun x => pairs.all fun y => y.tag != x.tag := by
  induction pairs generalizing s with
  | nil => exact ⟨.refl hm, (List.filter_eq_self.mpr fun _ _ => rfl).symm⟩
  | cons y pairs ih =>
    obtain ⟨first, train⟩ := advanceTrail_exit hm y
    obtain ⟨rest, trains⟩ := ih first.marked
    refine ⟨first.trans rest, trains.trans ?_⟩
    rw [train, List.filter_filter]
    refine List.filter_congr fun x _ => ?_
    rw [List.all_cons, Bool.and_comm, bne_comm]

/-- The verdict of a length passes no record and moves none. -/
theorem judgedTrain_passes (hm : s.CauseMarked) (r : Record) (m : Option Nat) (x : Edge) : s.Passes (s.judgedTrain r m x) := by
  have frame := judgedTrain_frame s r m x
  have length : (s.judgedTrain r m x).train.length = s.train.length := by
    rw [frame]
    exact List.length_map _
  refine ⟨?_, ?_, fun h => ?_, fun f hf => ?_, ?_⟩
  · generalize s.judgedTrain r m x = t at *
    rw [frame]
  · refine calmer_of_view ?_ (eyesCalmer_of_eyes ?_) ?_ ?_ (fun h => ?_) ?_
    · rw [frame]
      rfl
    · rw [frame]
    · rw [frame]
      exact id
    · rw [frame]
      exact id
    · unfold State.trainFull at h ⊢
      rwa [length] at h
    · rw [frame]
      exact Nat.le_refl _
  · rw [length] at h
    have : (s.judgedTrain r m x).trainCause = s.trainCause := by rw [frame]
    rw [this]
    exact hm (by rw [frame] at h; exact h)
  · unfold State.judgedTrain
    split
    · exact records_recordFault hf _
    · exact hf
  · rw [frame]

theorem judgedTrain_records {m : Option Nat} (h : s.wrongLength r m = true) (x : Edge) :
    (s.judgedTrain r m x).Records (s.lengthFault r x) := by
  unfold State.judgedTrain
  rw [if_pos h]
  exact recordFault_records s _

end Sys2Proof.Machine
end

section
namespace Sys2Proof.Machine

variable {s t u : State} {e : EyeIx} {c : Candidate} {r : Record} {k : Checkpoint} {x : Edge} {n : Nat}

/-! #### A trailing edge at the exit -/

/-- A trailing edge taken: its record is judged and advances, with the DOUBLE records of the place (R77, R80). -/
theorem trailingEdge_some (h : s.train.find? (s.takesTrail k (s.eye x.eye).set.lane) = some r) : s.trailingEdge k x =
    (s.pairedWith r k (s.eye x.eye).set.lane).foldl (fun s y => s.advanceTrail y k) ((s.measured r k x).advanceTrail r k) := by
  unfold State.trailingEdge
  dsimp only
  rw [h]

theorem trailingEdge_none (h : s.train.find? (s.takesTrail k (s.eye x.eye).set.lane) = none) : s.trailingEdge k x = s := by
  unfold State.trailingEdge
  dsimp only
  rw [h]

/-- The train as a trailing edge at the exit leaves it. -/
theorem trailingEdge_exit (hm : s.CauseMarked) (h : s.train.find? (s.takesTrail .exit (s.eye x.eye).set.lane) = some r) :
    s.Passes (s.trailingEdge .exit x) ∧
      (s.trailingEdge .exit x).train = s.train.filter (fun y => y.tag != r.tag &&
        (s.pairedWith r .exit (s.eye x.eye).set.lane).all fun z => z.tag != y.tag) ∧
      (s.wrongLength r (s.measure r .exit x) = true → (s.trailingEdge .exit x).Records (s.lengthFault r x)) := by
  rw [trailingEdge_some h, measured_exit]
  have judged := judgedTrain_passes hm r (s.measure r .exit x) x
  have fault := fun hwrong => judgedTrain_records (x := x) (show s.wrongLength r (s.measure r .exit x) = true from hwrong)
  have train : (s.judgedTrain r (s.measure r .exit x) x).train.filter (fun y => y.tag != r.tag) =
      s.train.filter fun y => y.tag != r.tag := by
    rw [judgedTrain_frame]
    exact filter_map_tag s.train r.tag _ fun _ => rfl
  generalize s.judgedTrain r (s.measure r .exit x) x = J at *
  obtain ⟨out, outTrain⟩ := advanceTrail_exit judged.marked r
  obtain ⟨pairs, pairsTrain⟩ := pairs_exit (s.pairedWith r .exit (s.eye x.eye).set.lane) out.marked
  refine ⟨judged.trans (out.trans pairs), ?_, fun hwrong => pairs.records _ (out.records _ (fault hwrong))⟩
  rw [pairsTrain, outTrain, train, List.filter_filter]
  exact List.filter_congr fun y _ => Bool.and_comm ..

end Sys2Proof.Machine
end

section
namespace Sys2Proof.Machine

variable {s t u : State} {e : EyeIx} {c : Candidate} {r y : Record} {k : Checkpoint} {x : Edge} {n : Nat} {tag : Tag}

/-! #### A trailing edge at the outlet -/

theorem find_insertRecord_ne {l : List Record} (h : r.tag ≠ tag) :
    (insertRecord r l).find? (fun x => x.tag == tag) = l.find? fun x => x.tag == tag := by
  have hr : (r.tag == tag) = false := by simpa using h
  induction l with
  | nil => simp [insertRecord, hr]
  | cons z l ih =>
    unfold insertRecord
    split
    · rw [List.find?_cons_of_neg (by simp [hr])]
    · simp only [List.find?_cons, ih]

theorem find_filter_ne {l : List Record} (h : y.tag ≠ tag) :
    (l.filter fun x => x.tag != y.tag).find? (fun x => x.tag == tag) = l.find? fun x => x.tag == tag := by
  rw [List.find?_filter]
  refine congrArg (List.find? · l) (funext fun x => ?_)
  by_cases hx : x.tag = tag
  · simp [hx, h.symm]
  · simp [hx]

theorem replaceRecord_findRecord_ne (s : State) (h : r.tag ≠ tag) : (s.replaceRecord r).findRecord tag = s.findRecord tag :=
  (find_insertRecord_ne h).trans (find_filter_ne h)

/-- A record that moves to LEAVING at the outlet with its length unchanged stays (R77). -/
theorem advanceTrail_outlet_found (h : s.findRecord y.tag = some y) :
    s.advanceTrail y .outlet = s.replaceRecord { y with stage := .leaving } := by
  have found : (s.replaceRecord { y with stage := .leaving }).findRecord y.tag = some { y with stage := .leaving } :=
    replaceRecord_findRecord s { y with stage := .leaving }
  unfold State.advanceTrail
  rw [h]
  dsimp only
  unfold State.departIfMoved
  rw [found]
  exact if_pos rfl

/-- The train with the other DOUBLE records moved to LEAVING (R80). -/
def pairsMoved (pairs : List Record) (l : List Record) : List Record :=
  pairs.foldl (fun l y => insertRecord { y with stage := .leaving } (l.filter fun x => x.tag != y.tag)) l

theorem pairs_outlet {pairs : List Record} (htags : (pairs.map (·.tag)).Nodup)
    (h : ∀ y ∈ pairs, s.findRecord y.tag = some y) :
    pairs.foldl (fun s y => s.advanceTrail y .outlet) s = { s with train := pairsMoved pairs s.train } := by
  induction pairs generalizing s with
  | nil => rfl
  | cons y pairs ih =>
    obtain ⟨hy, htags⟩ := List.nodup_cons.mp htags
    rw [List.foldl_cons, advanceTrail_outlet_found (h y List.mem_cons_self), ih htags fun z hz => ?_]
    · rfl
    · have other : y.tag ≠ z.tag := fun he => hy (List.mem_map.mpr ⟨z, hz, he.symm⟩)
      have kept := replaceRecord_findRecord_ne s (r := { y with stage := .leaving }) other
      exact kept.trans (h z (List.mem_cons_of_mem _ hz))

theorem filter_length_lt {l : List Record} (h : ∃ x ∈ l, x.tag = tag) : (l.filter fun x => x.tag != tag).length < l.length := by
  obtain ⟨x, hx, htag⟩ := h
  exact List.length_filter_lt_length_iff_exists.mpr ⟨x, hx, by simp [htag]⟩

/-- Moving records leaves their number. -/
theorem pairsMoved_length {pairs l : List Record} (h : ∀ y ∈ pairs, ∃ x ∈ l, x.tag = y.tag) :
    (pairsMoved pairs l).length ≤ l.length := by
  induction pairs generalizing l with
  | nil => exact Nat.le_refl _
  | cons y pairs ih =>
    have first := filter_length_lt (h y List.mem_cons_self)
    have inserted := length_insertRecord { y with stage := .leaving } (l.filter fun x => x.tag != y.tag)
    refine (ih (l := insertRecord { y with stage := .leaving } (l.filter fun x => x.tag != y.tag)) fun z hz => ?_).trans (by omega)
    obtain ⟨x, hx, htag⟩ := h z (List.mem_cons_of_mem _ hz)
    by_cases hxy : x.tag = y.tag
    · exact ⟨_, mem_insertRecord.mpr (.inl rfl), hxy.symm.trans htag⟩
    · exact ⟨x, mem_insertRecord.mpr (.inr (List.mem_filter.mpr ⟨hx, by simpa using hxy⟩)), htag⟩

theorem withExtension_frame (s : State) (r : Record) (ans : Option (DestIx × ChannelIx × Channel × Answer)) :
    s.withExtension r ans = { s with
      channels := (s.withExtension r ans).channels, faults := (s.withExtension r ans).faults
      overflow := (s.withExtension r ans).overflow } := by
  unfold State.withExtension
  split
  · unfold State.divertFault
    rw [recordFault_eq]
    rfl
  · rfl
  · rfl

theorem depart_waiting (s : State) (r : Record) : (s.depart r).waiting.Sublist s.waiting := by
  unfold State.depart
  split
  · rename_i d hd
    have counted := (besideLots_kept _).countIntoStack (s := s) rfl d r.lot
    have removed := removeRecord_removedAs (s.countIntoStack d r.lot) r .departed none
    have waiting : ((s.countIntoStack d r.lot).removeRecord r .departed none).waiting =
        s.waiting.filter fun w => w.tag != r.tag := by
      rw [besideRemoval_frame removed.beside, ← (train_of_besideLots counted).2.1]
      rfl
    rw [waiting]
    exact List.filter_sublist
  · exact List.Sublist.refl _

/-- The record of a trailing edge at the outlet: LEAVING, or gone where its measured length moves its departure behind
(R77, R155). -/
theorem advanceTrail_outlet (hrole : s.role = some .outlet) (h : s.findRecord r.tag = some y) :
    (s.departureAt { y with stage := .leaving } ≠ s.departureAt r ∧
        ((s.departureAt { y with stage := .leaving }).any fun p => atOrPast (s.pos .a) p) = true →
      (s.advanceTrail r .outlet).train = (s.train.filter fun x => x.tag != r.tag) ∧
        (s.advanceTrail r .outlet).waiting.Sublist s.waiting) ∧
    (¬ (s.departureAt { y with stage := .leaving } ≠ s.departureAt r ∧
        ((s.departureAt { y with stage := .leaving }).any fun p => atOrPast (s.pos .a) p) = true) →
      s.advanceTrail r .outlet = s.replaceRecord { y with stage := .leaving }) := by
  obtain ⟨-, htag⟩ := findRecord_some s h
  let moved : Record := { y with stage := .leaving }
  have found : (s.replaceRecord moved).findRecord r.tag = some moved := by
    rw [← htag]
    exact replaceRecord_findRecord s moved
  have advanced : s.advanceTrail r .outlet = if s.departureAt moved = s.departureAt r then s.replaceRecord moved
      else (s.replaceRecord moved).departIfPassed r.tag := by
    unfold State.advanceTrail
    rw [h]
    dsimp only
    unfold State.departIfMoved
    rw [found]
    rfl
  rw [advanced]
  refine ⟨fun ⟨hne, hpast⟩ => ?_, fun hstays => ?_⟩
  · have gone := departIfPassed_behind (s := s.replaceRecord moved) hrole found hpast
    have dest : moved.dest.isSome = true := departureAt_dest (s := s) (by
      cases hd : s.departureAt moved with
      | none => simp [moved, hd] at hpast
      | some p => rfl)
    rw [if_neg hne, gone, depart_train _ dest]
    refine ⟨?_, depart_waiting (s.replaceRecord moved) moved⟩
    have others := filter_insertRecord (y := moved) (filter_tag_ne s.train moved.tag)
    exact others.trans (congrArg (fun a => s.train.filter fun x => x.tag != a) htag)
  · by_cases hsame : s.departureAt moved = s.departureAt r
    · rw [if_pos hsame]
    · rw [if_neg hsame]
      refine departIfPassed_ahead found ?_
      have ahead : ¬ ((s.departureAt moved).any fun p => atOrPast (s.pos .a) p) = true := fun hp => hstays ⟨hsame, hp⟩
      have same : (s.replaceRecord moved).departureAt moved = s.departureAt moved := rfl
      rw [same]
      cases hd : s.departureAt moved with
      | none => rfl
      | some p =>
        rw [hd] at ahead
        have behind : atOrPast (s.pos .a) p = false := by simpa using ahead
        have here : (s.replaceRecord moved).pos .a = s.pos .a := rfl
        simp [here, behind]

end Sys2Proof.Machine
end

section
namespace Sys2Proof.Machine

variable {s t u : State} {e : EyeIx} {c : Candidate} {r y : Record} {k : Checkpoint} {x : Edge} {n : Nat} {tag : Tag}

/-- What the extension of a divert notes, beside eyes, train and channels (R154). -/
theorem withExtension_beside {j : State} {E : Vector Eye 8} {l : List Record} {p : Pos} (hpos : j.pos .a = p) (r : Record)
    (ans : Option (DestIx × ChannelIx × Channel × Answer)) :
    State.withExtension { j with eyes := E, train := l } r ans =
      { (match ans with
          | some (d, _, _, .gone) => j.recordFault
            { kind := .lateDivert, position := p, input := .a, tag := some r.tag, lot := some r.lot
              unit := some (.destination d) }
          | _ => j) with
        eyes := E, train := l, channels := (State.withExtension { j with eyes := E, train := l } r ans).channels } := by
  subst hpos
  rcases ans with _ | ⟨d, ch, y, a⟩
  · rfl
  · cases a with
    | gone =>
      dsimp only [State.withExtension, State.divertFault]
      rw [recordFault_eq, recordFault_eq]
      rfl
    | _ => rfl

theorem withExtension_channel (s : State) (r : Record) (ans : Option (DestIx × ChannelIx × Channel × Answer)) (j : ChannelIx) :
    (s.withExtension r ans).channel j = match ans with
      | some (_, ch, x, _) => if j = ch then x else s.channel j
      | none => s.channel j := by
  rcases ans with _ | ⟨d, ch, y, a⟩
  · rfl
  · have set : (s.withExtension r (some (d, ch, y, a))).channels = (s.setChannel ch y).channels := by
      cases a with
      | gone =>
        dsimp only [State.withExtension, State.divertFault]
        rw [recordFault_eq]
      | _ => rfl
    have same : (s.withExtension r (some (d, ch, y, a))).channel j = (s.setChannel ch y).channel j := by
      unfold State.channel
      rw [set]
    rw [same]
    dsimp only
    split
    · rename_i h
      rw [h, setChannel_channel]
    · rename_i h
      exact setChannel_channel_ne _ _ h

theorem shown_extended (h : ∀ c, s.channel c = s.shown (s.channel c))
    (ans : Option (DestIx × ChannelIx × Channel × Answer)) (j : ChannelIx) :
    s.shown (match ans with
      | some (_, ch, x, _) => if j = ch then x else s.channel j
      | none => s.channel j) = match ans with
      | some (_, ch, x, _) => if j = ch then s.shown x else s.channel j
      | none => s.channel j := by
  rcases ans with _ | ⟨d, ch, y, a⟩
  · exact (h j).symm
  · dsimp only
    split
    · rfl
    · exact (h j).symm

theorem measured_outlet_frame (s : State) (r : Record) (x : Edge) : s.measured r .outlet x = { s with
    train := (s.updateRecord r.tag (Record.judgedAs (s.measure r .outlet x) (s.wrongLength r (s.measure r .outlet x)))).train
    channels := (s.measured r .outlet x).channels, faults := (s.measured r .outlet x).faults
    overflow := (s.measured r .outlet x).overflow } := by
  rw [measured_outlet, withExtension_frame, judgedTrain_frame]
  rfl

theorem findRecord_mem (h : (s.train.map (·.tag)).Nodup) (hy : y ∈ s.train) : s.findRecord y.tag = some y := by
  obtain ⟨z, hz⟩ := Option.isSome_iff_exists.mp
    (List.find?_isSome.mpr ⟨y, hy, by simp⟩ : (s.train.find? fun x => x.tag == y.tag).isSome = true)
  obtain ⟨hmem, htag⟩ := findRecord_some s hz
  exact hz.trans (congrArg some (List.inj_on_of_nodup_map h hmem hy htag))

theorem pairedWith_mem {lane : Lane} (h : y ∈ s.pairedWith r k lane) : y ∈ s.train ∧ r.tag ≠ y.tag := by
  unfold State.pairedWith at h
  split at h
  · obtain ⟨hmem, h⟩ := List.mem_filter.mp h
    simp only [Bool.and_eq_true, bne_iff_ne] at h
    exact ⟨hmem, h.1.1.symm⟩
  · cases h

/-- A trailing edge at the outlet: what becomes of its record, and of the DOUBLE records of the place (R77, R80, R155). -/
theorem trailingEdge_outlet {V : State} {moved : Record} {pairs others : List Record} (hrole : s.role = some .outlet)
    (htags : (s.train.map (·.tag)).Nodup) (h : s.train.find? (s.takesTrail .outlet (s.eye x.eye).set.lane) = some r)
    (hV : V = s.measured r .outlet x)
    (hmoved : moved = { r.judgedAs (s.measure r .outlet x) (s.wrongLength r (s.measure r .outlet x)) with stage := .leaving })
    (hpairs : pairs = s.pairedWith r .outlet (s.eye x.eye).set.lane)
    (hothers : others = s.train.filter fun y => y.tag != r.tag) :
    (s.departureAt moved ≠ s.departureAt r ∧ ((s.departureAt moved).any fun p => atOrPast (s.pos .a) p) = true →
      (s.trailingEdge .outlet x).train = pairsMoved pairs others ∧
        (s.trailingEdge .outlet x).waiting.Sublist s.waiting) ∧
    (¬ (s.departureAt moved ≠ s.departureAt r ∧ ((s.departureAt moved).any fun p => atOrPast (s.pos .a) p) = true) →
      s.trailingEdge .outlet x = { V with train := pairsMoved pairs (insertRecord moved others) }) := by
  let f := Record.judgedAs (s.measure r .outlet x) (s.wrongLength r (s.measure r .outlet x))
  have frame := measured_outlet_frame s r x
  rw [← hV] at frame
  have member : r ∈ s.train := List.mem_of_find?_eq_some h
  have find : ∀ y ∈ s.train, s.findRecord y.tag = some y := fun y hy => findRecord_mem htags hy
  have found : V.findRecord r.tag = some (f r) := by
    have := findRecord_updateRecord s r.tag r.tag f fun _ => rfl
    rw [find r member] at this
    rw [frame]
    exact this.trans (by simp)
  have left : V.train.filter (fun y => y.tag != r.tag) = others := by
    rw [frame, hothers]
    exact filter_map_tag s.train r.tag f fun _ => rfl
  have departs : V.departureAt = s.departureAt := by
    rw [frame]
    rfl
  have here : V.pos .a = s.pos .a := by
    rw [frame]
    rfl
  have paired : ∀ y ∈ pairs, y ∈ s.train ∧ r.tag ≠ y.tag := fun y hy => pairedWith_mem (hpairs ▸ hy)
  have tags : (pairs.map (·.tag)).Nodup := by
    refine List.Nodup.sublist (List.Sublist.map _ ?_) htags
    rw [hpairs]
    unfold State.pairedWith
    split
    · exact List.filter_sublist
    · exact List.nil_sublist _
  have kept : ∀ y ∈ pairs, V.findRecord y.tag = some y := fun y hy => by
    obtain ⟨hmem, hne⟩ := paired y hy
    have := findRecord_updateRecord s r.tag y.tag f fun _ => rfl
    rw [find y hmem] at this
    rw [frame]
    exact this.trans (by simp [hne.symm])
  have taken : s.trailingEdge .outlet x = pairs.foldl (fun s y => s.advanceTrail y .outlet) (V.advanceTrail r .outlet) := by
    rw [trailingEdge_some h, hV, hpairs]
  obtain ⟨gone, stays⟩ := advanceTrail_outlet (s := V) (by rw [frame]; exact hrole) found
  rw [departs, here, ← hmoved] at gone stays
  refine ⟨fun hc => ?_, fun hc => ?_⟩
  · obtain ⟨out, waiting⟩ := gone hc
    have train := out.trans left
    have same : V.waiting = s.waiting := by rw [frame]
    rw [same] at waiting
    rw [taken, pairs_outlet tags fun y hy => ?_, train]
    · exact ⟨rfl, waiting⟩
    obtain ⟨-, hne⟩ := paired y hy
    have := find_filter_ne (l := V.train) hne
    rw [left] at this
    unfold State.findRecord
    rw [train, this]
    exact kept y hy
  · have moves := stays hc
    have tag : moved.tag = r.tag := by rw [hmoved]; rfl
    rw [taken, pairs_outlet tags fun y hy => ?_, moves]
    · have train : (V.replaceRecord moved).train = insertRecord moved others := by
        unfold State.replaceRecord
        rw [tag, left]
      rw [train]
      rfl
    · rw [moves, replaceRecord_findRecord_ne V (tag.trans_ne (paired y hy).2)]
      exact kept y hy

/-- Settles O21: the edge passes, or its record and the DOUBLE records of the place leave or advance. -/
theorem trailingEdgePassesExitAndOutlet : Obligations.TrailingEdgePassesExitAndOutlet := by
  unfold Obligations.TrailingEdgePassesExitAndOutlet
  intro s e c r k hp ht hdue hlevel hw
  dsimp only
  obtain ⟨-, -, hf, -, -⟩ := id hdue
  have checkpoint : (s.eye e).set.function ≠ .levelHold := by
    rw [hf]
    exact function_ne_levelHold k
  let s0 := s.setEye e ((s.eye e).become .clear)
  have hsets := setEye_become_set s e .clear
  have hset := hsets e
  have at_ : (c.edge e).eye = e := rfl
  have lane : (s0.eye (c.edge e).eye).set.lane = (s.eye e).set.lane := by rw [at_, hset]
  have edge : (s.setEye e ((s.eye e).become c.level)).edge (c.edge e) = s0.trailingEdge k (c.edge e) := by
    rw [edge_at hdue, if_neg (by simp [hlevel]), hlevel]
  have takes : s0.takesTrail k (s0.eye (c.edge e).eye).set.lane = s.takesTrail k (s.eye e).set.lane := by
    rw [lane]
    rfl
  have calm : s.Calmer s0 :=
    calmer_of_view rfl (become_eyesCalmer checkpoint .clear) id id id (Nat.le_refl _)
  have marked : s0.CauseMarked := ht.2.2.2.2.2.1
  have capture : s0.capture (c.edge e) = c.snap (s.eye e).set.input := candidate_capture hset c
  have fault : s0.lengthFault r (c.edge e) =
      { kind := .length, position := c.snap (s.eye e).set.input, input := (s.eye e).set.input, tag := some r.tag
        lot := some r.lot, unit := some (.eye e) } := by
    unfold State.lengthFault
    rw [capture, at_, hset]
  refine ⟨fun hnone => ?_, fun hsome => ⟨fun hk hrole => ?_, fun hk hrole hinput => ?_⟩⟩
  · have still : s0.trailingEdge k (c.edge e) = s0 := trailingEdge_none (by rw [takes]; exact hnone)
    refine (exec_edgeAccepted hdue (edge.trans still) hw).trans ?_
    exact congrArg Host.Outcome.next (calm.refresh hp rfl)
  · subst hk
    have measured : s0.measure r .exit (c.edge e) = _ := measure_eq (by decide) s0 r (c.edge e)
    obtain ⟨passes, train, records⟩ := trailingEdge_exit marked (x := c.edge e) (by rw [takes]; exact hsome)
    rw [measured, capture] at records
    have outputs := (calm.trans passes.calmer).refresh_outputs hp
    refine ⟨_, exec_edgeAccepted hdue edge fun w hmem => hw w (passes.waiting.subset hmem), ?_, fun hwrong => ?_, ?_⟩
    · rw [refresh_train, train, lane]
      rfl
    · rw [refresh_faults, ← fault]
      exact records hwrong
    · have frame := passes.frame
      generalize (Vector.ofFn fun j => s.shown ((s0.trailingEdge .exit (c.edge e)).channel j)) = channels at *
      generalize (s0.trailingEdge .exit (c.edge e)).refresh = t at *
      rw [outputs, frame]
      rfl
  · subst hk
    have measured : s0.measure r .outlet (c.edge e) = _ := measure_eq (by decide) s0 r (c.edge e)
    rw [capture] at measured
    let m : Option Nat := ((r.lead.map fun a => diff (c.snap (s.eye e).set.input) a).filter fun n => decide (0 < n)).map
      Int.toNat
    let wrong := s.wrongLength r m
    let moved : Record := { r.judgedAs m wrong with stage := .leaving }
    let pairs := s.pairedWith r .outlet (s.eye e).set.lane
    let ans := s.extendAnswer r m
    obtain ⟨-, htags, -⟩ := id ht
    let others := s.train.filter fun y => y.tag != r.tag
    obtain ⟨departs, stays⟩ := trailingEdge_outlet (s := s0) (x := c.edge e) (V := s0.measured r .outlet (c.edge e))
      (moved := moved) (pairs := pairs) (others := others) hrole htags (by rw [takes]; exact hsome) rfl
      (by rw [measured]; rfl) (by rw [lane]; rfl) rfl
    refine iteInduction (motive := id) (fun hc => ?_) fun hc => ?_
    · obtain ⟨train, waiting⟩ := departs hc
      exact ⟨_, exec_edgeAccepted hdue edge fun w hmem => hw w (waiting.subset hmem), (refresh_train _).trans train⟩
    · have taken := stays hc
      have vframe := measured_outlet_frame s0 r (c.edge e)
      let f : FaultRecord := { kind := .length, position := c.snap (s.eye e).set.input, input := (s.eye e).set.input, tag := some r.tag, lot := some r.lot, unit := some (.eye e) }
      have verdict : (s0.judgedTrain r m (c.edge e)) =
          { (if wrong then s.recordFault f else s) with eyes := s0.eyes, train := (s0.judgedTrain r m (c.edge e)).train } := by
        have here : s0.wrongLength r m = wrong := rfl
        unfold State.judgedTrain
        rw [here, fault]
        split
        · rw [recordFault_eq, recordFault_eq]
          rfl
        · rfl
      have position : (if wrong then s.recordFault f else s).pos .a = s.pos .a := by
        split
        · rw [recordFault_eq]
          rfl
        · rfl
      have asked : s0.measured r .outlet (c.edge e) = (s0.judgedTrain r m (c.edge e)).withExtension r ans := by
        rw [measured_outlet, measured]
        rfl
      have noted := withExtension_beside (E := s0.eyes) (l := (s0.judgedTrain r m (c.edge e)).train) position r ans
      rw [← verdict, ← asked] at noted
      have before : ∀ j, (s0.judgedTrain r m (c.edge e)).channel j = s.channel j := fun j => by
        rw [judgedTrain_frame]
        rfl
      have extended := withExtension_channel (s0.judgedTrain r m (c.edge e)) r ans
      simp only [before] at extended
      rw [← asked] at extended
      clear asked
      generalize s0.measured r .outlet (c.edge e) = V at *
      let L := pairsMoved pairs (insertRecord moved others)
      have short : L.length ≤ s.train.length := by
        have first : others.length < s.train.length := filter_length_lt ⟨r, List.mem_of_find?_eq_some hsome, rfl⟩
        have inserted := length_insertRecord moved others
        refine (pairsMoved_length fun y hy => ⟨y, ?_, rfl⟩).trans (by omega)
        obtain ⟨hmem, hne⟩ := pairedWith_mem hy
        exact mem_insertRecord.mpr (.inr (List.mem_filter.mpr ⟨hmem, by simpa using hne.symm⟩))
      have calmer : s.Calmer { V with train := L } := by
        rw [vframe]
        refine calmer_of_view rfl (become_eyesCalmer checkpoint .clear) id id (fun h => ?_) (Nat.le_refl _)
        exact decide_eq_true (le_trans (of_decide_eq_true h) short)
      have outputs := calmer.refresh_outputs hp
      obtain ⟨hshown, -, -⟩ := hp
      refine ⟨_, exec_edgeAccepted hdue (edge.trans taken) (by rw [vframe]; exact hw), fun j => ?_, ?_⟩
      · have out : State.channel (State.refresh { V with train := L }) j = s.shown (V.channel j) := by
          rw [outputs]
          simp [State.alertAfresh, State.channel]
        rw [out, extended]
        exact shown_extended hshown ans j
      · generalize State.refresh { V with train := L } = t at *
        rw [outputs, noted]
        rfl

end Sys2Proof.Machine
end

section
namespace Sys2Proof.Machine

variable {s t : State} {k : Fin 16} {d : DestIx} {lot : Lot}

/-! ### The judgement of the lots (R158, R169, R170) -/

/-- The state with the train and the lots of v: what the stacks do looks at neither. -/
def State.withTrack (s v : State) : State :=
  { s with
    train := v.train, trainCause := v.trainCause, waiting := v.waiting, freshWindows := v.freshWindows, lots := v.lots
    closureList := v.closureList }

theorem trigger_withTrack (s v : State) (d : DestIx) (lot : Lot)
    (count : Nat) : (s.withTrack v).trigger d lot count = (s.trigger d lot count).withTrack v := by
  have asked : (s.withTrack v).requestTrigger d =
      ((s.requestTrigger d).1.withTrack v, (s.requestTrigger d).2) := by
    unfold State.requestTrigger
    dsimp only [State.withTrack, State.dest]
    split <;> rfl
  unfold State.trigger
  rw [asked]
  dsimp only
  split
  · unfold State.stackBusy
    rw [recordFault_eq, recordFault_eq]
    rfl
  · rfl

theorem closeStack_withTrack (s v : State) (d : DestIx)
    (reason : ClosureReason) : (s.withTrack v).closeStack d reason = (s.closeStack d reason).withTrack v := by
  unfold State.closeStack
  dsimp only
  rw [show (s.withTrack v).outletWaits = s.outletWaits from rfl]
  split
  · rfl
  · exact trigger_withTrack (s.setDest d _) v d _ _

theorem lotEnd_withTrack (s v : State) (lot : Lot) :
    (s.withTrack v).lotEnd lot = (s.lotEnd lot).withTrack v := by
  unfold State.lotEnd
  generalize destIxs = l
  induction l generalizing s with
  | nil => rfl
  | cons d l ih =>
    have same : (s.withTrack v).dest d = s.dest d := rfl
    rw [List.foldl_cons, List.foldl_cons, ← ih]
    dsimp only
    rw [same, closeStack_withTrack]
    congr 1
    split <;> rfl

/-- The entry taken afresh, with its notice where it becomes CLOSED (R169, R170). -/
def LotEntry.judgedAfresh (e : LotEntry) : LotEntry :=
  { e with state := e.judged, noticeUnread := e.noticeUnread || (e.judged == .closed && e.state != .closed) }

/-- The slot's entry becomes CLOSED when it is judged. -/
def State.closing (s : State) (k : Fin 16) : Bool := (s.lotSlot k).any fun e => e.judged == .closed && e.state != .closed

/-- The stacks of a slot's lot closed (R158). -/
def State.lotEndOf (s : State) (k : Fin 16) (u : State) : State :=
  match s.lotSlot k with
  | some e => u.lotEnd e.lot
  | none => u

theorem lotEndOf_withTrack (s u v : State) (k : Fin 16) :
    s.lotEndOf k (u.withTrack v) = (s.lotEndOf k u).withTrack v := by
  unfold State.lotEndOf
  split
  · exact lotEnd_withTrack u v _
  · rfl

theorem lotEndsOf_withTrack (s u v : State) (ks : List (Fin 16)) :
    ks.foldl (fun u k => s.lotEndOf k u) (u.withTrack v) =
      (ks.foldl (fun u k => s.lotEndOf k u) u).withTrack v :=
  List.foldl_hom (fun u => State.withTrack u v) (g₁ := fun u k => s.lotEndOf k u) (g₂ := fun u k => s.lotEndOf k u)
    fun u k => lotEndOf_withTrack s u v k

theorem judgedAfresh_of_not (e : LotEntry) (h : ¬ (e.judged = .closed ∧ e.state ≠ .closed)) :
    e.judgedAfresh = { e with state := e.judged } := by
  have closes : (e.judged == .closed && e.state != .closed) = false := by simpa using h
  rw [LotEntry.judgedAfresh, closes, Bool.or_false]

theorem closing_of {e : LotEntry} (h : s.lotSlot k = some e) : s.closing k = (e.judged == .closed && e.state != .closed) := by
  rw [State.closing, h]
  rfl

/-- One slot judged: its entry, the closure list, and the stacks of a lot that closes. -/
structure Judged (s : State) (ks : List (Fin 16)) (t : State) : Prop where
  slots : ∀ k, t.lotSlot k = if k ∈ ks then (s.lotSlot k).map LotEntry.judgedAfresh else s.lotSlot k
  list : t.closureList = s.closureList ++ ks.filter s.closing
  beside : t = ((ks.filter s.closing).foldl (fun u k => s.lotEndOf k u) s).withTrack t

theorem judgeLot_judged (s : State) (k : Fin 16) : Judged s [k] (s.judgeLot k) := by
  unfold State.judgeLot
  split
  · rename_i h
    have none_ : s.closing k = false := by
      rw [State.closing, h]
      rfl
    refine ⟨fun j => ?_, ?_, ?_⟩
    · split
      · rename_i hj
        obtain rfl := List.mem_singleton.mp hj
        rw [h]
        rfl
      · rfl
    · simp [none_]
    · rw [List.filter_singleton, none_]
      rfl
  · rename_i e h
    have slot : ∀ (x : LotEntry), x = e.judgedAfresh → ∀ j, (s.setLotSlot k (some x)).lotSlot j =
        if j ∈ [k] then (s.lotSlot j).map LotEntry.judgedAfresh else s.lotSlot j := fun x hx j => by
      split
      · rename_i hj
        rw [List.mem_singleton.mp hj, setLotSlot_lotSlot, h, hx]
        rfl
      · rename_i hj
        exact setLotSlot_lotSlot_ne _ _ fun h => hj (List.mem_singleton.mpr h)
    split
    · rename_i hc
      have closes : s.closing k = true := by
        rw [closing_of h]
        simpa using hc
      have fresh : ({ e with state := .closed, noticeUnread := true } : LotEntry) = e.judgedAfresh := by
        have closes : (e.judged == .closed && e.state != .closed) = true := by simpa using hc
        rw [LotEntry.judgedAfresh, closes, hc.1, Bool.or_true]
      dsimp only
      generalize ({ e with state := .closed, noticeUnread := true } : LotEntry) = x at *
      have ended := lotEnd_withTrack s { s.setLotSlot k (some x) with closureList := s.closureList ++ [k] } e.lot
      have same : s.withTrack { s.setLotSlot k (some x) with closureList := s.closureList ++ [k] } =
        { s.setLotSlot k (some x) with closureList := s.closureList ++ [k] } := rfl
      rw [same] at ended
      have fold : [k].foldl (fun u k => s.lotEndOf k u) s = s.lotEnd e.lot := by
        rw [List.foldl_cons, List.foldl_nil, State.lotEndOf, h]
      have filtered : [k].filter s.closing = [k] := by
        rw [List.filter_singleton, closes]
        rfl
      rw [setLotSlot_closureList, ended]
      rw [← filtered] at fold
      generalize s.lotEnd e.lot = u at *
      exact ⟨slot x fresh, by rw [filtered]; rfl, by rw [fold]; rfl⟩
    · rename_i hc
      have stays : s.closing k = false := by
        rw [closing_of h]
        simpa using hc
      refine ⟨slot _ (judgedAfresh_of_not e hc).symm, ?_, ?_⟩
      · rw [List.filter_singleton, stays]
        exact (List.append_nil _).symm
      · rw [List.filter_singleton, stays]
        rfl

/-- The slots judged one after the other (R170). -/
theorem foldl_judgeLot_judged {ks : List (Fin 16)} (h : ks.Nodup) : Judged s ks (ks.foldl State.judgeLot s) := by
  induction ks generalizing s with
  | nil => exact ⟨fun _ => rfl, (List.append_nil _).symm, rfl⟩
  | cons k ks ih =>
    obtain ⟨fresh, h⟩ := List.nodup_cons.mp h
    obtain ⟨slots, list, beside⟩ := judgeLot_judged s k
    rw [List.foldl_cons]
    generalize s.judgeLot k = s1 at *
    have others : ∀ j ∈ ks, s1.lotSlot j = s.lotSlot j := fun j hj => by
      rw [slots, if_neg]
      rintro hk
      exact fresh (List.mem_singleton.mp hk ▸ hj)
    have closes : ks.filter s1.closing = ks.filter s.closing := List.filter_congr fun j hj => by
      rw [State.closing, others j hj]
      rfl
    obtain ⟨slots', list', beside'⟩ := ih (s := s1) h
    generalize ks.foldl State.judgeLot s1 = t at *
    refine ⟨fun j => ?_, ?_, ?_⟩
    · rw [slots', slots]
      by_cases hj : j = k
      · subst hj
        simp [fresh]
      · simp [hj]
    · rw [list', list, closes, List.append_assoc, ← List.filter_append]
      rfl
    · have same : ∀ u, (ks.filter s.closing).foldl (fun u k => s1.lotEndOf k u) u =
          (ks.filter s.closing).foldl (fun u k => s.lotEndOf k u) u := fun u => by
        refine List.foldl_ext _ _ _ fun v j hj => ?_
        rw [State.lotEndOf, others j (List.mem_of_mem_filter hj)]
        rfl
      have both : (k :: ks).filter s.closing = [k].filter s.closing ++ ks.filter s.closing := List.filter_append [k] ks
      rw [both, List.foldl_append]
      generalize ([k].filter s.closing).foldl (fun u k => s.lotEndOf k u) s = v at *
      rw [beside', closes, same, beside, lotEndsOf_withTrack]
      rfl

theorem judgeLots_judged (s : State) : Judged s (List.finRange 16) s.judgeLots :=
  foldl_judgeLot_judged (List.nodup_finRange 16)

end Sys2Proof.Machine
end

section
namespace Sys2Proof.Machine

variable {s t : State} {q : TxFrame} {rest : List TxFrame} {g : GateIx}

/-! ### The completed frame (R184, R187) -/

/-- The attempt over and its frame out of the queue (R184). -/
def State.sent (s : State) (rest : List TxFrame) : State := { s with queue := rest, busIdle := false }

theorem sent_calmer (hq : s.queue = q :: rest) : s.Calmer (s.sent rest) := by
  refine calmer_of_view rfl (eyesCalmer_of_eyes rfl) id id id ?_
  have fewer : rest.countP (fun x => feedClass x.frame) ≤ (q :: rest).countP fun x => feedClass x.frame :=
    List.Sublist.countP_le (List.sublist_cons_self q rest)
  rw [← hq] at fewer
  exact fewer

theorem sent_pinsFollow (hp : s.PinsFollow) (hq : s.queue = q :: rest) : (s.sent rest).PinsFollow := by
  have calm := sent_calmer hq
  obtain ⟨hshown, halert, hres⟩ := hp
  exact ⟨fun c => (hshown c).trans (congrFun calm.shown.symm _), halert, fun g hg => hres g (calm.suspended g hg)⟩

theorem onTxComplete_dropped (hq : s.queue = q :: rest) (hu : q.underWay = true)
    (h : q.orphan = true ∨ s.mode = .config) : s.onTxComplete = (s.sent rest).refresh := by
  unfold State.onTxComplete
  rw [hq]
  dsimp only
  rw [if_neg (by simp [hu]), if_pos (by simpa using h)]
  rfl

theorem onTxComplete_heard (hq : s.queue = q :: rest) (hu : q.underWay = true) (ho : q.orphan = false)
    (hm : s.mode ≠ .config) : s.onTxComplete = ((s.sent rest).ownHeard q.frame).refresh := by
  unfold State.onTxComplete
  rw [hq]
  dsimp only
  rw [if_neg (by simp [hu]), if_neg (by simp [ho, hm])]
  rfl

/-! ### The own JOIN (R193) -/

theorem ownJoinHeard_frame (s : State) :
    s.ownJoinHeard = { s with mode := s.ownJoinHeard.mode, settling := s.ownJoinHeard.settling } := by
  unfold State.ownJoinHeard State.endJoining
  split
  · split <;> rfl
  · rfl

theorem ownJoinHeard_mode (h : s.mode ≠ .joining) : s.ownJoinHeard.mode = s.mode := by
  unfold State.ownJoinHeard State.endJoining
  split
  · rename_i hm _
    exact absurd hm h
  · rfl

theorem ownJoinHeard_joining (h : s.mode = .joining) (hs : s.settling.isSome = true) : s.ownJoinHeard.mode =
    if (s.settling.any fun y => y.expired) = false then .joining else if s.stopPin then .stopped else .running := by
  obtain ⟨y, hy⟩ := Option.isSome_iff_exists.mp hs
  unfold State.ownJoinHeard State.endJoining
  rw [hy]
  dsimp only
  rw [h]
  cases hx : y.expired <;> simp [hx]

/-- The own JOIN received back, and what follows it: outside RUNNING no own reservation stands. -/
theorem ownJoinHeard_refresh (hp : s.PinsFollow) : s.ownJoinHeard.refresh = { s with
    mode := s.ownJoinHeard.mode, settling := s.ownJoinHeard.settling
    channels := s.ownJoinHeard.refresh.channels, alertPin := s.ownJoinHeard.refresh.alertPin } := by
  have frame := ownJoinHeard_frame s
  have outputs : s.ownJoinHeard.refresh =
      State.alertAfresh { s.ownJoinHeard with
        channels := Vector.ofFn fun c => s.ownJoinHeard.shown (s.ownJoinHeard.channel c) } := by
    by_cases hm : s.mode = .joining
    · refine refresh_unreserved _ fun g => ?_
      rw [frame]
      exact ownReservation_stopped hp (by simp [hm]) g
    · have mode := ownJoinHeard_mode hm
      rw [refresh_unwithdrawn, outputsAfresh_eq]
      obtain ⟨-, -, hres⟩ := hp
      rw [frame, mode]
      exact hres
  generalize s.ownJoinHeard.shown = pulse at *
  generalize s.ownJoinHeard.refresh = t at *
  generalize s.ownJoinHeard = u at *
  rw [outputs, frame]
  rfl

end Sys2Proof.Machine
end

section
namespace Sys2Proof.Machine

variable {s t : State} {m f : LotMarkFrame} {a : Addr} {g : GateIx} {j k : Fin 16} {e : LotEntry}

/-! ### The own LOTMARK (R107, R167) -/

theorem besideLots_frame (h : t.besideLots = s.besideLots) : t = { s with
    channels := t.channels, dests := t.dests, lots := t.lots, closureList := t.closureList, faults := t.faults
    overflow := t.overflow } :=
  congrArg (fun u : State => { u with
    channels := t.channels, dests := t.dests, lots := t.lots, closureList := t.closureList, faults := t.faults
    overflow := t.overflow }) h

theorem lotMarked_frame (s : State) (a : Addr) (m : LotMarkFrame) : s.lotMarked a m = { s with
    channels := (s.lotMarked a m).channels, dests := (s.lotMarked a m).dests, lots := (s.lotMarked a m).lots
    closureList := (s.lotMarked a m).closureList, faults := (s.lotMarked a m).faults
    overflow := (s.lotMarked a m).overflow } :=
  besideLots_frame ((besideLots_kept _).lotMarked rfl a m)

theorem ownLotmarkHeard_frame (s : State) (m : LotMarkFrame) :
    s.ownLotmarkHeard m = { s with gates := (s.ownLotmarkHeard m).gates } := by
  unfold State.ownLotmarkHeard
  dsimp only
  split
  · split <;> rfl
  · rfl

/-- The lock of its QUEUED gate is lifted (R107). -/
theorem ownLotmarkHeard_lifts (hmark : (match (s.gate m.gate).mark with
      | .queued _ => true
      | _ => false) = true) (hlot : (s.gate m.gate).lot = some m.new) :
    s.ownLotmarkHeard m = s.setGate m.gate { s.gate m.gate with lock := false, mark := .none } := by
  unfold State.ownLotmarkHeard
  dsimp only
  split
  · exact if_pos hlot
  · rename_i h
    split at hmark
    · rename_i hq
      exact absurd hq (h _)
    · cases hmark

/-- A lock lifted suspends no gate. -/
theorem unlock_calmer (s : State) (g : GateIx) (x : MarkState) :
    s.Calmer (s.setGate g { s.gate g with lock := false, mark := x }) := by
  refine ⟨fun i => by cases i <;> rfl, rfl, rfl, fun k hk => ?_, List.Sublist.refl _⟩
  unfold State.suspended at hk ⊢
  by_cases hg : k = g
  · subst hg
    rw [setGate_gate] at hk
    simp only [Bool.or_false, Bool.or_eq_true] at hk ⊢
    tauto
  · rw [setGate_gate_ne _ _ hg] at hk
    exact hk

theorem ownLotmarkHeard_calmer (s : State) (m : LotMarkFrame) : s.Calmer (s.ownLotmarkHeard m) := by
  unfold State.ownLotmarkHeard
  dsimp only
  split
  · split
    · exact unlock_calmer s m.gate .none
    · exact ⟨fun _ => rfl, rfl, rfl, fun _ h => h, List.Sublist.refl _⟩
  · exact ⟨fun _ => rfl, rfl, rfl, fun _ h => h, List.Sublist.refl _⟩

theorem lotMarked_calmer (s : State) (a : Addr) (m : LotMarkFrame) : s.Calmer (s.lotMarked a m) := by
  rw [lotMarked_frame]
  exact calmer_of_view rfl (eyesCalmer_of_eyes rfl) id id id (Nat.le_refl _)

/-! #### The end mark it sets -/

/-- The entry whose source a LOTMARK has ended, judged afresh. -/
def LotEntry.markedAfresh (e : LotEntry) (a : Addr) (m : LotMarkFrame) : LotEntry :=
  (e.setEndMark a m.gate (match m.last with
    | some n => EndMark.serial n.serial
    | none => EndMark.noneReleased)).judgedAfresh

theorem lotMarked_unknown (h : s.lotSlotOf m.old = none) (a : Addr) : s.lotMarked a m = s := by
  unfold State.lotMarked
  split
  · rfl
  · rw [h]

theorem judgedAfresh_sound (h : e.state = e.judged) : e.judgedAfresh = e := by
  rw [judgedAfresh_of_not e (by rw [← h]; exact fun hc => hc.2 hc.1), ← h]

theorem finRange_filter_eq (k : Fin 16) (b : Bool) :
    (List.finRange 16).filter (fun j => decide (j = k) && b) = if b = true then [k] else [] := by
  cases b with
  | false => simp
  | true =>
    have once : (List.finRange 16).count k = 1 := List.count_eq_one_of_mem (List.nodup_finRange 16) (List.mem_finRange k)
    have same : (List.finRange 16).filter (fun j => decide (j = k) && true) = (List.finRange 16).filter (· == k) :=
      List.filter_congr fun j _ => by by_cases h : j = k <;> simp [h]
    rw [same, List.filter_beq, once]
    rfl

/-- Sound lots but for one entry: the judgement changes that entry alone, and closes it alone. -/
theorem judged_one (hl : s.LotsSound) (e : LotEntry) :
    (s.setLotSlot k (some e)).judgeLots.lotSlot k = some e.judgedAfresh ∧
      (∀ j, j ≠ k → (s.setLotSlot k (some e)).judgeLots.lotSlot j = s.lotSlot j) ∧
      (s.setLotSlot k (some e)).judgeLots.closureList =
        s.closureList ++ if (e.judged == .closed && e.state != .closed) = true then [k] else [] := by
  obtain ⟨-, -, hjudged, -⟩ := hl
  have judged := judgeLots_judged (s.setLotSlot k (some e))
  have slots := fun j => (judged.slots j).trans (if_pos (List.mem_finRange j))
  have others : ∀ j, j ≠ k → (s.setLotSlot k (some e)).lotSlot j = s.lotSlot j := fun j hj =>
    setLotSlot_lotSlot_ne _ _ hj
  have sound : ∀ j x, s.lotSlot j = some x → x.state = x.judged := fun j x hx =>
    (hjudged j x (by simp [hx])).2
  refine ⟨by rw [slots, setLotSlot_lotSlot]; rfl, fun j hj => ?_, ?_⟩
  · rw [slots, others j hj]
    cases hx : s.lotSlot j with
    | none => rfl
    | some x => rw [Option.map_some, judgedAfresh_sound (sound j x hx)]
  · have closes : ∀ j, (s.setLotSlot k (some e)).closing j =
        (decide (j = k) && (e.judged == .closed && e.state != .closed)) := fun j => by
      by_cases hj : j = k
      · subst hj
        rw [closing_of (setLotSlot_lotSlot s j (some e))]
        simp
      · rw [State.closing, others j hj]
        cases hx : s.lotSlot j with
        | none => simp [hj]
        | some x => simp [hj, sound j x hx]
    rw [judged.list, setLotSlot_closureList]
    rw [List.filter_congr fun j _ => closes j]
    exact congrArg _ (finRange_filter_eq k _)

theorem lotMarked_known (hl : s.LotsSound) (hserve : s.serving = true) (hk : s.lotSlotOf m.old = some k)
    (he : s.lotSlot k = some e) (a : Addr) :
    (s.lotMarked a m).lotSlot k = some (e.markedAfresh a m) ∧
      (∀ j, j ≠ k → (s.lotMarked a m).lotSlot j = s.lotSlot j) ∧
      (s.lotMarked a m).closureList = s.closureList ++
        if ((e.markedAfresh a m).state == .closed && e.state != .closed) = true then [k] else [] := by
  unfold State.lotMarked
  rw [if_neg (by simp [hserve]), hk]
  dsimp only
  rw [he]
  exact judged_one hl (e.setEndMark a m.gate _)

end Sys2Proof.Machine
end

section
namespace Sys2Proof.Machine

variable {s t u : State} {q : TxFrame} {rest : List TxFrame} {g j : GateIx} {f : ReserveFrame} {x : Reservation}

/-! ### The own RESERVE (R118, R119) -/

/-- From s to t a WITHDRAW of gate g goes, at the tail of the queue or when there is room; entries may go with it. -/
structure State.Withdraws (s : State) (g : GateIx) (t : State) : Prop where
  frame : t = { s with queue := t.queue, reservations := t.reservations, gates := t.gates }
  gates : ∀ j, (t.gate j).SameFlags (s.gate j) ∧ (t.gate j).state = (s.gate j).state ∧ (t.gate j).set = (s.gate j).set
  entries : t.reservations.Sublist s.reservations
  queue : t.queue = s.queue ++ [TxFrame.new (.withdraw g) 0] ∨
    t.queue = s.queue ∧ (t.gate g).withdrawPending = true ∧ ¬ (s.queue.length < 16 ∧ s.feedCount < 12)

theorem queueWithdraw_withdraws (s : State) (g : GateIx) : s.Withdraws g (s.queueWithdraw g) := by
  unfold State.queueWithdraw
  obtain ⟨-, ho⟩ | ⟨room, ho⟩ := offer_cases s (.withdraw g) 0 <;> rw [ho]
  · exact ⟨rfl, fun _ => ⟨⟨rfl, rfl, rfl⟩, rfl, rfl⟩, List.Sublist.refl _, .inl rfl⟩
  · refine ⟨rfl, fun j => ?_, List.Sublist.refl _, .inr ⟨rfl, by simp, ?_⟩⟩
    · by_cases hj : j = g
      · subst hj
        rw [setGate_gate]
        exact ⟨⟨rfl, rfl, rfl⟩, rfl, rfl⟩
      · rw [setGate_gate_ne _ _ hj]
        exact ⟨⟨rfl, rfl, rfl⟩, rfl, rfl⟩
    · rintro ⟨short, feed⟩
      have : s.roomFor (.withdraw g) = true := by
        unfold State.roomFor State.feedRoom State.queueRoom
        exact Bool.and_eq_true_iff.mpr ⟨decide_eq_true short, decide_eq_true feed⟩
      rw [this] at room
      cases room

/-- The gate's own entry gone before, and its patience restarted behind. -/
theorem dropOwn_withdraws (s : State) (g : GateIx) :
    s.Withdraws g (((s.dropOwn g).queueWithdraw g).restartPatience g) := by
  obtain ⟨frame, gates, entries, queue⟩ := queueWithdraw_withdraws (s.dropOwn g) g
  generalize (s.dropOwn g).queueWithdraw g = t at *
  refine ⟨?_, fun j => ?_, entries.trans List.filter_sublist, ?_⟩
  · rw [frame]
    rfl
  · obtain ⟨flags, state, set⟩ := gates j
    by_cases hj : j = g
    · subst hj
      rw [State.restartPatience, setGate_gate]
      exact ⟨flags, state, set⟩
    · rw [State.restartPatience, setGate_gate_ne _ _ hj]
      exact ⟨flags, state, set⟩
  · refine queue.imp id fun ⟨same, pending, room⟩ => ⟨same, ?_, room⟩
    rw [State.restartPatience, setGate_gate]
    exact pending

theorem dropOwn_none (s : State) (g : GateIx) :
    (((s.dropOwn g).queueWithdraw g).restartPatience g).ownReservation g = none ∧
      ((((s.dropOwn g).queueWithdraw g).restartPatience g).gate g).patienceCount = 0 := by
  refine ⟨?_, by rw [State.restartPatience, setGate_gate]⟩
  have entries : (((s.dropOwn g).queueWithdraw g).restartPatience g).reservations =
      s.reservations.filter fun x => !x.isOwn g := queueWithdraw_reservations (s.dropOwn g) g
  rw [State.ownReservation, entries]
  exact List.find?_eq_none.mpr fun x hx => by simpa using (List.mem_filter.mp hx).2

/-- Nothing follows a withdrawal behind the completed RESERVE: the WITHDRAW takes the place the RESERVE had. -/
theorem withdraws_refresh (hp : s.PinsFollow) (hq : s.queue = q :: rest) (hf : feedClass q.frame = true)
    (h : (s.sent rest).Withdraws g t) : t.refresh = t := by
  obtain ⟨frame, gates, entries, queue⟩ := h
  have count : s.feedCount = rest.countP (fun y => feedClass y.frame) + 1 := by
    rw [State.feedCount, hq, List.countP_cons, if_pos hf]
  have feed : t.feedCount ≤ s.feedCount := by
    rw [count]
    unfold State.feedCount
    obtain same | ⟨same, -, -⟩ := queue <;> rw [same]
    · rw [List.countP_append]
      exact Nat.le_refl _
    · exact Nat.le_succ _
  have fewer : s.FewerCauses t := by
    rw [frame]
    exact ⟨rfl, rfl, id, id, fun _ => id, id, id, rfl⟩
  have full : t.trainFull = s.trainFull ∧ t.travelA = s.travelA := by
    rw [frame]
    exact ⟨rfl, rfl⟩
  have calmer : s.Calmer t := by
    refine ⟨fun i => ?_, ?_, ?_, fun k => fewer.suspended (gates k).1 (by rw [full.1]; exact id) feed
      (by rw [full.2]; exact id), entries⟩
    · rw [frame]
      cases i <;> rfl
    · rw [frame]
      rfl
    · rw [frame]
      rfl
  have empty : t.gateEmpty = s.gateEmpty := by
    unfold State.gateEmpty
    refine List.any_congr rfl fun k => ?_
    obtain ⟨-, state, set⟩ := gates k
    rw [state, set]
    rfl
  have conditions : t.conditions = s.conditions := by
    unfold State.conditions
    rw [empty, frame]
    rfl
  exact calmer.refresh_eq hp (by rw [frame]; rfl) conditions (by rw [frame]; rfl) (by rw [frame]; rfl)

/-! #### Its entry stands -/

theorem standOwn_ownReservation (s : State) (g k : GateIx) :
    (s.standOwn g).ownReservation k = (s.ownReservation k).map fun x =>
      if x.isOwn g then { x with phase := .standing } else x := by
  unfold State.standOwn State.ownReservation
  dsimp only
  rw [List.find?_map]
  congr 1
  refine congrArg (fun p => List.find? p s.reservations) (funext fun x => ?_)
  dsimp only [Function.comp]
  split <;> rfl

theorem standOwn_refresh (hp : s.PinsFollow) (g : GateIx) : (s.standOwn g).refresh = s.standOwn g := by
  obtain ⟨hshown, halert, hres⟩ := hp
  refine refresh_follows _ ⟨hshown, halert, fun k hk => ?_⟩
  rw [standOwn_ownReservation, hres k hk]
  rfl

/-- The gate can no longer commit into the entry: it is withdrawn as it comes to stand (R118). -/
theorem standOwn_withdraw (h : s.ownReservation g = some x) :
    (s.standOwn g).withdraw g = ((s.dropOwn g).queueWithdraw g).restartPatience g := by
  have own : x.isOwn g = true := List.find?_some (p := fun y : Reservation => y.isOwn g) h
  have stands : (s.standOwn g).ownReservation g = some { x with phase := .standing } := by
    rw [standOwn_ownReservation, h, Option.map_some, if_pos own]
  have drops : (s.standOwn g).dropOwn g = s.dropOwn g := by
    unfold State.standOwn State.dropOwn
    dsimp only
    congr 1
    induction s.reservations with
    | nil => rfl
    | cons y l ih =>
      rw [List.map_cons, List.filter_cons, List.filter_cons, ih]
      by_cases hy : y.isOwn g = true
      · have : ({ y with phase := .standing } : Reservation).isOwn g = true := hy
        rw [if_pos hy, this, hy]
        rfl
      · rw [if_neg hy]
  unfold State.withdraw State.withdrawEntry
  rw [stands, drops]

/-! #### What the received RESERVE does -/

theorem ownReserveHeard_unmatched (h : ((s.ownReservation g).all fun y => y.phase != .queued) = true) :
    s.ownReserveHeard g = s.queueWithdraw g := by
  unfold State.ownReserveHeard
  split
  · rfl
  · rename_i y hy
    rw [hy] at h
    rw [if_pos (by simpa using h)]

theorem ownReserveHeard_matched (h : s.ownReservation g = some x) (hx : x.phase = .queued) : s.ownReserveHeard g =
    if (s.segmentHitsEntry x.lanes x.start x.stop (fun y => !y.isOwn g) || s.segmentHitsRecord x.lanes x.start x.stop) =
        true ∨ atOrPast (s.pos .a) (s.alignment g x) = true then
      ((s.dropOwn g).queueWithdraw g).restartPatience g
    else s.standOwn g := by
  unfold State.ownReserveHeard
  rw [h]
  dsimp only
  rw [if_neg (by simp [hx])]
  split
  · rename_i hits
    rw [if_pos (.inl hits)]
  · rename_i clear
    split
    · rename_i passed
      rw [if_pos (.inr passed), standOwn_withdraw h]
    · rename_i ahead
      rw [if_neg (by simp [clear, ahead])]

end Sys2Proof.Machine
end

section
namespace Sys2Proof.Machine

variable {s t : State} {q : TxFrame} {rest : List TxFrame} {g : GateIx} {f : ReserveFrame} {x : Reservation}

/-! ### O42: the completed frame at its owner -/

/-- A MARK on the train, whatever its code and the tracker's state (R64). -/
theorem takeMark_map (s : State) (tag : Tag) (mark : Byte) : s.takeMark tag mark = { s with
    train := s.train.map fun r =>
      if s.live = true ∧ mark = 1 ∧ r.tag = tag then { r with flags := { r.flags with reject := true } } else r } := by
  cases hlive : s.live with
  | true =>
    rw [takeMark_eq hlive]
    simp
  | false =>
    have none_ : s.takeMark tag mark = s := by
      unfold State.takeMark
      rw [hlive]
      rfl
    simp [none_]

theorem takeLost_dead (h : s.live = false) (tag : Tag) : s.takeLost tag = s := by
  unfold State.takeLost
  split
  · rw [if_neg (by simp [h])]
  · rfl

/-- What a withdrawal behind the completed RESERVE gives, as the statement says it. -/
theorem State.Withdraws.says (h : (s.sent rest).Withdraws g t) :
    (TxFrame.new (.withdraw g) 0 ∈ t.queue ∨ (t.gate g).withdrawPending = true) ∧
      (rest.length < 16 → (rest.countP fun y => feedClass y.frame) < 12 → TxFrame.new (.withdraw g) 0 ∈ t.queue) ∧
      (∀ j, (t.gate j).state = (s.gate j).state) ∧
      t = { s.sent rest with queue := t.queue, reservations := t.reservations, gates := t.gates } := by
  obtain ⟨frame, gates, -, queue⟩ := h
  have states : ∀ j, (t.gate j).state = (s.gate j).state := fun j => (gates j).2.1
  obtain queued | ⟨-, pending, room⟩ := queue
  · have mem : TxFrame.new (.withdraw g) 0 ∈ t.queue := by
      rw [queued]
      exact List.mem_append_right _ List.mem_cons_self
    exact ⟨.inl mem, fun _ _ => mem, states, frame⟩
  · exact ⟨.inr pending, fun short feed => absurd ⟨short, feed⟩ room, states, frame⟩

theorem lotSlot_congr (h : t.lots = s.lots) (k : Fin 16) : t.lotSlot k = s.lotSlot k := by
  unfold State.lotSlot
  rw [h]

/-- The own LOTMARK received back: its gate's part and the lot unit's. -/
theorem ownLotmark_leaves (hp : s.PinsFollow) (m : LotMarkFrame) :
    ((match (s.gate m.gate).mark with
        | .queued _ => true
        | _ => false) = true → (s.gate m.gate).lot = some m.new →
      (s.ownHeard (.lotmark m)).refresh.gate m.gate = { s.gate m.gate with lock := false, mark := .none }) ∧
    (s.ownHeard (.lotmark m)).refresh.lots = (s.lotMarked s.ownAddress m).lots ∧
    (s.ownHeard (.lotmark m)).refresh.closureList = (s.lotMarked s.ownAddress m).closureList ∧
    (s.ownHeard (.lotmark m)).refresh.dests = (s.lotMarked s.ownAddress m).dests ∧
    (s.ownHeard (.lotmark m)).refresh = { s with
      gates := (s.ownHeard (.lotmark m)).refresh.gates, lots := (s.ownHeard (.lotmark m)).refresh.lots
      closureList := (s.ownHeard (.lotmark m)).refresh.closureList, dests := (s.ownHeard (.lotmark m)).refresh.dests
      channels := (s.ownHeard (.lotmark m)).refresh.channels, faults := (s.ownHeard (.lotmark m)).refresh.faults
      overflow := (s.ownHeard (.lotmark m)).refresh.overflow, alertPin := (s.ownHeard (.lotmark m)).refresh.alertPin } := by
  have marked := lotMarked_frame s s.ownAddress m
  have gates := ownLotmarkHeard_frame (s.lotMarked s.ownAddress m) m
  have lifts := ownLotmarkHeard_lifts (s := s.lotMarked s.ownAddress m) (m := m)
  have gate : (s.lotMarked s.ownAddress m).gate = s.gate := by
    rw [marked]
    rfl
  rw [gate] at lifts
  have outputs := ((lotMarked_calmer s s.ownAddress m).trans (ownLotmarkHeard_calmer _ m)).refresh_outputs hp
  change ((s.lotMarked s.ownAddress m).ownLotmarkHeard m).refresh = _ at outputs
  unfold State.ownHeard
  generalize ((s.lotMarked s.ownAddress m).ownLotmarkHeard m).refresh = t at *
  generalize (Vector.ofFn fun c => s.shown (((s.lotMarked s.ownAddress m).ownLotmarkHeard m).channel c)) = pulses at *
  generalize (s.lotMarked s.ownAddress m).ownLotmarkHeard m = v at *
  generalize s.lotMarked s.ownAddress m = u at *
  refine ⟨fun hmark hlot => ?_, ?_, ?_, ?_, ?_⟩
  · rw [outputs, lifts hmark hlot]
    exact setGate_gate ..
  · rw [outputs, gates]
    rfl
  · rw [outputs, gates]
    rfl
  · rw [outputs, gates]
    rfl
  · rw [outputs, gates, marked]
    rfl

/-- The entry a LOTMARK ends the source of, written out (R167 to R169). -/
theorem markedAfresh_eq (e : LotEntry) (a : Addr) (m : LotMarkFrame) : e.markedAfresh a m =
    (
      let ended := fun (y : Source) => match m.last with
        | none => true
        | some n => match y.highest with
          | some hi => serialAtOrPast hi n.serial
          | none => false
      let sources := e.sources.filterMap fun y =>
        if y.origin = a ∧ y.gate = m.gate then
          if ended y then none else some { y with endMark := match m.last with
            | none => .noneReleased
            | some n => .serial n.serial }
        else some y
      let state : LotState :=
        if sources ≠ [] then .opened else if 0 < e.inFlight then .closing else .closed
      let closes := state == .closed && e.state != .closed
      { e with sources := sources, state := state, noticeUnread := e.noticeUnread || closes }) := by
  have sources : (e.setEndMark a m.gate (match m.last with
      | some n => EndMark.serial n.serial
      | none => EndMark.noneReleased)).sources = e.sources.filterMap fun y =>
        if y.origin = a ∧ y.gate = m.gate then
          if (match m.last with
            | none => true
            | some n => match y.highest with
              | some hi => serialAtOrPast hi n.serial
              | none => false) then none else some { y with endMark := match m.last with
                | none => .noneReleased
                | some n => .serial n.serial }
        else some y := by
    refine List.filterMap_congr fun y _ => ?_
    have named : y.isOf a m.gate = true ↔ y.origin = a ∧ y.gate = m.gate := by simp [Source.isOf]
    by_cases h : y.origin = a ∧ y.gate = m.gate
    · rw [if_pos (named.mpr h), if_pos h]
      cases m.last <;> rfl
    · rw [if_neg (named.not.mpr h), if_neg h]
  dsimp only
  rw [← sources]
  rfl

/-- Settles O42: each frame at its owner, and what follows it. -/
theorem completedFrameIsHeard : Obligations.CompletedFrameIsHeard := by
  unfold Obligations.CompletedFrameIsHeard
  intro s q rest m f x role format tag cause mark a k e hp hq hu
  have hsent := sent_pinsFollow hp hq
  have quiet : (s.sent rest).refresh = s.sent rest := refresh_follows _ hsent
  have done : exec .txComplete s = .next s.onTxComplete := rfl
  have heard : ∀ (ho : q.orphan = false) (hm : s.mode ≠ .config),
      exec .txComplete s = .next ((s.sent rest).ownHeard q.frame).refresh := fun ho hm => by
    rw [done, onTxComplete_heard hq hu ho hm]
  have unheard : ∀ (ho : q.orphan = false) (hm : s.mode ≠ .config), (s.sent rest).ownHeard q.frame = s.sent rest →
      exec .txComplete s = .next (s.sent rest) := fun ho hm h => by
    rw [heard ho hm, h, quiet]
  refine ⟨fun h => ?_, fun ho hm => ⟨fun hf => ⟨fun h => ?_, fun hlive ht h => ?_⟩, fun hf => ?_⟩, fun ho hm hf => ?_,
    fun ho hm hf => ⟨fun hrole => ?_, fun hrole hnone => ?_, fun hrole hown hphase => ?_⟩, fun ho hm hf => ?_⟩
  · by_cases hd : q.orphan = true ∨ s.mode = .config
    · rw [done, onTxComplete_dropped hq hu hd, quiet]
      rfl
    · have silent := (or_assoc.mpr h).resolve_left hd
      refine unheard (by simpa using fun ho => hd (.inl ho)) (fun hm => hd (.inr hm)) ?_
      cases hframe : q.frame <;> rw [hframe] at silent
      case release | handoff | hold | withdraw => rfl
      all_goals cases silent
  · refine unheard ho hm ?_
    rw [hf]
    obtain dead | none_ := h
    · exact takeLost_dead (s := s.sent rest) dead tag
    · exact takeLost_none (s := s.sent rest) none_
  · obtain ⟨r, hr, hstage⟩ : ∃ r, s.findRecord tag = some r ∧ r.stage = .pending := by
      simpa [Option.any_eq_true] using h
    obtain ⟨-, rfl⟩ := findRecord_some s hr
    obtain ⟨train, t, htaken, frame⟩ := lostRemote_leaves hsent (show (s.sent rest).TrainSound from ht) r
    refine ⟨t, ?_, htaken ▸ train, frame⟩
    rw [htaken, heard ho hm, hf]
    exact congrArg (fun u : State => Host.Outcome.next u.refresh)
      (takeLost_pending (s := s.sent rest) hlive hr hstage)
  · rw [heard ho hm, hf]
    refine congrArg Host.Outcome.next ?_
    rw [State.ownHeard, takeMark_map]
    refine refresh_besideTrain_eq (s := s.sent rest) rfl ?_ rfl rfl rfl rfl hsent
    unfold State.trainFull
    rw [List.length_map]
  · have hexec := heard ho hm
    rw [hf] at hexec
    obtain ⟨gates, lots, list, dests, frame⟩ := ownLotmark_leaves hsent m
    have address : (s.sent rest).ownAddress = s.ownAddress := rfl
    rw [address] at lots list dests
    refine ⟨_, hexec, fun hmark hlot => ?_, fun hserve hl ha => ⟨fun hk => ?_, fun hk he => ?_⟩, frame⟩
    · have lifted := gates hmark hlot
      exact ⟨congrArg Gate.lock lifted, congrArg Gate.mark lifted⟩
    · have same := lotMarked_unknown (s := s.sent rest) hk s.ownAddress
      rw [same] at lots list dests
      exact ⟨lots, list, dests⟩
    · have own : s.ownAddress = a := by rw [State.ownAddress, ha]; rfl
      subst own
      obtain ⟨slot, others, closes⟩ := lotMarked_known (s := s.sent rest) (m := m) hl hserve hk he s.ownAddress
      rw [← list, markedAfresh_eq] at closes
      rw [← lotSlot_congr lots, markedAfresh_eq] at slot
      exact ⟨slot, fun j hj => (lotSlot_congr lots j).trans (others j hj), closes⟩
  · refine unheard ho hm ?_
    rw [hf]
    exact if_neg hrole
  · have gives : (s.sent rest).ownHeard q.frame = (s.sent rest).queueWithdraw f.gate := by
      rw [hf]
      exact (if_pos hrole).trans (ownReserveHeard_unmatched (s := s.sent rest) hnone)
    have goes := queueWithdraw_withdraws (s.sent rest) f.gate
    refine ⟨_, (heard ho hm).trans (by rw [gives, withdraws_refresh hp hq (by rw [hf]; rfl) goes]), goes.says⟩
  · have gives : (s.sent rest).ownHeard (.reserve f) =
        if (s.segmentHitsEntry x.lanes x.start x.stop (fun y => !y.isOwn f.gate) ||
            s.segmentHitsRecord x.lanes x.start x.stop) = true ∨ atOrPast (s.pos .a) (s.alignment f.gate x) = true then
          (((s.sent rest).dropOwn f.gate).queueWithdraw f.gate).restartPatience f.gate
        else (s.sent rest).standOwn f.gate :=
      (if_pos hrole).trans (ownReserveHeard_matched (s := s.sent rest) hown hphase)
    refine ⟨fun h => ?_, fun hclear hahead => ?_⟩
    · have goes := dropOwn_withdraws (s.sent rest) f.gate
      have lifts := dropOwn_none (s.sent rest) f.gate
      rw [if_pos h] at gives
      have gone := heard ho hm
      rw [hf, gives, withdraws_refresh hp hq (by rw [hf]; rfl) goes] at gone
      exact ⟨_, gone, goes.says, lifts⟩
    · rw [if_neg (by simp [hclear, hahead])] at gives
      rw [heard ho hm, hf]
      refine congrArg Host.Outcome.next ?_
      rw [gives]
      exact standOwn_refresh hsent f.gate
  · have gives : (s.sent rest).ownHeard q.frame = (s.sent rest).ownJoinHeard := by rw [hf]; rfl
    have frame := ownJoinHeard_refresh hsent
    have mode : (s.sent rest).ownJoinHeard.refresh.mode = (s.sent rest).ownJoinHeard.mode := by rw [frame]
    have hexec := heard ho hm
    rw [gives] at hexec
    refine ⟨_, hexec, fun hj hs => mode.trans (ownJoinHeard_joining (s := s.sent rest) hj hs),
      fun hj => mode.trans (ownJoinHeard_mode (s := s.sent rest) hj), ?_⟩
    generalize (s.sent rest).ownJoinHeard.refresh = t at *
    rw [frame]
    rfl

end Sys2Proof.Machine
end

section
namespace Sys2Proof.Machine

variable {s t u v : State} {r : Record} {k : Fin 16} {e : LotEntry} {d : DestIx}

/-! ### A record out of its lot (R166 to R170) -/

/-- What a record that leaves does to an entry before its state is judged (R166, R168). -/
def LotEntry.touchedBy (e : LotEntry) (r : Record) (passed : Bool) : LotEntry :=
  let e1 := if e.lot = r.lot ∧ !r.flags.lotUntracked then e.countRemoval passed r.flags.reject else e
  match r.gate with
  | none => e1
  | some g => if e.lot = r.lot then e1.raiseHighest r.tag g else e1.passLast r.tag g

theorem touchedBy_kept (e : LotEntry) (r : Record) (passed : Bool) : (e.touchedBy r passed).lot = e.lot ∧
    (e.touchedBy r passed).state = e.state ∧ (e.touchedBy r passed).noticeUnread = e.noticeUnread := by
  have counted : ∀ x : LotEntry, x = (if e.lot = r.lot ∧ !r.flags.lotUntracked then e.countRemoval passed r.flags.reject
      else e) → x.lot = e.lot ∧ x.state = e.state ∧ x.noticeUnread = e.noticeUnread := by
    rintro x rfl
    split <;> exact ⟨rfl, rfl, rfl⟩
  unfold LotEntry.touchedBy
  generalize hx : (if e.lot = r.lot ∧ !r.flags.lotUntracked then e.countRemoval passed r.flags.reject else e) = x
  have kept := counted x hx.symm
  cases r.gate with
  | none => exact kept
  | some g =>
    dsimp only
    split <;> exact kept

/-- Every entry touched. -/
theorem foldl_touch (f : LotEntry → LotEntry) {ks : List (Fin 16)} (h : ks.Nodup) (s : State) :
    (∀ k, (ks.foldl (fun s k => s.setLotSlot k ((s.lotSlot k).map f)) s).lotSlot k =
        if k ∈ ks then (s.lotSlot k).map f else s.lotSlot k) ∧
      ks.foldl (fun s k => s.setLotSlot k ((s.lotSlot k).map f)) s =
        { s with lots := (ks.foldl (fun s k => s.setLotSlot k ((s.lotSlot k).map f)) s).lots } := by
  induction ks generalizing s with
  | nil => exact ⟨fun _ => rfl, rfl⟩
  | cons k ks ih =>
    obtain ⟨fresh, h⟩ := List.nodup_cons.mp h
    obtain ⟨slots, frame⟩ := ih h (s.setLotSlot k ((s.lotSlot k).map f))
    rw [List.foldl_cons]
    refine ⟨fun j => ?_, frame⟩
    rw [slots]
    by_cases hj : j = k
    · subst hj
      rw [if_neg fresh, setLotSlot_lotSlot, if_pos List.mem_cons_self]
    · rw [setLotSlot_lotSlot_ne _ _ hj]
      simp [hj]

/-- The slots whose entries become CLOSED as a record leaves. -/
def State.endedBy (s : State) (r : Record) (passed : Bool) : List (Fin 16) :=
  (List.finRange 16).filter fun k =>
    (s.lotSlot k).any fun e => (e.touchedBy r passed).judged == .closed && e.state != .closed

/-- A record of a lot leaves (R166): its entries, the closures, and the stacks of the lots that close. -/
theorem lotRemove_leaves (s : State) (passed : Bool) (h : r.lot ≠ Config.unknownLot) :
    (∀ k, (s.lotRemove r passed).lotSlot k = (s.lotSlot k).map fun e => (e.touchedBy r passed).judgedAfresh) ∧
      (s.lotRemove r passed).closureList = s.closureList ++ s.endedBy r passed ∧
      s.lotRemove r passed =
        ((s.endedBy r passed).foldl (fun u k => s.lotEndOf k u) s).withTrack (s.lotRemove r passed) := by
  have judged : s.lotRemove r passed =
      (slotIxs.foldl (fun s k => s.setLotSlot k ((s.lotSlot k).map fun e => e.touchedBy r passed)) s).judgeLots :=
    if_neg h
  obtain ⟨slots, frame⟩ := foldl_touch (fun e => e.touchedBy r passed) (List.nodup_finRange 16) s
  have all : slotIxs = List.finRange 16 := by decide
  rw [judged, all]
  generalize (List.finRange 16).foldl (fun s k => s.setLotSlot k ((s.lotSlot k).map fun e => e.touchedBy r passed)) s = m
    at *
  obtain ⟨jslots, jlist, jbeside⟩ := judgeLots_judged m
  have each : ∀ k, m.lotSlot k = (s.lotSlot k).map fun e => e.touchedBy r passed := fun k =>
    (slots k).trans (if_pos (List.mem_finRange k))
  have ended : (List.finRange 16).filter m.closing = s.endedBy r passed := List.filter_congr fun k _ => by
    rw [State.closing, each, Option.any_map]
    refine congrArg (fun p => Option.any p (s.lotSlot k)) (funext fun e => ?_)
    simp only [(touchedBy_kept e r passed).2.1]
  have lots : ∀ k u, m.lotEndOf k u = s.lotEndOf k u := fun k u => by
    rw [State.lotEndOf, each, State.lotEndOf]
    cases s.lotSlot k with
    | none => rfl
    | some e => exact congrArg u.lotEnd (touchedBy_kept e r passed).1
  rw [ended] at jlist jbeside
  have list : m.closureList = s.closureList := by rw [frame]
  refine ⟨fun k => ?_, by rw [jlist, list], ?_⟩
  · rw [jslots, if_pos (List.mem_finRange k), each, Option.map_map]
    rfl
  · have same : m = s.withTrack m := by rw [frame]; rfl
    have ends := lotEndsOf_withTrack s s m (s.endedBy r passed)
    simp only [lots] at jbeside
    rw [← same] at ends
    rw [ends] at jbeside
    exact jbeside

end Sys2Proof.Machine
end

section
namespace Sys2Proof.Machine

variable {s t u v : State} {r : Record} {k : Fin 16} {e : LotEntry} {d : DestIx}

/-! ### The entry that a record leaves, written out (R166, R168) -/

/-- The sources of an entry once the record has left. -/
def LotEntry.sourcesWithout (e : LotEntry) (r : Record) : List Source :=
  e.sources.filterMap fun x =>
    if r.gate = some x.gate ∧ r.tag.origin = x.origin then
      if e.lot = r.lot then
        (
          let highest := match x.highest with
            | some n => if serialPast r.tag.serial n then r.tag.serial else n
            | none => r.tag.serial
          let struck := match x.endMark with
            | .serial last => serialAtOrPast highest last
            | .noneReleased => true
            | .absent => false
          if struck then none else some { x with highest := some highest })
      else match x.endMark with
        | .serial last => if serialPast r.tag.serial last then none else some x
        | _ => some x
    else some x

/-- The counts of an entry once the record has left through its checkpoints. -/
def LotEntry.countedOut (e : LotEntry) (r : Record) : LotEntry :=
  if e.lot = r.lot ∧ r.flags.lotUntracked = false then
    { e with
      inFlight := e.inFlight - 1, departed := min 65535 (e.departed + 1)
      rejects := if r.flags.reject then min 65535 (e.rejects + 1) else e.rejects }
  else e

theorem countedOut_eq (e : LotEntry) (r : Record) :
    (if e.lot = r.lot ∧ !r.flags.lotUntracked then e.countRemoval true r.flags.reject else e) = e.countedOut r := by
  unfold LotEntry.countedOut
  have same : (!r.flags.lotUntracked) = true ↔ r.flags.lotUntracked = false := by simp
  rw [if_congr (and_congr_right fun _ => same) rfl rfl]
  rfl

theorem countedOut_kept (e : LotEntry) (r : Record) : (e.countedOut r).lot = e.lot ∧
    (e.countedOut r).sources = e.sources ∧ (e.countedOut r).state = e.state ∧
    (e.countedOut r).noticeUnread = e.noticeUnread := by
  unfold LotEntry.countedOut
  split <;> exact ⟨rfl, rfl, rfl, rfl⟩

theorem touchedBy_eq (e : LotEntry) (r : Record) :
    e.touchedBy r true = { e.countedOut r with sources := e.sourcesWithout r } := by
  obtain ⟨lot, sources, -⟩ := countedOut_kept e r
  have named : ∀ (g : GateIx) (x : Source), r.gate = some g →
      (x.isOf r.tag.origin g = true ↔ r.gate = some x.gate ∧ r.tag.origin = x.origin) := fun g x hg => by
    unfold Source.isOf
    rw [Bool.and_eq_true, beq_iff_eq, beq_iff_eq, hg]
    exact ⟨fun ⟨a, b⟩ => ⟨congrArg some b.symm, a.symm⟩, fun ⟨a, b⟩ => ⟨b.symm, (Option.some.inj a).symm⟩⟩
  unfold LotEntry.touchedBy LotEntry.sourcesWithout
  dsimp only
  rw [countedOut_eq]
  cases hg : r.gate with
  | none =>
    dsimp only
    refine congrArg (fun l => { e.countedOut r with sources := l }) (sources.trans ?_)
    refine (List.filterMap_some.symm.trans (List.filterMap_congr fun x _ => ?_))
    rw [if_neg (by simp)]
  | some g =>
    dsimp only
    split
    · rename_i own
      unfold LotEntry.raiseHighest
      refine congrArg (fun l => { e.countedOut r with sources := l }) ?_
      rw [sources]
      refine List.filterMap_congr fun x _ => ?_
      rw [if_congr (named g x hg) rfl rfl, hg]
      obtain ⟨origin, gate, mark, highest⟩ := x
      cases highest <;> cases mark <;> rfl
    · rename_i other
      unfold LotEntry.passLast
      refine congrArg (fun l => { e.countedOut r with sources := l }) ?_
      rw [sources, ← List.filterMap_eq_filter]
      refine List.filterMap_congr fun x _ => ?_
      by_cases h : x.isOf r.tag.origin g = true
      · have mine : some g = some x.gate ∧ r.tag.origin = x.origin := hg ▸ (named g x hg).mp h
        simp only [Option.guard, h, Bool.true_and, if_pos mine]
        obtain ⟨origin, gate, mark, highest⟩ := x
        cases mark with
        | serial last => cases hp : serialPast r.tag.serial last <;> simp [hp]
        | _ => rfl
      · have foreign : ¬ (some g = some x.gate ∧ r.tag.origin = x.origin) := hg ▸ (named g x hg).not.mp h
        simp only [Option.guard, (Bool.not_eq_true _).mp h, Bool.false_and, Bool.not_false, if_true, if_neg foreign]

/-- The entry as it stands after the removal (R166 to R170). -/
theorem touchedAfresh_eq (e : LotEntry) (r : Record) : (e.touchedBy r true).judgedAfresh =
    (
      let state : LotState :=
        if e.sourcesWithout r ≠ [] then .opened else if 0 < (e.countedOut r).inFlight then .closing else .closed
      { e.countedOut r with
        sources := e.sourcesWithout r, state := state
        noticeUnread := e.noticeUnread || (state == .closed && e.state != .closed) }) := by
  obtain ⟨-, -, state, notice⟩ := countedOut_kept e r
  rw [touchedBy_eq]
  unfold LotEntry.judgedAfresh LotEntry.judged
  dsimp only
  rw [state, notice]

end Sys2Proof.Machine
end

section
namespace Sys2Proof.Machine

variable {s t u v : State} {r : Record} {k : Fin 16} {e : LotEntry} {d : DestIx} {reason : ClosureReason}

/-! ### Stacks while input A does not move in reverse (R156 to R158) -/

/-- A stack closed at the positions of s: its last closure, its trigger requested, and STACK_BUSY where that is refused. -/
def State.stackClosed (s : State) (reason : ClosureReason) (u : State) (k : DestIx) : State :=
  let y := u.dest k
  let w : State := { u with dests := u.dests.set k { y with
    count := 0, last := some { lot := y.stackLot, count := y.count, reason := reason } } }
  match y.set.stackChannel with
  | none => w
  | some c =>
    let asked := (u.channel c).request (s.pos (u.channel c).input) (Pos.plus (s.pos .a) y.set.stackWait)
      (Pos.plus (s.pos .a) (y.set.stackWait + y.set.stackActive)) none
    let v : State := { w with channels := u.channels.set c asked.1 }
    if asked.2 = .busy then v.recordFault
      { kind := .stackBusy, position := s.pos .a, input := .a, lot := some y.stackLot
        unit := some (.destination k), count := some y.count }
    else v

theorem pos_of_besideLots (h : u.besideLots = s.besideLots) : u.pos = s.pos ∧ u.travelA = s.travelA := by
  have frame := besideLots_frame h
  constructor
  · funext i
    rw [frame]
    cases i <;> rfl
  · rw [frame]

theorem closeStack_besideLots (h : u.besideLots = s.besideLots) (d : DestIx) (reason : ClosureReason) :
    (u.closeStack d reason).besideLots = s.besideLots := (besideLots_kept _).closeStack h d reason

theorem closeStack_eq (h : u.besideLots = s.besideLots) (hrev : s.travelA.reverse = false) (d : DestIx)
    (reason : ClosureReason) : u.closeStack d reason = s.stackClosed reason u d := by
  obtain ⟨pos, travel⟩ := pos_of_besideLots h
  have forward : u.outletWaits = false := by rw [State.outletWaits, travel, hrev]
  unfold State.closeStack
  dsimp only
  rw [forward, if_neg (by decide)]
  generalize hy : ({ u.dest d with
    count := 0, last := some { lot := (u.dest d).stackLot, count := (u.dest d).count, reason := reason } } : Dest) = y
  have set : ((u.setDest d y).dest d).set = (u.dest d).set := by
    rw [setDest_dest, ← hy]
  have here : (u.setDest d y).pos = s.pos := pos
  unfold State.trigger State.requestTrigger State.stackClosed
  dsimp only
  rw [set, hy]
  split
  · rename_i c hc
    rw [hc]
    unfold State.request
    rw [here]
    dsimp only
    split
    · rename_i busy
      have there : ∀ x, (State.setChannel (u.setDest d y) c x).pos = s.pos := fun _ => pos
      unfold State.stackBusy
      rw [there]
      exact (if_pos busy).symm
    · rename_i free
      exact (if_neg free).symm
  · rename_i hc
    rw [hc]
    rfl

theorem stackClosed_besideLots (h : u.besideLots = s.besideLots) (hrev : s.travelA.reverse = false) (d : DestIx)
    (reason : ClosureReason) : (s.stackClosed reason u d).besideLots = s.besideLots := by
  rw [← closeStack_eq h hrev]
  exact closeStack_besideLots h d reason

/-- A record counted into its destination's stack, with the closures this brings (R156). -/
theorem countIntoStack_eq (hrev : s.travelA.reverse = false) (d : DestIx) (lot : Lot) : s.countIntoStack d lot =
    (
      let size := (s.dest d).set.stackSize
      let switched :=
        if 0 < size ∧ 0 < (s.dest d).count ∧ (s.dest d).stackLot ≠ lot then s.stackClosed .lotSwitch s d else s
      let counted : State := { switched with dests := switched.dests.set d { switched.dest d with
        count := (switched.dest d).count + 1, stackLot := lot } }
      if size = 0 then s
      else if size ≤ (counted.dest d).count then s.stackClosed .full counted d
      else counted) := by
  have switched : ∀ u, u = (if 0 < (s.dest d).count ∧ (s.dest d).stackLot ≠ lot then s.closeStack d .lotSwitch else s) →
      u.besideLots = s.besideLots ∧ (u.dest d).set = (s.dest d).set := by
    rintro u rfl
    split
    · exact ⟨closeStack_besideLots rfl d _, by rw [closeStack_dest]⟩
    · exact ⟨rfl, rfl⟩
  unfold State.countIntoStack
  dsimp only
  by_cases hsize : (s.dest d).set.stackSize = 0
  · rw [if_pos hsize, if_pos hsize]
  · have positive : 0 < (s.dest d).set.stackSize := Nat.pos_of_ne_zero hsize
    rw [if_neg hsize, if_neg hsize]
    simp only [positive, true_and]
    rw [← closeStack_eq rfl hrev]
    generalize hu : (if 0 < (s.dest d).count ∧ (s.dest d).stackLot ≠ lot then s.closeStack d .lotSwitch else s) = u
    obtain ⟨kept, set⟩ := switched u hu.symm
    have size : ((u.setDest d { u.dest d with count := (u.dest d).count + 1, stackLot := lot }).dest d).set.stackSize =
        (s.dest d).set.stackSize := by
      rw [setDest_dest, ← set]
    have after : (u.setDest d { u.dest d with count := (u.dest d).count + 1, stackLot := lot }).besideLots = s.besideLots :=
      kept
    rw [size, closeStack_eq after hrev]
    rfl

theorem foldl_congr_kept {α : Type} {P : State → Prop} {f g : State → α → State} {l : List α}
    (h : ∀ u x, P u → f u x = g u x ∧ P (f u x)) (hs : P s) : l.foldl f s = l.foldl g s ∧ P (l.foldl f s) := by
  induction l generalizing s with
  | nil => exact ⟨rfl, hs⟩
  | cons x l ih =>
    obtain ⟨same, kept⟩ := h s x hs
    obtain ⟨rest, kept'⟩ := ih kept
    exact ⟨rest.trans (by rw [List.foldl_cons, same]), kept'⟩

/-- The stacks of a lot that closes (R158). -/
theorem lotEnd_eq (h : u.besideLots = s.besideLots) (hrev : s.travelA.reverse = false) (lot : Lot) :
    u.lotEnd lot = (List.finRange 4).foldl (fun u j =>
        if 0 < (u.dest j).set.stackSize ∧ some lot = some (u.dest j).stackLot ∧ 0 < (u.dest j).count then
          s.stackClosed .lotEnd u j
        else u) u ∧ (u.lotEnd lot).besideLots = s.besideLots := by
  have all : destIxs = List.finRange 4 := by decide
  unfold State.lotEnd
  rw [all]
  refine foldl_congr_kept (P := fun u => State.besideLots u = s.besideLots) (fun u j hu => ?_) h
  have same : (0 < (u.dest j).set.stackSize ∧ (u.dest j).stackLot = lot ∧ 0 < (u.dest j).count) ↔
      0 < (u.dest j).set.stackSize ∧ some lot = some (u.dest j).stackLot ∧ 0 < (u.dest j).count := by
    rw [Option.some_inj, eq_comm (a := lot)]
  dsimp only
  rw [if_congr same rfl rfl, closeStack_eq hu hrev]
  refine ⟨rfl, ?_⟩
  split
  · exact stackClosed_besideLots hu hrev j _
  · exact hu

end Sys2Proof.Machine
end

section
namespace Sys2Proof.Machine

variable {s t u v : State} {r : Record} {tag : Tag} {k : Fin 16} {e : LotEntry} {d : DestIx} {cause : RemovalCause}

/-! ### A record that has passed its checkpoints leaves (R59, R155, R166) -/

/-- A removal that calls for no frame, no fault and no alarm is the lot's alone. -/
theorem removeRecord_passed (hcause : cause = .cleared ∨ cause = .departed) (s : State) (r : Record) :
    s.removeRecord r cause none = (s.takeOut r.tag).lotRemove r true := by
  have quiet : cause.lostCode = none ∧ cause.fault = none ∧ cause.passed = true ∧ cause ≠ .wrap := by
    obtain rfl | rfl := hcause <;> exact ⟨rfl, rfl, rfl, by decide⟩
  obtain ⟨hlost, hfault, hpassed, hwrap⟩ := quiet
  unfold State.removeRecord
  dsimp only
  rw [hpassed]
  generalize (s.takeOut r.tag).lotRemove r true = u
  unfold State.alarmAt State.queueLost State.removalFault
  rw [if_neg hwrap, hlost, hfault]

/-- The entry of a slot once the record has left. -/
def State.slotWithout (s : State) (r : Record) (k : Fin 16) : Option LotEntry :=
  if r.lot = 255 then s.lotSlot k else (s.lotSlot k).map fun e => (e.touchedBy r true).judgedAfresh

/-- The slots whose lots the record's removal closes. -/
def State.endedWith (s : State) (r : Record) : List (Fin 16) := if r.lot = 255 then [] else s.endedBy r true

theorem takeOut_withTrack (s : State) (tag : Tag) : s.takeOut tag = s.withTrack (s.takeOut tag) := rfl

/-- What the removal leaves: the entries, the closures, the train, and the stacks of the lots that close. -/
theorem removeRecord_leaves (hcause : cause = .cleared ∨ cause = .departed) (s : State) (r : Record) :
    (∀ k, (s.removeRecord r cause none).lotSlot k = s.slotWithout r k) ∧
      (s.removeRecord r cause none).closureList = s.closureList ++ s.endedWith r ∧
      s.removeRecord r cause none =
        ((s.endedWith r).foldl (fun u k => s.lotEndOf k u) s).withTrack (s.removeRecord r cause none) := by
  have out := takeOut_withTrack s r.tag
  have slots : ∀ k, (s.takeOut r.tag).lotSlot k = s.lotSlot k := fun _ => rfl
  have list : (s.takeOut r.tag).closureList = s.closureList := rfl
  have ended : (s.takeOut r.tag).endedBy r true = s.endedBy r true := rfl
  have ends : ∀ k u, (s.takeOut r.tag).lotEndOf k u = s.lotEndOf k u := fun _ _ => rfl
  rw [removeRecord_passed hcause]
  generalize s.takeOut r.tag = w at *
  unfold State.slotWithout State.endedWith
  by_cases hlot : r.lot = 255
  · have kept : w.lotRemove r true = w := if_pos hlot
    simp only [if_pos hlot]
    rw [kept, List.append_nil]
    exact ⟨slots, list, out⟩
  · obtain ⟨after, closures, beside⟩ := lotRemove_leaves w true hlot
    simp only [if_neg hlot]
    refine ⟨fun k => (after k).trans (by rw [slots]), by rw [closures, list, ended], ?_⟩
    have moved := lotEndsOf_withTrack s s w (s.endedBy r true)
    simp only [ends, ended] at beside
    rw [← out] at moved
    rw [moved] at beside
    exact beside

/-! #### The stacks of the lots that close -/

theorem lotEndsOf_eq (h : u.besideLots = s.besideLots) (hrev : s.travelA.reverse = false) (ks : List (Fin 16)) :
    ks.foldl (fun u k => s.lotEndOf k u) u = ks.foldl (fun u k => (List.finRange 4).foldl (fun u j =>
        if 0 < (u.dest j).set.stackSize ∧ (s.lotSlot k).map (·.lot) = some (u.dest j).stackLot ∧ 0 < (u.dest j).count then
          s.stackClosed .lotEnd u j
        else u) u) u := by
  refine (foldl_congr_kept (P := fun u => State.besideLots u = s.besideLots) (fun u k hu => ?_) h).1
  unfold State.lotEndOf
  cases s.lotSlot k with
  | none =>
    refine ⟨(List.foldl_fixed' (fun j => if_neg (by simp)) _).symm, hu⟩
  | some e => exact lotEnd_eq hu hrev e.lot

theorem lotEndsOf_idle (h : ∀ j, (s.dest j).count = 0) (ks : List (Fin 16)) (v : State) :
    ks.foldl (fun u k => v.lotEndOf k u) s = s := by
  refine List.foldl_fixed' (fun k => ?_) _
  unfold State.lotEndOf
  split
  · exact List.foldl_fixed' (fun j => if_neg (by simp [h])) _
  · rfl

theorem countIntoStack_withTrack (s v : State) (d : DestIx) (lot : Lot) :
    (s.withTrack v).countIntoStack d lot = (s.countIntoStack d lot).withTrack v := by
  unfold State.countIntoStack
  have same : ∀ u : State, (u.withTrack v).dest d = u.dest d := fun _ => rfl
  rw [same]
  split
  · rfl
  · have switched : (if 0 < (s.dest d).count ∧ (s.dest d).stackLot ≠ lot then (s.withTrack v).closeStack d .lotSwitch
        else s.withTrack v) = (if 0 < (s.dest d).count ∧ (s.dest d).stackLot ≠ lot then s.closeStack d .lotSwitch
        else s).withTrack v := by
      rw [closeStack_withTrack]
      split <;> rfl
    dsimp only
    rw [switched]
    generalize (if 0 < (s.dest d).count ∧ (s.dest d).stackLot ≠ lot then s.closeStack d .lotSwitch else s) = u
    have counted : (u.withTrack v).setDest d { (u.withTrack v).dest d with
        count := ((u.withTrack v).dest d).count + 1, stackLot := lot } =
          (u.setDest d { u.dest d with count := (u.dest d).count + 1, stackLot := lot }).withTrack v := rfl
    rw [counted, same, closeStack_withTrack]
    split <;> rfl

end Sys2Proof.Machine
end

section
namespace Sys2Proof.Machine

variable {s t u v : State} {r : Record} {tag : Tag} {k : Fin 16} {e : LotEntry} {d : DestIx} {cause : RemovalCause}

/-! ### O32: clearances and departures -/

theorem lotEndsOf_besideLots (s v : State) (ks : List (Fin 16)) :
    (ks.foldl (fun u k => v.lotEndOf k u) s).besideLots = s.besideLots := by
  refine List.foldlRecOn (motive := fun u : State => u.besideLots = s.besideLots) _ _ rfl fun u hu k _ => ?_
  unfold State.lotEndOf
  split
  · exact (besideLots_kept _).lotEnd hu _
  · exact hu

theorem endedWith_eq (s : State) (r : Record) : s.endedWith r = (List.finRange 16).filter fun k =>
    ((s.lotSlot k).any fun e => e.state != .closed) && (s.slotWithout r k).any fun e => e.state == .closed := by
  unfold State.endedWith State.slotWithout State.endedBy
  by_cases hlot : r.lot = 255
  · simp only [if_pos hlot]
    refine (List.filter_eq_nil_iff.mpr fun k _ => ?_).symm
    cases s.lotSlot k with
    | none => simp
    | some e => cases h : e.state <;> simp [h]
  · simp only [if_neg hlot]
    refine List.filter_congr fun k _ => ?_
    cases s.lotSlot k with
    | none => rfl
    | some e => exact Bool.and_comm _ _

/-- What a record that has passed leaves, from a state that differs in its stacks alone, and what follows it. -/
theorem passed_leaves (hp : s.PinsFollow) (hm : s.CauseMarked) (hcause : cause = .cleared ∨ cause = .departed)
    (hu : u.besideLots = s.besideLots) (htrack : u = u.withTrack s) (r : Record) :
    let z := (s.endedWith r).foldl (fun v k => s.lotEndOf k v) u
    let t := (u.removeRecord r cause none).refresh
    (∀ k, t.lotSlot k = s.slotWithout r k) ∧ t.closureList = s.closureList ++ s.endedWith r ∧
      t.train = s.train.filter (fun x => x.tag != r.tag) ∧ t.dests = z.dests ∧
      t.channels = (Vector.ofFn fun c => s.shown (z.channel c)) ∧
      t = { s with
        train := t.train, trainCause := t.trainCause, waiting := t.waiting, freshWindows := t.freshWindows
        lots := t.lots, closureList := t.closureList, dests := t.dests, channels := t.channels
        faults := z.faults, overflow := z.overflow, alertPin := t.alertPin } := by
  intro z t
  have slots : ∀ k, u.lotSlot k = s.lotSlot k := lotSlot_congr (by rw [htrack]; rfl)
  have list : u.closureList = s.closureList := by rw [htrack]; rfl
  have train : u.train = s.train := by rw [htrack]; rfl
  have ended : u.endedWith r = s.endedWith r := by
    unfold State.endedWith State.endedBy
    simp only [slots]
  have ends : ∀ k v, u.lotEndOf k v = s.lotEndOf k v := fun k v => by
    unfold State.lotEndOf
    rw [slots]
  have without : ∀ k, u.slotWithout r k = s.slotWithout r k := fun k => by
    unfold State.slotWithout
    rw [slots]
  obtain ⟨after, closures, beside⟩ := removeRecord_leaves hcause u r
  simp only [ended, ends] at beside
  have calm : s.Calmer u := by
    rw [besideLots_frame hu]
    exact calmer_of_view rfl (eyesCalmer_of_eyes rfl) id id id (Nat.le_refl _)
  have marked : u.CauseMarked := by
    rw [besideLots_frame hu]
    exact hm
  have quiet : cause.lostCode = none ∧ cause ≠ .wrap := by
    obtain rfl | rfl := hcause <;> exact ⟨rfl, by decide⟩
  have passes := removeRecord_passes marked quiet.1 quiet.2 r none
  have out := (removeRecord_removedAs u r cause none).train
  have outputs := (calm.trans passes.calmer).refresh_outputs hp
  have zframe : z = { s with
      channels := z.channels, dests := z.dests, lots := z.lots, closureList := z.closureList, faults := z.faults
      overflow := z.overflow } := besideLots_frame ((lotEndsOf_besideLots u s (s.endedWith r)).trans hu)
  change u.removeRecord r cause none = z.withTrack (u.removeRecord r cause none) at beside
  change t = _ at outputs
  clear_value t z
  generalize u.removeRecord r cause none = w at *
  have dests : w.dests = z.dests := (congrArg State.dests beside).trans rfl
  have channels : w.channels = z.channels := (congrArg State.channels beside).trans rfl
  have pulses : (Vector.ofFn fun c => s.shown (w.channel c)) = Vector.ofFn fun c => s.shown (z.channel c) := by
    unfold State.channel
    rw [channels]
  rw [pulses] at outputs
  generalize (Vector.ofFn fun c => s.shown (z.channel c)) = pulses at *
  subst outputs
  refine ⟨fun k => ?_, closures.trans (by rw [list, ended]), out.trans (by rw [train]), ?_, ?_, ?_⟩
  · exact (after k).trans (without k)
  · exact dests
  · rfl
  · rw [beside, zframe]
    rfl

end Sys2Proof.Machine
end

section
namespace Sys2Proof.Machine

variable {s t u v : State} {r : Record} {tag : Tag} {k : Fin 16} {e : LotEntry} {d : DestIx} {cause : RemovalCause}

theorem exec_cleared (h : s.dueRecord .clearance tag = some r) :
    exec (.cleared tag) s = .next (s.removeRecord r .cleared none).refresh := by
  have taken : s.onCleared tag = (s.removeRecord r .cleared none).refresh := by
    unfold State.onCleared State.takeEvent
    rw [h]
  exact congrArg Host.Outcome.next taken

theorem exec_departed (h : s.dueRecord .departure tag = some r) (hd : r.dest = some d) :
    exec (.departed tag) s = .next ((s.countIntoStack d r.lot).removeRecord r .departed none).refresh := by
  have taken : s.onDeparted tag = ((s.countIntoStack d r.lot).removeRecord r .departed none).refresh := by
    unfold State.onDeparted State.takeEvent State.depart
    rw [h]
    dsimp only
    rw [hd]
  exact congrArg Host.Outcome.next taken

theorem channel_of_channels {f : ChannelIx → Channel} (h : t.channels = Vector.ofFn f) (k : ChannelIx) : t.channel k = f k := by
  unfold State.channel
  rw [h]
  exact Vector.getElem_ofFn _

/-- Settles O32: what the removal leaves, with its stacks, and what follows it. -/
theorem recordsLeaveAtTheirPositions : Obligations.RecordsLeaveAtTheirPositions := by
  unfold Obligations.RecordsLeaveAtTheirPositions
  intro s tag r d hp ht _
  obtain ⟨-, -, -, -, -, marked, -⟩ := id ht
  intro after lotOf ended listed
  have without : ∀ k, s.slotWithout r k = lotOf k := fun k => by
    have each : (fun e : LotEntry => (e.touchedBy r true).judgedAfresh) = after := funext fun e => touchedAfresh_eq e r
    unfold State.slotWithout
    rw [each]
  have endeds : s.endedWith r = ended := (endedWith_eq s r).trans (List.filter_congr fun k _ => by rw [without])
  refine ⟨fun hdue => ?_, fun hdue hrev hd => ?_⟩
  · obtain ⟨-, htag⟩ := dueRecord_some hdue
    have gone := exec_cleared hdue
    obtain ⟨slots, list, train, dests, channels, frame⟩ := passed_leaves hp marked (.inl rfl) (u := s) rfl rfl r
    refine ⟨_, gone, ⟨fun k => (slots k).trans (without k), list.trans (by rw [endeds]), train.trans (by rw [htag])⟩, ?_,
      fun hidle => ?_⟩
    · generalize (s.endedWith r).foldl (fun v k => s.lotEndOf k v) s = z at *
      generalize (s.removeRecord r .cleared none).refresh = t at *
      rw [frame]
    · have still : (s.endedWith r).foldl (fun v k => s.lotEndOf k v) s = s := by
        obtain unknown | empty := hidle
        · rw [State.endedWith, if_pos unknown]
          rfl
        · exact lotEndsOf_idle empty _ s
      rw [still] at dests channels frame
      exact ⟨dests, channels.trans (shown_channels hp rfl), (congrArg State.faults frame).trans rfl,
        (congrArg State.overflow frame).trans rfl⟩
  · obtain ⟨-, htag⟩ := dueRecord_some hdue
    have gone := exec_departed hdue hd
    have kept : (s.countIntoStack d r.lot).besideLots = s.besideLots := (besideLots_kept _).countIntoStack rfl d r.lot
    obtain ⟨slots, list, train, dests, channels, frame⟩ := passed_leaves hp marked (.inr rfl) kept
      (countIntoStack_withTrack s s d r.lot) r
    intro now close size switched counted stacked z
    have taken : s.countIntoStack d r.lot = stacked := countIntoStack_eq hrev d r.lot
    have ends : (s.endedWith r).foldl (fun v k => s.lotEndOf k v) (s.countIntoStack d r.lot) = z := by
      rw [lotEndsOf_eq kept hrev, taken, endeds]
      rfl
    rw [ends] at dests channels frame
    refine ⟨_, gone, ⟨fun k => (slots k).trans (without k), list.trans (by rw [endeds]), train.trans (by rw [htag])⟩,
      fun k => ?_, fun k => ?_, ?_⟩
    · unfold State.dest
      rw [dests]
    · exact channel_of_channels channels k
    · clear_value z
      generalize ((s.countIntoStack d r.lot).removeRecord r .departed none).refresh = t at *
      rw [frame]

end Sys2Proof.Machine
end

section
namespace Sys2Proof.Machine

variable {s t : State} {tag : Tag}

/-! ### One waiting closure less (R84)

What an event does does not look at the set of the closures that wait. -/

theorem recordFault_stopWaiting (s : State) (tag : Tag) (f : FaultRecord) :
    (s.stopWaiting tag).recordFault f = (s.recordFault f).stopWaiting tag := by
  rw [recordFault_eq, recordFault_eq]
  rfl

theorem lotEnd_stopWaiting (s : State) (tag : Tag) (lot : Lot) :
    (s.stopWaiting tag).lotEnd lot = (s.lotEnd lot).stopWaiting tag := by
  have own := lotEnd_withTrack s s lot
  have other := lotEnd_withTrack s (s.stopWaiting tag) lot
  have self : s.withTrack s = s := rfl
  have stops : s.withTrack (s.stopWaiting tag) = s.stopWaiting tag := rfl
  rw [self] at own
  rw [stops] at other
  rw [other]
  generalize s.lotEnd lot = u at *
  rw [own]
  rfl

theorem countIntoStack_stopWaiting (s : State) (tag : Tag) (d : DestIx) (lot : Lot) :
    (s.stopWaiting tag).countIntoStack d lot = (s.countIntoStack d lot).stopWaiting tag := by
  have own := countIntoStack_withTrack s s d lot
  have other := countIntoStack_withTrack s (s.stopWaiting tag) d lot
  have self : s.withTrack s = s := rfl
  have stops : s.withTrack (s.stopWaiting tag) = s.stopWaiting tag := rfl
  rw [self] at own
  rw [stops] at other
  rw [other]
  generalize s.countIntoStack d lot = u at *
  rw [own]
  rfl

theorem judgeLots_stopWaiting (s : State) (tag : Tag) : (s.stopWaiting tag).judgeLots = s.judgeLots.stopWaiting tag := by
  refine List.foldl_hom (fun u : State => u.stopWaiting tag) fun u k => ?_
  have slot : (u.stopWaiting tag).lotSlot k = u.lotSlot k := rfl
  unfold State.judgeLot
  rw [slot]
  cases u.lotSlot k with
  | none => rfl
  | some e =>
    dsimp only
    split
    · exact lotEnd_stopWaiting { u.setLotSlot k (some { e with state := .closed, noticeUnread := true }) with
        closureList := u.closureList ++ [k] } tag e.lot
    · rfl

theorem lotRemove_stopWaiting (s : State) (tag : Tag) (r : Record) (passed : Bool) :
    (s.stopWaiting tag).lotRemove r passed = (s.lotRemove r passed).stopWaiting tag := by
  unfold State.lotRemove
  split
  · rfl
  · rw [← judgeLots_stopWaiting]
    refine congrArg State.judgeLots ?_
    exact List.foldl_hom (fun u : State => u.stopWaiting tag) fun u k => rfl

theorem offer_stopWaiting (s : State) (tag : Tag) (f : Frame) (p : Pos) :
    (s.stopWaiting tag).offer f p = (s.offer f p).map fun u => u.stopWaiting tag := by
  unfold State.offer
  have room : (s.stopWaiting tag).roomFor f = s.roomFor f := rfl
  rw [room]
  split <;> rfl

theorem offerOrDrop_stopWaiting (s : State) (tag : Tag) (f : Frame) (x : Tag) :
    (s.stopWaiting tag).offerOrDrop f x = (s.offerOrDrop f x).stopWaiting tag := by
  unfold State.offerOrDrop
  rw [offer_stopWaiting]
  cases s.offer f with
  | none => exact recordFault_stopWaiting s tag _
  | some u => rfl

theorem removeRecord_stopWaiting (s : State) (tag : Tag) (r : Record) (cause : RemovalCause) (unit : Option FaultUnit) :
    (s.stopWaiting tag).removeRecord r cause unit = (s.removeRecord r cause unit).stopWaiting tag := by
  have out : (s.stopWaiting tag).takeOut r.tag = (s.takeOut r.tag).stopWaiting tag := by
    have both : ((s.waiting.filter fun w => w.tag != tag).filter fun w => w.tag != r.tag) =
        (s.waiting.filter fun w => w.tag != r.tag).filter fun w => w.tag != tag := List.filter_comm ..
    exact congrArg (fun l => { s.takeOut r.tag with waiting := l }) both
  have lost : ∀ u : State, (u.stopWaiting tag).queueLost r.tag cause = (u.queueLost r.tag cause).stopWaiting tag :=
    fun u => by
      unfold State.queueLost
      split
      · exact offerOrDrop_stopWaiting u tag _ _
      · rfl
  have fault : ∀ u : State, (u.stopWaiting tag).removalFault r cause unit = (u.removalFault r cause unit).stopWaiting tag :=
    fun u => by
      unfold State.removalFault
      split
      · exact recordFault_stopWaiting u tag _
      · rfl
  have alarm : ∀ u : State, (u.stopWaiting tag).alarmAt cause = (u.alarmAt cause).stopWaiting tag := fun u => by
    unfold State.alarmAt
    split <;> rfl
  unfold State.removeRecord
  dsimp only
  rw [out, lotRemove_stopWaiting, lost, fault, alarm]

/-! #### What follows an event -/

theorem queueWithdraw_stopWaiting (s : State) (tag : Tag) (g : GateIx) :
    (s.stopWaiting tag).queueWithdraw g = (s.queueWithdraw g).stopWaiting tag := by
  unfold State.queueWithdraw
  rw [offer_stopWaiting]
  cases s.offer (.withdraw g) <;> rfl

theorem withdrawEntry_stopWaiting (s : State) (tag : Tag) (g : GateIx) :
    (s.stopWaiting tag).withdrawEntry g = (s.withdrawEntry g).stopWaiting tag := by
  have own : (s.stopWaiting tag).ownReservation g = s.ownReservation g := rfl
  unfold State.withdrawEntry
  rw [own]
  cases s.ownReservation g with
  | none => rfl
  | some r =>
    dsimp only
    cases r.phase with
    | queued => rfl
    | standing => exact queueWithdraw_stopWaiting (s.dropOwn g) tag g

theorem refresh_stopWaiting (s : State) (tag : Tag) : (s.stopWaiting tag).refresh = s.refresh.stopWaiting tag := by
  have withdrawn : ∀ u : State, (u.stopWaiting tag).withdrawSuspended = u.withdrawSuspended.stopWaiting tag := fun u => by
    have same : (u.stopWaiting tag).suspended = u.suspended := rfl
    unfold State.withdrawSuspended
    rw [same]
    exact List.foldl_hom (fun u : State => u.stopWaiting tag) fun u g => withdrawEntry_stopWaiting u tag g
  have outputs : ∀ u : State, (u.stopWaiting tag).outputsAfresh = u.outputsAfresh.stopWaiting tag := fun u => by
    rw [outputsAfresh_eq, outputsAfresh_eq]
    rfl
  have alert : ∀ u : State, (u.stopWaiting tag).alertAfresh = u.alertAfresh.stopWaiting tag := fun _ => rfl
  unfold State.refresh
  rw [withdrawn, withdrawn, outputs, alert]

end Sys2Proof.Machine
end

section
namespace Sys2Proof.Machine

variable {s s' t t' : State} {tag : Tag} {k : Checkpoint} {lane : Lane} {v : State} {r : Record}

/-! ### Two runs beside each other (R84)

One with a waiting closure and one without it: they do the same, and the closure stops waiting only when its record is
out of the train or past the checkpoint. -/

/-- The stages at which a record awaits the leading edge of a checkpoint (R81). -/
def Checkpoint.awaited : Checkpoint → Stage → Bool
  | .exit, y => y == .inside || y == .entering
  | _, y => y == .pending

theorem awaited_past (k : Checkpoint) : (k ≠ .exit → k.awaited .entering = false) ∧ k.awaited .leaving = false := by
  cases k <;> decide

/-- The closure of a tag waits, and its record awaits its edge at checkpoint k on its lane. -/
structure State.Awaits (s : State) (tag : Tag) (k : Checkpoint) (lane : Lane) : Prop where
  waits : ∃ w ∈ s.waiting, w.tag = tag
  stands : ∃ x ∈ s.train, x.tag = tag
  stage : ∀ x ∈ s.train, x.tag = tag → k.awaited x.stage = true ∧ x.lane = lane

/-- The closure of a tag waits no more, and its record is out of the train or past the checkpoint. -/
structure State.MovedPast (s : State) (tag : Tag) (k : Checkpoint) : Prop where
  waits : ∀ w ∈ s.waiting, w.tag ≠ tag
  stage : ∀ x ∈ s.train, x.tag = tag → k.awaited x.stage = false

/-- s' is s without the waiting closure of a tag; from v on no closure has come to wait and no eye has changed. -/
structure Alongside (tag : Tag) (k : Checkpoint) (lane : Lane) (v s s' : State) : Prop where
  same : s' = s.stopWaiting tag
  eyes : s.eyes = v.eyes
  sub : s.waiting.Sublist v.waiting
  place : s.Awaits tag k lane ∨ s.MovedPast tag k

namespace Alongside

/-- What is read of both is the same, where it does not look at the waiting closures. -/
theorem read {α : Type} (h : Alongside tag k lane v s s') (f : State → α) (hf : ∀ u : State, f (u.stopWaiting tag) = f u) :
    f s' = f s := by
  rw [h.same, hf]

/-- A change that leaves the waiting closures, and every record its tag, its stage and its lane. -/
theorem kept (h : Alongside tag k lane v s s') (hsame : t' = t.stopWaiting tag) (heyes : t.eyes = s.eyes)
    (hwaiting : t.waiting = s.waiting)
    (htrain : ∀ x ∈ t.train, ∃ y ∈ s.train, y.tag = x.tag ∧ y.stage = x.stage ∧ y.lane = x.lane)
    (hstands : ∀ y ∈ s.train, ∃ x ∈ t.train, x.tag = y.tag) : Alongside tag k lane v t t' := by
  obtain ⟨-, eyes, sub, place⟩ := h
  refine ⟨hsame, heyes.trans eyes, hwaiting ▸ sub, place.imp (fun ⟨waits, ⟨y, hy, hytag⟩, stage⟩ => ?_) fun ⟨waits, stage⟩ => ?_⟩
  · obtain ⟨x, hx, hxtag⟩ := hstands y hy
    refine ⟨hwaiting ▸ waits, ⟨x, hx, hxtag.trans hytag⟩, fun z hz hztag => ?_⟩
    obtain ⟨v, hv, hvtag, hvstage, hvlane⟩ := htrain z hz
    rw [← hvstage, ← hvlane]
    exact stage v hv (hvtag.trans hztag)
  · refine ⟨hwaiting ▸ waits, fun z hz hztag => ?_⟩
    obtain ⟨v, hv, hvtag, hvstage, -⟩ := htrain z hz
    rw [← hvstage]
    exact stage v hv (hvtag.trans hztag)

/-- A change beside the train and the waiting closures. -/
theorem aside (h : Alongside tag k lane v s s') (hsame : t' = t.stopWaiting tag) (heyes : t.eyes = s.eyes)
    (hwaiting : t.waiting = s.waiting) (htrain : t.train = s.train) : Alongside tag k lane v t t' :=
  h.kept hsame heyes hwaiting (fun x hx => ⟨x, htrain ▸ hx, rfl, rfl, rfl⟩) fun y hy => ⟨y, htrain ▸ hy, rfl⟩

theorem recordFault (h : Alongside tag k lane v s s') (f : FaultRecord) : Alongside tag k lane v (s.recordFault f) (s'.recordFault f) := by
  refine h.aside ?_ ?_ ?_ ?_
  · rw [h.same, recordFault_stopWaiting]
  · rw [recordFault_eq]
  · rw [recordFault_eq]
  · rw [recordFault_eq]

theorem refresh (h : Alongside tag k lane v s s') : Alongside tag k lane v s.refresh s'.refresh := by
  refine h.aside ?_ ?_ ?_ (refresh_train s)
  · rw [h.same, refresh_stopWaiting]
  · rw [refresh_frame]
  · rw [refresh_frame]

theorem setChannel (h : Alongside tag k lane v s s') (c : ChannelIx) (x : Channel) :
    Alongside tag k lane v (s.setChannel c x) (s'.setChannel c x) := by
  refine h.aside ?_ rfl rfl rfl
  rw [h.same]
  rfl

theorem updateRecord (h : Alongside tag k lane v s s') (x : Tag) (f : Record → Record)
    (hf : ∀ y, (f y).tag = y.tag ∧ (f y).stage = y.stage ∧ (f y).lane = y.lane) :
    Alongside tag k lane v (s.updateRecord x f) (s'.updateRecord x f) := by
  have each : ∀ y : Record, (if y.tag == x then f y else y).tag = y.tag ∧ (if y.tag == x then f y else y).stage = y.stage ∧
      (if y.tag == x then f y else y).lane = y.lane := fun y => by
    split
    · exact hf y
    · exact ⟨rfl, rfl, rfl⟩
  refine h.kept ?_ rfl rfl (fun y hy => ?_) fun y hy => ⟨_, List.mem_map_of_mem hy, (each y).1⟩
  · rw [h.same]
    rfl
  · obtain ⟨z, hz, rfl⟩ := List.mem_map.mp hy
    obtain ⟨htag, hstage, hlane⟩ := each z
    exact ⟨z, hz, htag.symm, hstage.symm, hlane.symm⟩

theorem markFresh (h : Alongside tag k lane v s s') (x : Tag) : Alongside tag k lane v (s.markFresh x) (s'.markFresh x) := by
  refine h.aside ?_ rfl rfl rfl
  rw [h.same]
  rfl

/-- Where a tag is another's, neither its waiting closure nor its records change. -/
theorem others (h : Alongside tag k lane v s s') (hsame : t' = t.stopWaiting tag) (heyes : t.eyes = s.eyes)
    (hsub : t.waiting.Sublist s.waiting) (hwaiting : ∀ w ∈ s.waiting, w.tag = tag → w ∈ t.waiting) (htrain : ∀ x, x.tag = tag → (x ∈ t.train ↔ x ∈ s.train)) :
    Alongside tag k lane v t t' := by
  obtain ⟨-, eyes, sub, place⟩ := h
  refine ⟨hsame, heyes.trans eyes, hsub.trans sub, place.imp (fun ⟨⟨w, hw, hwtag⟩, ⟨y, hy, hytag⟩, stage⟩ => ?_) fun ⟨waits, stage⟩ => ?_⟩
  · exact ⟨⟨w, hwaiting w hw hwtag, hwtag⟩, ⟨y, (htrain y hytag).mpr hy, hytag⟩,
      fun x hx hxtag => stage x ((htrain x hxtag).mp hx) hxtag⟩
  · exact ⟨fun w hw => waits w (hsub.subset hw), fun x hx hxtag => stage x ((htrain x hxtag).mp hx) hxtag⟩

theorem mem_replaced {x : Record} (hr : r.tag ≠ x.tag) : x ∈ (s.replaceRecord r).train ↔ x ∈ s.train := by
  unfold State.replaceRecord
  rw [mem_insertRecord, List.mem_filter]
  constructor
  · rintro (rfl | ⟨hx, -⟩)
    · exact absurd rfl hr
    · exact hx
  · exact fun hx => .inr ⟨hx, by simpa using hr.symm⟩

/-- A record set at a stage past the checkpoint, where its closure waits no more. -/
theorem replaceRecord (h : Alongside tag k lane v s s') (r : Record) (hr : r.tag = tag → k.awaited r.stage = false)
    (hwaits : (∃ w ∈ s.waiting, w.tag = tag) → r.tag ≠ tag) :
    Alongside tag k lane v (s.replaceRecord r) (s'.replaceRecord r) := by
  have same : s'.replaceRecord r = (s.replaceRecord r).stopWaiting tag := by
    rw [h.same]
    rfl
  by_cases hrt : r.tag = tag
  · obtain ⟨-, eyes, sub, ⟨waits, -, -⟩ | ⟨waits, stage⟩⟩ := h
    · exact absurd hrt (hwaits waits)
    · refine ⟨same, eyes, sub, .inr ⟨waits, fun x hx htag => ?_⟩⟩
      obtain rfl | hx := mem_insertRecord.mp hx
      · exact hr htag
      · exact stage x (List.mem_of_mem_filter hx) htag
  · exact h.others same rfl (List.Sublist.refl _) (fun _ hw _ => hw) fun x hx => mem_replaced (by rw [hx]; exact hrt)

theorem stopWaiting_twice (s : State) (x y : Tag) :
    (s.stopWaiting x).stopWaiting y = (s.stopWaiting y).stopWaiting x :=
  congrArg (fun l => { s with waiting := l }) (List.filter_comm ..)

theorem mem_stopWaiting {w : Waiting} {x : Tag} (h : w ∈ s.waiting) (hx : w.tag ≠ x) : w ∈ (s.stopWaiting x).waiting :=
  List.mem_filter.mpr ⟨h, by simpa using hx⟩

/-- A record that stops waiting as it moves past the checkpoint. -/
theorem moved (h : Alongside tag k lane v s s') (r : Record) (hr : r.tag = tag → k.awaited r.stage = false) :
    Alongside tag k lane v ((s.stopWaiting r.tag).replaceRecord r) ((s'.stopWaiting r.tag).replaceRecord r) := by
  have same : (s'.stopWaiting r.tag).replaceRecord r = ((s.stopWaiting r.tag).replaceRecord r).stopWaiting tag := by
    rw [h.same, stopWaiting_twice]
    rfl
  by_cases hrt : r.tag = tag
  · refine ⟨same, h.eyes, List.filter_sublist.trans h.sub, .inr ⟨fun w hw => ?_, fun x hx htag => ?_⟩⟩
    · have := (List.mem_filter.mp hw).2
      rw [← hrt]
      simpa using this
    · obtain rfl | hx := mem_insertRecord.mp hx
      · exact hr htag
      · have := (List.mem_filter.mp hx).2
        simp [htag, hrt] at this
  · exact h.others same rfl List.filter_sublist (fun w hw htag => mem_stopWaiting hw (by rw [htag]; exact Ne.symm hrt))
      fun x hx => mem_replaced (s := s.stopWaiting r.tag) (by rw [hx]; exact hrt)

theorem removeRecord (h : Alongside tag k lane v s s') (r : Record) (cause : RemovalCause) (unit : Option FaultUnit) :
    Alongside tag k lane v (s.removeRecord r cause unit) (s'.removeRecord r cause unit) := by
  have removed := removeRecord_removedAs s r cause unit
  have train := removed.train
  have waiting : (s.removeRecord r cause unit).waiting = s.waiting.filter fun w => w.tag != r.tag := by
    rw [besideRemoval_frame removed.beside]
    rfl
  have eyes : (s.removeRecord r cause unit).eyes = s.eyes := by rw [removed.frame]
  have same : s'.removeRecord r cause unit = (s.removeRecord r cause unit).stopWaiting tag := by
    rw [h.same, removeRecord_stopWaiting]
  by_cases hrt : r.tag = tag
  · refine ⟨same, eyes.trans h.eyes, waiting ▸ List.filter_sublist.trans h.sub, .inr ⟨fun w hw => ?_, fun x hx htag => ?_⟩⟩
    · rw [waiting] at hw
      rw [← hrt]
      simpa using (List.mem_filter.mp hw).2
    · rw [train] at hx
      have := (List.mem_filter.mp hx).2
      simp [htag, hrt] at this
  · refine h.others same eyes (waiting ▸ List.filter_sublist) (fun w hw htag => ?_) fun x hx => ?_
    · rw [waiting]
      exact List.mem_filter.mpr ⟨hw, by simpa [htag] using Ne.symm hrt⟩
    · rw [train, List.mem_filter]
      exact and_iff_left (by simpa [hx] using Ne.symm hrt)

theorem countIntoStack (h : Alongside tag k lane v s s') (d : DestIx) (lot : Lot) :
    Alongside tag k lane v (s.countIntoStack d lot) (s'.countIntoStack d lot) := by
  have frame := besideLots_frame ((besideLots_kept s.besideLots).countIntoStack rfl d lot)
  refine h.aside ?_ ?_ ?_ ?_
  · rw [h.same, countIntoStack_stopWaiting]
  · rw [frame]
  · rw [frame]
  · rw [frame]

theorem offerOrDrop (h : Alongside tag k lane v s s') (f : Frame) (x : Tag) :
    Alongside tag k lane v (s.offerOrDrop f x) (s'.offerOrDrop f x) := by
  have kept : (s.offerOrDrop f x).eyes = s.eyes ∧ (s.offerOrDrop f x).waiting = s.waiting ∧
      (s.offerOrDrop f x).train = s.train := by
    unfold State.offerOrDrop
    obtain ⟨-, ho⟩ | ⟨-, ho⟩ := offer_cases s f 0 <;> rw [ho]
    · exact ⟨rfl, rfl, rfl⟩
    · unfold State.txOverrun
      rw [recordFault_eq]
      exact ⟨rfl, rfl, rfl⟩
  obtain ⟨eyes, waiting, train⟩ := kept
  exact h.aside (by rw [h.same, offerOrDrop_stopWaiting]) eyes waiting train

end Alongside

end Sys2Proof.Machine
end

section
namespace Sys2Proof.Machine

variable {s s' t t' : State} {tag : Tag} {k j : Checkpoint} {lane : Lane} {v : State} {r : Record}

namespace Alongside

/-! ### The matcher's operations in both runs -/

theorem findRecord (h : Alongside tag k lane v s s') (x : Tag) : s'.findRecord x = s.findRecord x :=
  h.read (fun u => u.findRecord x) fun _ => rfl

theorem divertFault (h : Alongside tag k lane v s s') (kind : FaultKind) (r : Record) (d : DestIx) :
    Alongside tag k lane v (s.divertFault kind r d) (s'.divertFault kind r d) := by
  unfold State.divertFault
  rw [h.read (fun u => u.pos .a) fun _ => rfl]
  exact h.recordFault _

theorem clearIfPassed (h : Alongside tag k lane v s s') (x : Tag) : Alongside tag k lane v (s.clearIfPassed x) (s'.clearIfPassed x) := by
  unfold State.clearIfPassed
  rw [h.findRecord]
  cases s.findRecord x with
  | none => exact h
  | some r =>
    dsimp only
    rw [h.read State.role fun _ => rfl, h.read (fun u => u.pos .a) fun _ => rfl,
      h.read (fun u => u.clearanceAt r) fun _ => rfl]
    split
    · exact h.removeRecord r .cleared none
    · exact h

theorem clearIfMoved (h : Alongside tag k lane v s s') (r : Record) : Alongside tag k lane v (s.clearIfMoved r) (s'.clearIfMoved r) := by
  unfold State.clearIfMoved
  rw [h.findRecord]
  cases s.findRecord r.tag with
  | none => exact h
  | some y =>
    dsimp only
    rw [h.read State.clearanceAt fun _ => rfl]
    split
    · exact h
    · exact h.clearIfPassed r.tag

theorem depart (h : Alongside tag k lane v s s') (r : Record) : Alongside tag k lane v (s.depart r) (s'.depart r) := by
  unfold State.depart
  cases r.dest with
  | none => exact h
  | some d => exact (h.countIntoStack d r.lot).removeRecord r .departed none

theorem departIfPassed (h : Alongside tag k lane v s s') (x : Tag) : Alongside tag k lane v (s.departIfPassed x) (s'.departIfPassed x) := by
  unfold State.departIfPassed
  rw [h.findRecord]
  cases s.findRecord x with
  | none => exact h
  | some r =>
    dsimp only
    rw [h.read State.role fun _ => rfl, h.read (fun u => u.pos .a) fun _ => rfl,
      h.read (fun u => u.departureAt r) fun _ => rfl]
    cases s.departureAt r with
    | none => exact h
    | some p =>
      dsimp only
      split
      · exact h.depart r
      · exact h

theorem departIfMoved (h : Alongside tag k lane v s s') (r : Record) : Alongside tag k lane v (s.departIfMoved r) (s'.departIfMoved r) := by
  unfold State.departIfMoved
  rw [h.findRecord]
  cases s.findRecord r.tag with
  | none => exact h
  | some y =>
    dsimp only
    rw [h.read State.departureAt fun _ => rfl]
    split
    · exact h
    · exact h.departIfPassed r.tag

theorem requestDivert (h : Alongside tag k lane v s s') (r : Record) (p : Pos) (d : DestIx) :
    Alongside tag k lane v (s.requestDivert r p d) (s'.requestDivert r p d) := by
  unfold State.requestDivert
  dsimp only
  rw [h.read (fun u => u.dest d) fun _ => rfl]
  cases (s.dest d).set.divert with
  | none => exact h
  | some c =>
    dsimp only
    unfold State.request
    rw [h.read (fun u => u.channel c) fun _ => rfl, h.read State.pos fun _ => rfl]
    dsimp only
    generalize (s.channel c).request (s.pos (s.channel c).input) (Pos.plus p (((s.dest d).set.xd : Int) - (s.dest d).set.mb))
      (Pos.plus p ((s.dest d).set.xd + r.nominalUsed + (s.dest d).set.ma)) (some r.tag) = q
    have asked := h.setChannel c q.1
    have rejected := asked.updateRecord r.tag (fun x => { x with dest := some 0 }) fun _ => ⟨rfl, rfl, rfl⟩
    cases q.2 with
    | late => exact asked.divertFault .lateDivert r d
    | tooLate => exact rejected.divertFault .lateDivert r d
    | busy => exact rejected.divertFault .divertBusy r d
    | _ => exact asked

theorem route (h : Alongside tag k lane v s s') (x : Tag) : Alongside tag k lane v (s.route x) (s'.route x) := by
  unfold State.route
  rw [h.read State.outletWaits fun _ => rfl, h.findRecord]
  split
  · exact h
  · cases s.findRecord x with
    | none => exact h
    | some r =>
      dsimp only
      cases r.lead with
      | none => exact h
      | some p =>
        dsimp only
        rw [h.read (fun u => u.routeOf r) fun _ => rfl]
        exact ((h.updateRecord x (fun y => { y with dest := some (s.routeOf r) }) fun _ => ⟨rfl, rfl, rfl⟩).requestDivert r p
          (s.routeOf r)).departIfPassed x

theorem extendDivert (h : Alongside tag k lane v s s') (r : Record) (m : Nat) :
    Alongside tag k lane v (s.extendDivert r m) (s'.extendDivert r m) := by
  unfold State.extendDivert
  cases r.dest with
  | none => exact h
  | some d =>
    cases r.lead with
    | none => exact h
    | some p =>
      dsimp only
      rw [h.read (fun u => u.dest d) fun _ => rfl]
      split
      · cases (s.dest d).set.divert with
        | none => exact h
        | some c =>
          dsimp only
          unfold State.extend
          rw [h.read (fun u => u.channel c) fun _ => rfl]
          generalize (s.channel c).extend r.tag (Pos.plus p ((s.dest d).set.xd + m + (s.dest d).set.ma)) = q
          have asked := h.setChannel c q.1
          dsimp only
          cases q.2 with
          | gone => exact asked.divertFault .lateDivert r d
          | _ => exact asked
      · exact h

/-! #### The exit -/

theorem queueHandoff (h : Alongside tag k lane v s s') (r : Record) : Alongside tag k lane v (s.queueHandoff r) (s'.queueHandoff r) := by
  unfold State.queueHandoff
  rw [h.same, offer_stopWaiting]
  obtain ⟨-, ho⟩ | ⟨-, ho⟩ := offer_cases s (.handoff (handoffFrame r)) (r.lead.getD 0) <;> rw [ho]
  · exact h.aside rfl rfl rfl rfl
  · have spent : Alongside tag k lane v { s with passageSeq := s.passageSeq + 1 }
        (State.stopWaiting { s with passageSeq := s.passageSeq + 1 } tag) := h.aside rfl rfl rfl rfl
    exact spent.recordFault _

theorem slipLesson (h : Alongside tag k lane v s s') (r : Record) (p : Pos) :
    Alongside tag k lane v (s.slipLesson r p) (s'.slipLesson r p) := by
  have kept : (s.slipLesson r p).eyes = s.eyes ∧ (s.slipLesson r p).waiting = s.waiting ∧
      (s.slipLesson r p).train = s.train := by
    unfold State.slipLesson
    split
    · split <;> exact ⟨rfl, rfl, rfl⟩
    · exact ⟨rfl, rfl, rfl⟩
  obtain ⟨eyes, waiting, train⟩ := kept
  refine h.aside ?_ eyes waiting train
  rw [h.same]
  unfold State.slipLesson
  have ironer : (s.stopWaiting tag).ironer = s.ironer := rfl
  rw [ironer]
  split
  · split <;> rfl
  · rfl

theorem takeExitReject (h : Alongside tag k lane v s s') (x : Tag) : Alongside tag k lane v (s.takeExitReject x) (s'.takeExitReject x) := by
  unfold State.takeExitReject
  rw [h.read State.exitRejectNext fun _ => rfl]
  split
  · have marked := h.updateRecord x Record.reject fun _ => ⟨rfl, rfl, rfl⟩
    exact marked.aside (by rw [State.markReject, marked.same]; rfl) rfl rfl rfl
  · exact h

theorem exitSteps (h : Alongside tag k lane v s s') (x : Tag) (captured : Option Pos) :
    Alongside tag k lane v (s.exitSteps x captured) (s'.exitSteps x captured) := by
  have first := h.takeExitReject x
  unfold State.exitSteps
  dsimp only
  rw [first.findRecord]
  cases (s.takeExitReject x).findRecord x with
  | none => exact first
  | some r =>
    cases captured with
    | none => exact first.queueHandoff r
    | some p => exact (first.queueHandoff r).slipLesson r p

/-! #### Leading edges -/

/-- A record moved on at a checkpoint is past it. -/
theorem advanceLead (h : Alongside tag k lane v s s')
    (hr : r.tag = tag → (j ≠ .exit → k.awaited .entering = false) ∧ k.awaited .leaving = false) (p b : Pos) (captured : Bool) :
    Alongside tag k lane v (s.advanceLead r j p b captured) (s'.advanceLead r j p b captured) := by
  have offset : ∀ j, s'.offsetAt j r.lane = s.offsetAt j r.lane := fun j => h.read (fun u => u.offsetAt j r.lane) fun _ => rfl
  unfold State.advanceLead
  dsimp only
  cases j with
  | feed =>
    have entering : r.tag = tag → k.awaited .entering = false := fun hrt => (hr hrt).1 (by decide)
    dsimp only
    rw [offset]
    exact (h.moved { r with stage := .entering, lead := some p, p := Pos.plus p (-s.offsetAt .feed r.lane) }
      entering).clearIfMoved r
  | entry =>
    have entering : r.tag = tag → k.awaited .entering = false := fun hrt => (hr hrt).1 (by decide)
    have rebased : (s'.stopWaiting r.tag).rebased = (s.stopWaiting r.tag).rebased :=
      h.read (fun u => (u.stopWaiting r.tag).rebased) fun _ => rfl
    dsimp only
    rw [rebased]
    exact (h.moved ((s.stopWaiting r.tag).rebased r b .entering) entering).markFresh r.tag
  | exit =>
    dsimp only
    rw [offset]
    exact (h.moved { r with stage := .leaving, lead := some p, p := Pos.plus p (-s.offsetAt .exit r.lane) }
      fun hrt => (hr hrt).2).exitSteps r.tag _
  | outlet =>
    have entering : r.tag = tag → k.awaited .entering = false := fun hrt => (hr hrt).1 (by decide)
    dsimp only
    rw [offset]
    exact (h.moved { r with stage := .entering, lead := some p, p := Pos.plus p (-s.offsetAt .outlet r.lane) }
      entering).route r.tag

end Alongside

end Sys2Proof.Machine
end

section
namespace Sys2Proof.Machine

variable {s s' t t' : State} {tag : Tag} {k : Checkpoint} {lane : Lane} {v : State} {r : Record} {x : Edge}

namespace Alongside

/-! ### An edge in both runs -/

/-- A new record, of a tag the train does not hold and at a stage past the checkpoint. -/
theorem addRecord (h : Alongside tag k lane v s s') (r : Record) (hfresh : ∀ x ∈ s.train, x.tag ≠ r.tag)
    (hr : k.awaited r.stage = false) : Alongside tag k lane v (s.addRecord r) (s'.addRecord r) := by
  obtain ⟨rfl, eyes, sub, place⟩ := h
  have members : ∀ x, x ∈ (s.addRecord r).train ↔ x = { r with order := s.admissions } ∨ x ∈ s.train := fun x => mem_insertRecord
  refine ⟨rfl, eyes, sub, place.imp (fun ⟨waits, ⟨y, hy, hytag⟩, stage⟩ => ?_) fun ⟨waits, stage⟩ => ⟨waits, fun x hx htag => ?_⟩⟩
  · refine ⟨waits, ⟨y, (members y).mpr (.inr hy), hytag⟩, fun x hx htag => ?_⟩
    obtain rfl | hx := (members x).mp hx
    · exact absurd (hytag.trans htag.symm) (hfresh y hy)
    · exact stage x hx htag
  · obtain rfl | hx := (members x).mp hx
    · exact hr
    · exact stage x hx htag

theorem stray (h : Alongside tag k lane v s s') (x : Edge) : Alongside tag k lane v (s.stray k x) (s'.stray k x) := by
  unfold State.stray
  rw [h.read (fun u => u.capture x) fun _ => rfl, h.read (fun u => u.eye x.eye) fun _ => rfl,
    h.read State.trainFull fun _ => rfl, h.read (fun u => u.pos .a) fun _ => rfl, h.read State.watch fun _ => rfl]
  dsimp only
  split
  · exact h.recordFault _
  · rename_i hk
    split
    · exact h.recordFault _
    · rename_i hfull
      have short : s.train.length < Config.trainCapacity := by
        simpa [State.trainFull] using hfull
      have free : ∀ y ∈ s.train, y.tag ≠ s.allocate.1 := freeSerial_free s.train s.ownAddress s.serial short
      have allocated : s'.allocate = (s.allocate.1, s.allocate.2.stopWaiting tag) := by
        rw [h.same]
        rfl
      rw [allocated]
      dsimp only
      have made : Alongside tag k lane v s.allocate.2 (s.allocate.2.stopWaiting tag) := h.aside rfl rfl rfl rfl
      have held : ∀ y ∈ s.allocate.2.train, y.tag ≠ s.allocate.1 := free
      generalize s.allocate.2 = a at *
      generalize s.allocate.1 = own at *
      generalize creditIndex s.watch = credit
      have spent : Alongside tag k lane v (a.spendCredit credit) ((a.stopWaiting tag).spendCredit credit) := by
        cases credit with
        | none => exact made
        | some i => exact made.aside rfl rfl rfl rfl
      have fresh : ∀ y ∈ (a.spendCredit credit).train, y.tag ≠ own := by
        cases credit <;> exact held
      generalize a.spendCredit credit = b at *
      generalize (a.stopWaiting tag).spendCredit credit = b' at *
      generalize ({ recovered := credit.isSome, stray := credit.isNone } : Flags) = flags
      have record : b'.strayRecord own flags k x = b.strayRecord own flags k x :=
        spent.read (fun u => u.strayRecord own flags k x) fun _ => rfl
      have named : (b.strayRecord own flags k x).tag = own := by
        cases k <;> rfl
      have stage : k.awaited (b.strayRecord own flags k x).stage = false := by
        cases k with
        | exit => exact absurd rfl hk
        | _ => rfl
      rw [record, handToLots_unknown, handToLots_unknown]
      have added := (spent.addRecord (b.strayRecord own flags k x) (by rw [named]; exact fresh) stage).markFresh own
      cases credit with
      | none =>
        cases k with
        | feed => exact (added.recordFault _).clearIfPassed own
        | outlet => exact (added.recordFault _).route own
        | _ => exact added.recordFault _
      | some i =>
        cases k with
        | feed => exact added.clearIfPassed own
        | outlet => exact added.route own
        | _ => exact added

theorem leadingEdge (h : Alongside tag k lane v s s') (x : Edge) :
    Alongside tag k lane v (s.leadingEdge k x) (s'.leadingEdge k x) := by
  unfold State.leadingEdge
  rw [h.read State.train fun _ => rfl, h.read State.inWindow fun _ => rfl, h.read State.inFootprint fun _ => rfl,
    h.read (fun u => u.eye x.eye) fun _ => rfl]
  dsimp only
  split
  · rw [h.read (fun u => u.capture x) fun _ => rfl]
    exact h.advanceLead (fun _ => awaited_past k) ..
  · split
    · exact h
    · split
      · exact h
      · exact h.stray x

theorem verdict (h : Alongside tag k lane v s s') (r : Record) (m : Nat) (x : Edge) :
    Alongside tag k lane v (s.verdict r m x) (s'.verdict r m x) := by
  unfold State.verdict
  rw [h.read (fun u => u.outOfTolerance r m) fun _ => rfl, h.read (fun u => u.capture x) fun _ => rfl,
    h.read (fun u => u.eye x.eye) fun _ => rfl]
  split
  · exact h
  · split
    · exact (h.updateRecord r.tag (fun y => { y with flags := { y.flags with length := true } })
        fun _ => ⟨rfl, rfl, rfl⟩).recordFault _
    · exact h

theorem measured (h : Alongside tag k lane v s s') (r : Record) (j : Checkpoint) (x : Edge) :
    Alongside tag k lane v (s.measured r j x) (s'.measured r j x) := by
  unfold State.measured
  rw [h.read (fun u => u.measure r j x) fun _ => rfl]
  cases s.measure r j x with
  | none => exact h
  | some m =>
    have judged := (h.updateRecord r.tag (fun y => { y with measured := some m }) fun _ => ⟨rfl, rfl, rfl⟩).verdict r m x
    dsimp only
    split
    · exact judged.extendDivert r m
    · exact judged

theorem reckonExitIfPassed (h : Alongside tag k lane v s s') {y : Tag}
    (hwaits : (∃ w ∈ s.waiting, w.tag = tag) → y ≠ tag) :
    Alongside tag k lane v (s.reckonExitIfPassed y) (s'.reckonExitIfPassed y) := by
  unfold State.reckonExitIfPassed
  rw [h.findRecord]
  cases hr : s.findRecord y with
  | none => exact h
  | some r =>
    obtain ⟨-, rfl⟩ := findRecord_some s hr
    dsimp only
    rw [h.read State.role fun _ => rfl, h.read (fun u => u.eyeAt .exit r.lane) fun _ => rfl,
      h.read (fun u => u.pos .b) fun _ => rfl]
    split
    · exact (h.replaceRecord { r with stage := .leaving, lead := some r.p } (fun _ => (awaited_past k).2) hwaits).exitSteps
        r.tag none
    · exact h

/-- A record other than the one that waits moves on at a trailing edge. -/
theorem advanceTrail (h : Alongside tag k lane v s s') {before : Record}
    (hwaits : (∃ w ∈ s.waiting, w.tag = tag) → before.tag ≠ tag) :
    Alongside tag k lane v (s.advanceTrail before k) (s'.advanceTrail before k) := by
  unfold State.advanceTrail
  rw [h.findRecord]
  cases hr : s.findRecord before.tag with
  | none => exact h
  | some r =>
    obtain ⟨-, htag⟩ := findRecord_some s hr
    rw [← htag] at hwaits
    cases k with
    | feed => exact (h.replaceRecord { r with stage := .inside } (fun _ => rfl) hwaits).clearIfMoved before
    | entry => exact (h.replaceRecord { r with stage := .inside } (fun _ => rfl) hwaits).reckonExitIfPassed hwaits
    | exit => exact h.removeRecord r .departed none
    | outlet => exact (h.replaceRecord { r with stage := .leaving } (fun _ => rfl) hwaits).departIfMoved before

theorem trailingEdge (h : Alongside tag k lane v s s') (hv : s.waiting = v.waiting) (x : Edge) :
    Alongside tag k lane v (s.trailingEdge k x) (s'.trailingEdge k x) := by
  have taken : ∀ lane' y, y ∈ s.train → s.takesTrail k lane' y = true → (∃ w ∈ v.waiting, w.tag = tag) → y.tag ≠ tag := by
    rintro lane' y hy takes ⟨w, hw, hwtag⟩ hytag
    obtain ⟨-, -, -, ⟨-, -, stage⟩ | ⟨waits, -⟩⟩ := h
    · obtain ⟨awaits, -⟩ := stage y hy hytag
      unfold State.takesTrail Record.awaitsTrail at takes
      cases k <;> cases hstage : y.stage <;> simp_all [Checkpoint.awaited]
    · exact waits w (hv ▸ hw) hwtag
  unfold State.trailingEdge
  rw [h.read State.train fun _ => rfl, h.read State.takesTrail fun _ => rfl, h.read (fun u => u.eye x.eye) fun _ => rfl,
    h.read State.pairedWith fun _ => rfl]
  dsimp only
  split
  · exact h
  · rename_i r hfind
    have pairs : ∀ y ∈ s.pairedWith r k (s.eye x.eye).set.lane, (∃ w ∈ v.waiting, w.tag = tag) → y.tag ≠ tag := fun y hy => by
      unfold State.pairedWith at hy
      split at hy
      · obtain ⟨hmem, hy⟩ := List.mem_filter.mp hy
        simp only [Bool.and_eq_true] at hy
        obtain ⟨-, takes⟩ := hy
        exact taken _ y hmem takes
      · cases hy
    have held : ∀ {u u'}, Alongside tag k lane v u u' → (∃ w ∈ u.waiting, w.tag = tag) → ∃ w ∈ v.waiting, w.tag = tag :=
      fun hu ⟨w, hw, hwtag⟩ => ⟨w, hu.sub.subset hw, hwtag⟩
    have measured := h.measured r k x
    have first := measured.advanceTrail fun hw =>
      taken _ r (List.mem_of_find?_eq_some hfind) (List.find?_some hfind) (held measured hw)
    generalize s.pairedWith r k (s.eye x.eye).set.lane = others at *
    generalize (s.measured r k x).advanceTrail r k = u at *
    generalize (s'.measured r k x).advanceTrail r k = u' at *
    induction others generalizing u u' with
    | nil => exact first
    | cons y others ih =>
      exact ih (fun z hz => pairs z (List.mem_cons_of_mem _ hz)) _ _
        (first.advanceTrail fun hw => pairs y List.mem_cons_self (held first hw))

/-- An edge at an eye of the checkpoint. -/
theorem edge (h : Alongside tag k lane v s s') (hv : s.waiting = v.waiting) (hk : (s.eye x.eye).set.function.checkpoint = some k) :
    Alongside tag k lane v (s.edge x) (s'.edge x) := by
  unfold State.edge
  rw [h.read (fun u => u.eye x.eye) fun _ => rfl, hk]
  dsimp only
  split
  · exact h.leadingEdge x
  · exact h.trailingEdge hv x

end Alongside

end Sys2Proof.Machine
end

section
namespace Sys2Proof.Machine

variable {s s' t t' : State} {tag : Tag} {k j : Checkpoint} {lane : Lane} {v : State} {r : Record} {x : Edge}
  {e : EyeIx} {w : Waiting}

namespace Alongside

/-! ### The decision of another waiting closure in both runs -/

theorem stopWaiting (h : Alongside tag k lane v s s') {y : Tag} (hy : y ≠ tag) :
    Alongside tag k lane v (s.stopWaiting y) (s'.stopWaiting y) := by
  refine h.others ?_ rfl List.filter_sublist (fun w hw htag => mem_stopWaiting hw (by rw [htag]; exact hy.symm)) fun _ _ => Iff.rfl
  rw [h.same, stopWaiting_twice]

theorem exitDoubleMark (h : Alongside tag k lane v s s') (pre : Record) (j : Checkpoint) :
    Alongside tag k lane v (s.exitDoubleMark pre j) (s'.exitDoubleMark pre j) := by
  unfold State.exitDoubleMark
  rw [h.read (fun u => u.handoffQueued pre.tag) fun _ => rfl]
  split
  · exact h.offerOrDrop ..
  · exact h

theorem passOn (h : Alongside tag k lane v s s') {y : Tag} (hy : y ≠ tag) (j : Checkpoint) (e : EyeIx) :
    Alongside tag k lane v (s.passOn y j e) (s'.passOn y j e) := by
  unfold State.passOn
  rw [h.findRecord]
  cases hr : s.findRecord y with
  | none => exact h
  | some r =>
    obtain ⟨-, rfl⟩ := findRecord_some s hr
    dsimp only
    rw [h.read (fun u => u.eye e) fun _ => rfl, h.read (fun u => u.pos .b) fun _ => rfl]
    exact h.advanceLead (fun hrt => absurd hrt hy) ..

theorem decideClosure (h : Alongside tag k lane v s s') (hr : r.tag ≠ tag) (j : Checkpoint) (e : EyeIx) (closing : Pos) :
    Alongside tag k lane v (s.decideClosure r j e closing) (s'.decideClosure r j e closing) := by
  have doubled : ∀ y : Record, y.doubled.tag = y.tag ∧ y.doubled.stage = y.stage ∧ y.doubled.lane = y.lane :=
    fun _ => ⟨rfl, rfl, rfl⟩
  unfold State.decideClosure
  rw [h.read (fun u => u.eye e) fun _ => rfl, h.read State.train fun _ => rfl]
  cases (s.eye e).accepted with
  | clear =>
    dsimp only
    unfold State.miss
    rw [h.read (fun u => u.missCause r j e) fun _ => rfl]
    exact h.removeRecord ..
  | blocked =>
    dsimp only
    split
    · exact h.passOn hr j e
    · rename_i pre _
      exact ((((h.updateRecord pre.tag Record.doubled doubled).updateRecord r.tag Record.doubled doubled).exitDoubleMark
        pre j).recordFault _).passOn hr j e

theorem redecide (h : Alongside tag k lane v s s') (hw : w.tag ≠ tag) : Alongside tag k lane v (s.redecide w) (s'.redecide w) := by
  unfold State.redecide
  rw [h.findRecord]
  cases hr : s.findRecord w.tag with
  | none => exact h
  | some r =>
    obtain ⟨-, htag⟩ := findRecord_some s hr
    dsimp only
    rw [h.read (fun u => u.windowOf r) fun _ => rfl, h.read State.pos fun _ => rfl]
    cases s.windowOf r with
    | none => exact h
    | some z =>
      obtain ⟨j, e, closing⟩ := z
      dsimp only
      split
      · exact h
      · exact h.decideClosure (by rw [htag]; exact hw) j e closing

theorem decideWaiting (h : Alongside tag k lane v s s') (hw : w.tag ≠ tag) :
    Alongside tag k lane v (s.decideWaiting w) (s'.decideWaiting w) := by
  have still : (s'.waiting.any fun y => y.tag == w.tag) = s.waiting.any fun y => y.tag == w.tag := by
    rw [h.same]
    unfold State.stopWaiting
    rw [List.any_filter]
    refine List.any_congr rfl fun y => ?_
    by_cases hy : y.tag = w.tag
    · simp [hy, hw]
    · simp [hy]
  unfold State.decideWaiting
  rw [still]
  split
  · exact ((h.stopWaiting hw).redecide hw).refresh
  · exact h

theorem decideAll (h : Alongside tag k lane v s s') {ws : List Waiting} (hws : ∀ w ∈ ws, w.tag ≠ tag) :
    Alongside tag k lane v (ws.foldl State.decideWaiting s) (ws.foldl State.decideWaiting s') := by
  induction ws generalizing s s' with
  | nil => exact h
  | cons w ws ih =>
    exact ih (h.decideWaiting (hws w List.mem_cons_self)) fun y hy => hws y (List.mem_cons_of_mem _ hy)

end Alongside

end Sys2Proof.Machine
end

section
namespace Sys2Proof.Machine

variable {s t : State} {tag : Tag} {k : Checkpoint} {lane : Lane} {e : EyeIx} {c : Candidate} {y : Eye} {high : Bool}
  {cmd : Instr}

/-! ### The end of a candidate (R22, R23, R84) -/

theorem exec_trainSound (hs : s.TrainSound) (h : exec cmd s = .next t) : t.TrainSound := by
  have good : Good s.StagesInOrder False 0 s := ⟨hs, id, fun hf => hf.elim⟩
  obtain ⟨kept, -⟩ := exec_good (fun hf => hf.elim) (by decide) good h
  exact kept.sound

theorem setEye_twice (s : State) (e : EyeIx) (x z : Eye) : (s.setEye e x).setEye e z = s.setEye e z := by
  unfold State.setEye
  dsimp only
  rw [Vector.set_set]

/-- A sample that returns to the accepted level discards the candidate (R22). -/
theorem exec_candidateDiscarded (hruns : s.eyeRuns e = true) (hc : (s.eye e).candidate = some c)
    (hd : c.dist < (s.eye e).set.filter) (hy : y = { s.eye e with pinHigh := high, candidate := none })
    (hraw : y.raw = y.accepted) : exec (.eyeRawChange e high) s = .next ((s.setEye e y).candidateEnded e).refresh := by
  have early : (s.eye e).acceptDue = false := by simp [Eye.acceptDue, hc, Nat.not_le.mpr hd]
  have still : s.acceptIfDue e = s := by
    unfold State.acceptIfDue
    rw [hc]
    dsimp only
    rw [early, Bool.and_false]
    rfl
  have sampled : State.filterSample (s.setEye e { s.eye e with pinHigh := high }) e = (s.setEye e y).candidateEnded e := by
    have level : ({ s.eye e with pinHigh := high } : Eye).raw = ({ s.eye e with pinHigh := high } : Eye).accepted := by
      rw [hy] at hraw
      exact hraw
    unfold State.filterSample
    rw [setEye_eye]
    dsimp only
    rw [if_pos level, hc]
    dsimp only
    rw [setEye_twice, hy]
  have runs : State.eyeRuns (s.setEye e { s.eye e with pinHigh := high }) e = true := by
    unfold State.eyeRuns at hruns ⊢
    rw [setEye_eye]
    exact hruns
  have taken : s.onEyeRawChange e high = ((s.setEye e y).candidateEnded e).refresh := by
    unfold State.onEyeRawChange
    rw [still]
    dsimp only
    rw [if_pos runs, sampled]
  exact congrArg Host.Outcome.next taken

/-- The level accepted, and its edge where it is delivered (R23). -/
def State.levelTaken (s : State) (e : EyeIx) (c : Candidate) : State :=
  let s1 := s.setEye e ((s.eye e).become c.level)
  if s1.delivers e then (s1.edge (c.edge e)).refresh else s1

theorem exec_candidateAccepted (hruns : s.eyeRuns e = true) (hc : (s.eye e).candidate = some c)
    (hd : (s.eye e).set.filter ≤ c.dist) :
    exec (.edgeAccepted e) s = .next ((s.levelTaken e c).candidateEnded e).refresh := by
  have due : (s.eye e).acceptDue = true := by simp [Eye.acceptDue, hc, hd]
  have taken : s.onEdgeAccepted e = ((s.levelTaken e c).candidateEnded e).refresh := by
    unfold State.onEdgeAccepted State.acceptIfDue
    rw [hruns, due, hc]
    dsimp only
    rw [if_pos (by rfl), if_pos (by rfl)]
    rfl
  exact congrArg Host.Outcome.next taken

/-! #### What is left as the closures are decided -/

theorem outputsFollow_of_calmer (h : s.Calmer t) (hs : s.OutputsFollow) (hc : t.channels = s.channels) : t.OutputsFollow := by
  obtain ⟨hshown, hres⟩ := hs
  have channel : ∀ c, t.channel c = s.channel c := fun c => by rw [State.channel, hc, State.channel]
  exact ⟨fun c => by rw [channel, h.shown]; exact hshown c, fun g hg => h.ownReservation (hres g (h.suspended g hg))⟩

/-- Where the outputs follow, ALERT alone is left to follow. -/
theorem refresh_of_outputs (h : s.OutputsFollow) : s.refresh = s.alertAfresh := by
  obtain ⟨hshown, hres⟩ := h
  rw [refresh_unwithdrawn s hres, outputsAfresh_shown s hshown]

theorem outputsFollow_refresh (s : State) : s.refresh.OutputsFollow := outputsFollow_of_pins (refresh_pinsFollow s)

theorem pinsFollow_decideAll (hs : s.PinsFollow) (ws : List Waiting) : (ws.foldl State.decideWaiting s).PinsFollow := by
  refine List.foldlRecOn (motive := State.PinsFollow) _ _ hs fun u hu w _ => ?_
  unfold State.decideWaiting
  split
  · exact refresh_pinsFollow _
  · exact hu

theorem outputsFollow_decideAll (hs : s.OutputsFollow) (ws : List Waiting) : (ws.foldl State.decideWaiting s).OutputsFollow := by
  refine List.foldlRecOn (motive := State.OutputsFollow) _ _ hs fun u hu w _ => ?_
  unfold State.decideWaiting
  split
  · exact outputsFollow_refresh _
  · exact hu

end Sys2Proof.Machine
end

section
namespace Sys2Proof.Machine

variable {s t u : State} {tag : Tag} {k : Checkpoint} {lane : Lane} {e : EyeIx} {c : Candidate} {y : Eye} {high : Bool}
  {cmd : Instr} {w : Waiting} {r : Record}

/-- The command ends the candidate c of an eye, and leaves the eye as y: it discards the candidate or accepts it. -/
abbrev State.EndsCandidate (s : State) (e : EyeIx) (high : Bool) (c : Candidate) (cmd : Instr) (y : Eye) : Prop :=
  (cmd = .eyeRawChange e high ∧ c.dist < (s.eye e).set.filter ∧
      y = { s.eye e with pinHigh := high, candidate := none } ∧ y.raw = y.accepted) ∨
    (cmd = .edgeAccepted e ∧ (s.eye e).set.filter ≤ c.dist ∧ y = (s.eye e).become c.level)

theorem alongside_start (h : s.Awaits tag k lane) (e : EyeIx) (y : Eye) :
    Alongside tag k lane (s.setEye e y) (s.setEye e y) ((s.setEye e y).stopWaiting tag) := by
  obtain ⟨waits, stands, stage⟩ := h
  exact ⟨rfl, rfl, List.Sublist.refl _, .inl ⟨waits, stands, stage⟩⟩

/-- The level taken in both runs. -/
theorem levelTaken_alongside (hf : (s.eye e).set.function = k.function) (h : s.Awaits tag k lane) (c : Candidate) :
    Alongside tag k lane (s.setEye e ((s.eye e).become c.level)) (s.levelTaken e c) ((s.stopWaiting tag).levelTaken e c) := by
  have start := alongside_start h e ((s.eye e).become c.level)
  have at_ : (State.eye (s.setEye e ((s.eye e).become c.level)) (c.edge e).eye).set.function.checkpoint = some k := by
    have here : (c.edge e).eye = e := rfl
    rw [here, setEye_become_set s e c.level e, hf, function_checkpoint]
  have other : (s.stopWaiting tag).setEye e (((s.stopWaiting tag).eye e).become c.level) =
      (s.setEye e ((s.eye e).become c.level)).stopWaiting tag := rfl
  have delivers : ∀ z : State, (z.stopWaiting tag).delivers e = z.delivers e := fun _ => rfl
  unfold State.levelTaken
  dsimp only
  rw [other, delivers]
  split
  · exact (start.edge rfl at_).refresh
  · exact start

/-- With and without a waiting closure: up to the decisions both runs do the same. -/
theorem candidate_ends (hp : s.PinsFollow) (hruns : s.eyeRuns e = true) (hc : (s.eye e).candidate = some c)
    (hf : (s.eye e).set.function = k.function) (hends : s.EndsCandidate e high c cmd y) :
    ∃ v : State, exec cmd s = .next (v.candidateEnded e).refresh ∧ v.OutputsFollow ∧ (y.accepted = .blocked → v.PinsFollow) ∧
      v.outside = s.outside ∧
      ∀ tag lane, s.Awaits tag k lane → Alongside tag k lane (s.setEye e y) v (v.stopWaiting tag) ∧
        exec cmd (s.stopWaiting tag) = .next ((v.stopWaiting tag).candidateEnded e).refresh := by
  have follows := outputsFollow_of_pins hp
  obtain ⟨rfl, hd, hy, hraw⟩ | ⟨rfl, hd, rfl⟩ := hends
  · have pins : (s.setEye e y).PinsFollow := hp.setEye (by rw [hy]; exact ⟨rfl, fun _ => rfl, rfl⟩)
    refine ⟨s.setEye e y, exec_candidateDiscarded hruns hc hd hy hraw, outputsFollow_of_pins pins, fun _ => pins, rfl,
      fun tag lane h => ⟨alongside_start h e y, ?_⟩⟩
    exact exec_candidateDiscarded (s := s.stopWaiting tag) hruns hc hd hy hraw
  · have checkpoint : (s.eye e).set.function ≠ .levelHold := by
      rw [hf]
      exact function_ne_levelHold k
    have both := fun tag lane (h : s.Awaits tag k lane) => levelTaken_alongside hf h c
    refine ⟨s.levelTaken e c, exec_candidateAccepted hruns hc hd, ?_, fun hblocked => ?_, ?_, fun tag lane h => ?_⟩
    · unfold State.levelTaken
      dsimp only
      split
      · exact outputsFollow_refresh _
      · exact outputsFollow_of_calmer (s := s)
          (calmer_of_view rfl (become_eyesCalmer checkpoint c.level) id id id (Nat.le_refl _)) follows rfl
    · have level : c.level = .blocked := by
        rw [← hblocked]
        cases c.level <;> rfl
      unfold State.levelTaken
      dsimp only
      split
      · exact refresh_pinsFollow _
      · refine hp.setEye ⟨become_set _ _, fun hhold => absurd hhold checkpoint, ?_⟩
        rw [level]
        rfl
    · unfold State.levelTaken
      dsimp only
      split
      · exact (refresh_outside _).trans (edge_outside ..)
      · rfl
    · have same := (both tag lane h).same
      have run := exec_candidateAccepted (s := s.stopWaiting tag) hruns hc hd
      rw [same] at run
      exact ⟨same ▸ both tag lane h, run⟩

/-! #### The last closure that waits -/

/-- The closures that still wait as the decisions begin: those before the last, and the last where it has not been taken out. -/
theorem waiting_split {before : List Waiting} {l l' : List Waiting} {p : Waiting → Bool} (hsub : l'.Sublist l)
    (hp : l.filter p = before ++ [w]) (honly : (l.filter fun v => v.tag == w.tag) = [w]) :
    ∃ b, (∀ v ∈ b, v.tag ≠ w.tag) ∧
      (l'.filter p = b ∧ (∀ v ∈ l', v.tag ≠ w.tag) ∨ l'.filter p = b ++ [w]) := by
  have alone : ∀ v ∈ before, v.tag ≠ w.tag := fun v hv hvtag => by
    have counted : ((before ++ [w]).filter fun v => v.tag == w.tag).length ≤ 1 := by
      rw [← hp, List.filter_comm, honly]
      exact List.length_filter_le ..
    have one : 1 ≤ (before.filter fun v => v.tag == w.tag).length :=
      List.length_pos_of_mem (List.mem_filter.mpr ⟨hv, by simpa using hvtag⟩)
    simp only [List.filter_append, List.length_append, List.filter_cons, beq_self_eq_true, if_true, List.filter_nil,
      List.length_cons, List.length_nil] at counted
    omega
  have kept := hsub.filter p
  rw [hp] at kept
  obtain ⟨b, m, hbm, hb, hm⟩ := List.sublist_append_iff.mp kept
  refine ⟨b, fun v hv => alone v (hb.subset hv), ?_⟩
  rw [hbm]
  obtain rfl | rfl := List.sublist_singleton.mp hm
  · refine .inl ⟨List.append_nil b, fun v hv hvtag => ?_⟩
    have mem : v ∈ l.filter fun v => v.tag == w.tag := List.mem_filter.mpr ⟨hsub.subset hv, by simpa using hvtag⟩
    rw [honly, List.mem_singleton] at mem
    have member : v ∈ l.filter p := by
      rw [hp, mem]
      exact List.mem_append_right _ List.mem_cons_self
    have left : v ∈ l'.filter p := List.mem_filter.mpr ⟨hv, (List.mem_filter.mp member).2⟩
    rw [hbm, List.append_nil] at left
    exact alone v (hb.subset left) hvtag
  · exact .inr rfl

end Sys2Proof.Machine
end

section
namespace Sys2Proof.Machine

variable {s t u v : State} {tag : Tag} {k j : Checkpoint} {lane : Lane} {e : EyeIx} {c : Candidate} {y : Eye} {high : Bool}
  {cmd : Instr} {w : Waiting} {r x : Record} {closing : Pos}

/-! ### The window of the record that waits (R81) -/

theorem awaitsAt_awaited (h : s.awaitsAt r = some k) : k.awaited r.stage = true := by
  unfold State.awaitsAt at h
  split at h
  · rename_i hstage
    split at h <;> cases h
    rw [hstage]
    rfl
  all_goals cases h
  all_goals simp_all [Checkpoint.awaited]

/-- At the tracker of a checkpoint a record at an awaited stage awaits that checkpoint, or it is a spacer. -/
theorem awaitsAt_of_awaited (hrole : s.role = some k.role) (h : k.awaited x.stage = true) :
    s.awaitsAt x = none ∨ s.awaitsAt x = some k := by
  unfold State.awaitsAt
  rw [hrole]
  cases k <;> cases hstage : x.stage <;> simp_all [Checkpoint.awaited, Checkpoint.role]

theorem windowOf_of_awaited (hrole : s.role = some k.role) (he : s.eyeAt k x.lane = some e) (h : k.awaited x.stage = true) :
    s.windowOf x = none ∨ ∃ closing, s.windowOf x = some (k, e, closing) := by
  unfold State.windowOf
  obtain none_ | some_ := awaitsAt_of_awaited hrole h
  · rw [none_]
    exact .inl rfl
  · rw [some_]
    dsimp only
    rw [he]
    exact .inr ⟨_, rfl⟩

theorem function_inj (h : k.function = j.function) : k = j := by
  cases k <;> cases j <;> simp_all [Checkpoint.function]

/-- A record past the checkpoint of an eye has no window there. -/
theorem windowOf_past (hf : (s.eye e).set.function = k.function) (h : k.awaited x.stage = false) :
    ((s.windowOf x).any fun z => z.2.1 == e) = false := by
  cases hw : s.windowOf x with
  | none => rfl
  | some z =>
    obtain ⟨j, i, closing⟩ := z
    refine Bool.eq_false_iff.mpr fun hi => ?_
    obtain rfl : i = e := by simpa using hi
    obtain ⟨hawaits, heye, -⟩ := windowOf_some hw
    obtain ⟨-, hj, -, -⟩ := eyeAt_some heye
    obtain rfl := function_inj (hf.symm.trans hj)
    rw [awaitsAt_awaited hawaits] at h
    cases h

/-- The record that waits at an eye awaits its checkpoint there. -/
theorem awaits_of_window (ht : s.TrainSound) (hw : w ∈ s.waiting)
    (hwin : ((s.findRecord w.tag).any fun x => (s.windowOf x).any fun z => z.2.1 == e) = true) :
    ∃ k lane, s.role = some k.role ∧ s.eyeAt k lane = some e ∧ (s.eye e).set.function = k.function ∧
      s.Awaits w.tag k lane := by
  obtain ⟨r, hr, hany⟩ := Option.any_eq_true _ _ |>.mp hwin
  obtain ⟨⟨k, i, closing⟩, hz, hi⟩ := Option.any_eq_true _ _ |>.mp hany
  obtain rfl : i = e := by simpa using hi
  obtain ⟨hawaits, heye, -⟩ := windowOf_some hz
  obtain ⟨hrole, -⟩ := awaitsAt_some hawaits
  obtain ⟨-, hf, -, -⟩ := eyeAt_some heye
  obtain ⟨hmem, htag⟩ := findRecord_some s hr
  obtain ⟨-, htags, -⟩ := ht
  refine ⟨k, r.lane, hrole, heye, hf, ⟨w, hw, rfl⟩, ⟨r, hmem, htag⟩, fun x hx hxtag => ?_⟩
  obtain rfl := List.inj_on_of_nodup_map htags hx hmem (hxtag.trans htag.symm)
  exact ⟨awaitsAt_awaited hawaits, rfl⟩

end Sys2Proof.Machine
end

section
namespace Sys2Proof.Machine

variable {s t u v : State} {tag : Tag} {k j : Checkpoint} {lane : Lane} {e : EyeIx} {c : Candidate} {y : Eye} {high : Bool}
  {cmd : Instr} {w : Waiting} {r x : Record} {closing : Pos} {before : List Waiting}

/-! ### The last closure decided (R84 to R87) -/

/-- What the run without the last closure comes to before what follows it, and what the run with it makes of that. -/
structure LastWaiting (s : State) (w : Waiting) (k : Checkpoint) (lane : Lane) (v : State) (cmd : Instr) (u q : State) :
    Prop where
  follows : q.OutputsFollow
  without : u = q.refresh
  outside : q.outside = s.outside
  eyes : q.eyes = v.eyes
  alone : ∀ x ∈ q.waiting, x.tag ≠ w.tag
  decides : (exec cmd s = .next u ∧ ∀ x ∈ q.train, x.tag = w.tag → k.awaited x.stage = false) ∨
    (exec cmd s = .next (q.redecide w).refresh ∧ (∃ x ∈ q.train, x.tag = w.tag) ∧
      ∀ x ∈ q.train, x.tag = w.tag → k.awaited x.stage = true ∧ x.lane = lane)

/-- What a closure that waited comes to, once no longer waiting, at a record with a window (R84). -/
theorem redecide_of_window (hr : s.findRecord w.tag = some r) (hz : s.windowOf r = some (k, e, closing)) :
    s.redecide w = if (w.widened && !atOrPast (s.pos r.basis) closing) = true then s else s.decideClosure r k e closing := by
  unfold State.redecide
  rw [hr]
  dsimp only
  rw [hz]

theorem candidateEnded_live (h : s.live = true) (e : EyeIx) :
    s.candidateEnded e = (s.waiting.filter fun w => w.eye == e).foldl State.decideWaiting s := by
  unfold State.candidateEnded
  rw [h]
  rfl

theorem stopWaiting_none_of (h : ∀ x ∈ s.waiting, x.tag ≠ tag) : s.stopWaiting tag = s := by
  have all : (s.waiting.filter fun x => x.tag != tag) = s.waiting := List.filter_eq_self.mpr fun x hx => by simpa using h x hx
  unfold State.stopWaiting
  rw [all]

theorem lastWaiting (hp : s.PinsFollow) (hlive : s.live = true) (hruns : s.eyeRuns e = true)
    (hc : (s.eye e).candidate = some c) (hends : s.EndsCandidate e high c cmd y) (hf : (s.eye e).set.function = k.function)
    (hawaits : s.Awaits w.tag k lane) (hw : (s.waiting.filter fun x => x.eye == e) = before ++ [w])
    (honly : (s.waiting.filter fun x => x.tag == w.tag) = [w]) (hu : exec cmd (s.stopWaiting w.tag) = .next u) :
    ∃ q, LastWaiting s w k lane (s.setEye e y) cmd u q ∧ (y.accepted = .blocked → q.PinsFollow) := by
  obtain ⟨v, hrun, vfollows, vpins, voutside, both⟩ := candidate_ends hp hruns hc hf hends
  obtain ⟨along, hrun'⟩ := both w.tag lane hawaits
  have vlive : v.live = true := by
    unfold State.live at hlive ⊢
    rw [mode_of_outside voutside]
    exact hlive
  obtain ⟨b, hb, split⟩ := waiting_split along.sub hw honly
  have alive' : (v.stopWaiting w.tag).live = true := vlive
  have others : ((v.stopWaiting w.tag).waiting.filter fun x => x.eye == e) = b := by
    have filtered : ((v.stopWaiting w.tag).waiting.filter fun x => x.eye == e) =
        (v.waiting.filter fun x => x.eye == e).filter fun x => x.tag != w.tag := List.filter_comm ..
    have kept : (b.filter fun x => x.tag != w.tag) = b := List.filter_eq_self.mpr fun x hx => by simpa using hb x hx
    rw [filtered]
    obtain ⟨all, -⟩ | last := split
    · rw [all, kept]
    · rw [last, List.filter_append, kept]
      simp
  rw [candidateEnded_live vlive] at hrun
  rw [candidateEnded_live alive', others] at hrun'
  obtain rfl : _ = u := Host.Outcome.next.inj (hrun'.symm.trans hu)
  have decided := along.decideAll hb
  have first : (b.foldl State.decideWaiting v).OutputsFollow := outputsFollow_decideAll vfollows b
  have pins : y.accepted = .blocked → (b.foldl State.decideWaiting v).PinsFollow := fun hy => pinsFollow_decideAll (vpins hy) b
  have outside : (b.foldl State.decideWaiting v).outside = s.outside :=
    (foldl_outside _ (fun s w => decideWaiting_outside s w) b v).trans voutside
  have early : (∀ x ∈ v.waiting, x.tag ≠ w.tag) → b.foldl State.decideWaiting (v.stopWaiting w.tag) =
      b.foldl State.decideWaiting v := fun all => by rw [stopWaiting_none_of all]
  refine ⟨b.foldl State.decideWaiting (v.stopWaiting w.tag), ?_⟩
  have runs : exec cmd s = .next (b.foldl State.decideWaiting v).refresh ∧ (∀ x ∈ v.waiting, x.tag ≠ w.tag) ∨
      exec cmd s = .next ((b.foldl State.decideWaiting v).decideWaiting w).refresh := by
    rw [hrun]
    obtain ⟨all, gone⟩ | last := split
    · rw [all]
      exact .inl ⟨rfl, gone⟩
    · rw [last, List.foldl_append]
      exact .inr rfl
  obtain ⟨same, eyes, -, place⟩ := decided
  rw [same] at early ⊢
  generalize b.foldl State.decideWaiting v = q at *
  have alone : ∀ x ∈ (q.stopWaiting w.tag).waiting, x.tag ≠ w.tag := fun x hx => by simpa using (List.mem_filter.mp hx).2
  refine ⟨⟨first, rfl, outside, eyes, alone, ?_⟩, pins⟩
  obtain ⟨⟨x, hx, hxtag⟩, stands, stage⟩ | ⟨waits, stage⟩ := place
  · obtain ⟨-, gone⟩ | run := runs
    · rw [← early gone] at hx
      exact absurd hxtag (alone x hx)
    · refine .inr ⟨?_, stands, stage⟩
      have found : (q.waiting.any fun y => y.tag == w.tag) = true := List.any_eq_true.mpr ⟨x, hx, by simpa using hxtag⟩
      rw [run]
      unfold State.decideWaiting
      rw [if_pos found, refresh_refresh]
  · refine .inl ⟨?_, stage⟩
    have gone : (q.waiting.any fun y => y.tag == w.tag) = false := List.any_eq_false.mpr fun x hx => by simpa using waits x hx
    have still : q.decideWaiting w = q := by
      unfold State.decideWaiting
      rw [gone]
      rfl
    rw [stopWaiting_none_of waits]
    obtain ⟨run, -⟩ | run := runs
    · exact run
    · rw [run, still]

/-- What becomes of the last closure, said from the state u that the command leaves without it. -/
theorem lastWaiting_decided (hp : s.PinsFollow) (ht : s.TrainSound) (hlive : s.live = true) (hruns : s.eyeRuns e = true)
    (hc : (s.eye e).candidate = some c) (hends : s.EndsCandidate e high c cmd y)
    (hw : (s.waiting.filter fun x => x.eye == e) = before ++ [w])
    (honly : (s.waiting.filter fun x => x.tag == w.tag) = [w])
    (hwin : ((s.findRecord w.tag).any fun x => (s.windowOf x).any fun z => z.2.1 == e) = true)
    (hu : exec cmd (s.stopWaiting w.tag) = .next u) :
    let kept := (u.findRecord w.tag).filter fun x => (u.windowOf x).any fun z => z.2.1 == e
    (kept = none → exec cmd s = .next u) ∧
      (∀ x ∈ kept, ∀ z ∈ u.windowOf x,
        if w.widened = true ∧ atOrPast (u.pos x.basis) z.2.2 = false then exec cmd s = .next u
        else ∃ t, exec cmd s = .next t ∧ (y.accepted = .clear → u.Missed x z.1 e t) ∧
          (y.accepted = .blocked → u.PassedOn x z.1 e z.2.2 t)) := by
  intro kept
  have member : w ∈ s.waiting := by
    have : w ∈ s.waiting.filter fun x => x.eye == e := hw ▸ List.mem_append_right _ List.mem_cons_self
    exact List.mem_of_mem_filter this
  obtain ⟨k, lane, hrole, heye, hf, hawaits⟩ := awaits_of_window ht member hwin
  obtain ⟨q, ⟨follows, without, outside, eyes, alone, decides⟩, pins⟩ :=
    lastWaiting hp hlive hruns hc hends hf hawaits hw honly hu
  have sound : u.TrainSound := exec_trainSound (s := s.stopWaiting w.tag) ht hu
  have again := refresh_of_outputs follows
  have quiet : u = q.alertAfresh := without.trans again
  clear without
  subst quiet
  have qsound : q.TrainSound := sound
  have yset : y.set = (s.eye e).set := by
    obtain ⟨-, -, rfl, -⟩ | ⟨-, -, rfl⟩ := hends
    · rfl
    · exact become_set _ _
  have eye : q.eye e = y := by
    rw [State.eye, eyes]
    exact setEye_eye ..
  have sets : ∀ i, (q.eye i).set = (s.eye i).set := fun i => by
    by_cases hi : i = e
    · rw [hi, eye, yset]
    · have other : q.eye i = (s.setEye e y).eye i := by rw [State.eye, eyes, State.eye]
      rw [other, setEye_eye_ne _ _ hi]
  have role : q.role = some k.role := (role_of_outside outside).trans hrole
  have mem : ∀ x, q.findRecord w.tag = some x → x ∈ q.train ∧ x.tag = w.tag := fun x hx => findRecord_some q hx
  obtain ⟨run, past⟩ | ⟨run, ⟨x0, hx0, hx0tag⟩, stage⟩ := decides
  · refine ⟨fun _ => run, fun x hx => ?_⟩
    obtain ⟨hx, hz⟩ := Option.filter_eq_some_iff.mp hx
    obtain ⟨hmem, htag⟩ := mem x hx
    have none_ := windowOf_past (s := q) (by rw [sets e]; exact hf) (past x hmem htag)
    exact absurd (hz.symm.trans none_) (by simp)
  · obtain ⟨x, hx⟩ : ∃ x, q.findRecord w.tag = some x := by
      cases hx : q.findRecord w.tag with
      | some x => exact ⟨x, rfl⟩
      | none => exact absurd hx0tag (findRecord_none hx x0 hx0)
    obtain ⟨hmem, htag⟩ := mem x hx
    obtain ⟨awaited, hlane⟩ := stage x hmem htag
    have at_ : q.eyeAt k x.lane = some e := by
      rw [eyeAt_congr sets, hlane]
      exact heye
    obtain none_ | ⟨closing, hz⟩ := windowOf_of_awaited role at_ awaited
    · have still : q.redecide w = q := by
        unfold State.redecide
        rw [hx]
        dsimp only
        rw [none_]
      rw [still, again] at run
      refine ⟨fun _ => run, fun x' hx' => ?_⟩
      obtain ⟨hx', hz⟩ := Option.filter_eq_some_iff.mp hx'
      obtain rfl : x = x' := Option.some.inj (hx.symm.trans hx')
      have : ((q.windowOf x).any fun z => z.2.1 == e) = true := hz
      rw [none_] at this
      cases this
    · have here : kept = some x := Option.filter_eq_some_iff.mpr ⟨hx, by
        have : ((q.windowOf x).any fun z => z.2.1 == e) = true := by rw [hz]; simp
        exact this⟩
      refine ⟨fun hnone => (by rw [hnone] at here; cases here), fun x' hx' z hz' => ?_⟩
      obtain rfl : x = x' := Option.some.inj (here.symm.trans hx')
      obtain rfl : (k, e, closing) = z := Option.some.inj (hz.symm.trans hz')
      have redecided := redecide_of_window hx hz
      refine iteInduction (motive := id) (fun hahead => ?_) fun hdue => ?_
      · obtain ⟨hwide, hpos⟩ := hahead
        have ahead : (w.widened && !atOrPast (q.pos x.basis) closing) = true := by
          have : atOrPast (q.pos x.basis) closing = false := hpos
          simp [hwide, this]
        rw [redecided, if_pos ahead, again] at run
        exact run
      · have due : ¬ (w.widened && !atOrPast (q.pos x.basis) closing) = true := fun h => by
          have ahead : w.widened = true ∧ atOrPast (q.pos x.basis) closing = false := by simpa using h
          exact hdue ahead
        rw [redecided, if_neg due] at run
        refine ⟨_, run, fun hclear => ?_, fun hblocked => ?_⟩
        · rw [decideClosure_clear (by rw [eye]; exact hclear)]
          have missed : q.Missed x k e (q.miss x k e).refresh := miss_missed q x k e
          exact missed
        · have passed : q.PassedOn x k e closing (q.decideClosure x k e closing).refresh :=
            decideClosure_passedOn follows qsound (htag ▸ hx) hz (htag ▸ alone) (by rw [eye]; exact hblocked)
          have same : q.alertAfresh = q := again.symm.trans (refresh_follows q (pins hblocked))
          rw [same]
          exact passed

end Sys2Proof.Machine
end

section
namespace Sys2Proof.Machine

variable {s t u v : State} {tag : Tag} {k : Checkpoint} {e : EyeIx} {c : Candidate} {y : Eye} {high : Bool}
  {cmd : Instr} {w : Waiting} {r x : Record} {closing : Pos} {ws : List Waiting}

/-! ### Closures decided without an edge (R84 to R87) -/

/-- A candidate that ends without an edge leaves the eye alone changed as the closures are decided. -/
theorem candidate_ends_undelivered (hp : s.PinsFollow) (hruns : s.eyeRuns e = true) (hc : (s.eye e).candidate = some c)
    (hf : (s.eye e).set.function = k.function) (hends : s.EndsCandidate e high c cmd y)
    (hedge : cmd = .edgeAccepted e → (s.travel (s.eye e).set.input).reverse = true) :
    exec cmd s = .next ((s.setEye e y).candidateEnded e).refresh ∧ (s.setEye e y).OutputsFollow ∧ y.set = (s.eye e).set := by
  obtain ⟨rfl, hd, hy, hraw⟩ | ⟨rfl, hd, rfl⟩ := hends
  · have pins : (s.setEye e y).PinsFollow := hp.setEye (by rw [hy]; exact ⟨rfl, fun _ => rfl, rfl⟩)
    exact ⟨exec_candidateDiscarded hruns hc hd hy hraw, outputsFollow_of_pins pins, by rw [hy]⟩
  · have checkpoint : (s.eye e).set.function ≠ .levelHold := by
      rw [hf]
      exact function_ne_levelHold k
    have undelivered : (s.setEye e ((s.eye e).become c.level)).delivers e = false := by
      have reverse : State.travel (s.setEye e ((s.eye e).become c.level)) = s.travel := funext fun i => by cases i <;> rfl
      unfold State.delivers
      rw [setEye_become_set s e c.level e, reverse, hedge rfl, Bool.not_true, Bool.and_false]
    have run := exec_candidateAccepted hruns hc hd
    unfold State.levelTaken at run
    dsimp only at run
    rw [undelivered, if_neg (by decide)] at run
    exact ⟨run, outputsFollow_of_calmer (s := s)
      (calmer_of_view rfl (become_eyesCalmer checkpoint c.level) id id id (Nat.le_refl _)) (outputsFollow_of_pins hp) rfl,
      become_set _ _⟩

/-- What is left once the closures ws have been decided as misses, from a state b on. -/
structure MissedAll (b : State) (cause : Record → Byte) (ws : List Waiting) (u : State) : Prop where
  train : u.train = b.train.filter fun x => ws.all fun v => v.tag != x.tag
  waiting : u.waiting = b.waiting.filter fun x => ws.all fun v => v.tag != x.tag
  queue : u.queue = b.queue ++ ws.filterMap fun v => (b.findRecord v.tag).map fun x => TxFrame.new (.lost x.tag (cause x)) 0
  marked : u.CauseMarked
  follows : u.OutputsFollow
  frame : u = { b with
    train := u.train, trainCause := u.trainCause, waiting := u.waiting, freshWindows := u.freshWindows, lots := u.lots
    closureList := u.closureList, dests := u.dests, channels := u.channels, queue := u.queue, faults := u.faults
    overflow := u.overflow, alertPin := u.alertPin }

/-- The cause of a miss at a FEED length eye (R87). -/
def Record.feedCause (r : Record) (gate : GateIx) : Byte :=
  if r.flags.unverified then 2 else if r.flags.own ∧ r.gate = some gate then 4 else 1

theorem miss_feed (s : State) (r : Record) (e : EyeIx) : ∃ cause, s.miss r .feed e = s.removeRecord r cause (some (.eye e)) ∧
    cause.lostCode = some (r.feedCause (s.eye e).set.gate) ∧ cause ≠ .wrap := by
  obtain ⟨-, hlost, hwrap⟩ := missCause_codes s r .feed e
  refine ⟨s.missCause r .feed e, rfl, ?_, of_decide_eq_false hwrap⟩
  rw [hlost]
  unfold State.missCodes Record.feedCause
  rw [if_neg (by decide)]
  simp only [true_and]
  split
  · rfl
  · split <;> rfl

/-- One closure more decided as a miss. -/
theorem MissedAll.step {b : State} {cause : Record → Byte} (h : MissedAll b cause ws u)
    (hcause : ∀ x, cause x = x.feedCause (b.eye e).set.gate) (htags : (b.train.map (·.tag)).Nodup)
    (hclear : (b.eye e).accepted = .clear) (hfresh : ∀ v ∈ ws, v.tag ≠ w.tag) (hw : w ∈ b.waiting)
    (hr : b.findRecord w.tag = some r) (hz : b.windowOf r = some (.feed, e, closing))
    (hdue : (w.widened && !atOrPast (b.pos r.basis) closing) = false) (hroom : u.queue.length < 16) :
    MissedAll b cause (ws ++ [w]) (u.decideWaiting w) := by
  obtain ⟨train, waiting, queue, marked, follows, frame⟩ := h
  obtain ⟨hmem, htag⟩ := findRecord_some b hr
  have others : (ws.all fun v => v.tag != w.tag) = true := List.all_eq_true.mpr fun v hv => by simpa using hfresh v hv
  have member : r ∈ u.train := by
    rw [train, List.mem_filter]
    exact ⟨hmem, by rw [htag]; exact others⟩
  have found : u.findRecord w.tag = some r := by
    have nodup : (u.train.map (·.tag)).Nodup := by
      rw [train]
      exact htags.sublist (List.filter_sublist.map _)
    rw [← htag]
    exact findRecord_mem nodup member
  have waits : (u.waiting.any fun x => x.tag == w.tag) = true := by
    refine List.any_eq_true.mpr ⟨w, ?_, by simp⟩
    rw [waiting, List.mem_filter]
    exact ⟨hw, others⟩
  have window : u.windowOf r = some (.feed, e, closing) := by
    rw [frame]
    exact hz
  have pos : u.pos = b.pos := by
    rw [frame]
    exact funext fun i => by cases i <;> rfl
  have eye : u.eye e = b.eye e := by
    rw [frame]
    rfl
  obtain ⟨code, missed, lost, hwrap⟩ := miss_feed (u.stopWaiting w.tag) r e
  have decided : u.decideWaiting w = ((u.stopWaiting w.tag).removeRecord r code (some (.eye e))).refresh := by
    have redecided : (u.stopWaiting w.tag).redecide w = (u.stopWaiting w.tag).decideClosure r .feed e closing := by
      have found' : (u.stopWaiting w.tag).findRecord w.tag = some r := found
      have window' : (u.stopWaiting w.tag).windowOf r = some (.feed, e, closing) := window
      have pos' : (u.stopWaiting w.tag).pos r.basis = b.pos r.basis := congrFun pos _
      rw [redecide_of_window found' window', pos', hdue]
      rfl
    have clear : ((u.stopWaiting w.tag).eye e).accepted = .clear := (congrArg Eye.accepted eye).trans hclear
    unfold State.decideWaiting
    rw [if_pos waits, redecided, decideClosure_clear clear, missed]
  have removed := removeRecord_removedAs (u.stopWaiting w.tag) r code (some (.eye e))
  have outputs := (removed.calmer marked hwrap).refresh_follows (s := u.stopWaiting w.tag) follows
  have out : ((u.stopWaiting w.tag).removeRecord r code (some (.eye e))).train = u.train.filter fun x => x.tag != r.tag :=
    removed.train
  have stops : ((u.stopWaiting w.tag).removeRecord r code (some (.eye e))).waiting =
      (u.waiting.filter fun x => x.tag != w.tag).filter fun x => x.tag != r.tag := by
    rw [besideRemoval_frame removed.beside]
    rfl
  have alarm : ((u.stopWaiting w.tag).removeRecord r code (some (.eye e))).wrapAlarm = u.wrapAlarm :=
    removed.alarm.trans (by simp [hwrap]; rfl)
  have sent : ((u.stopWaiting w.tag).removeRecord r code (some (.eye e))).queue =
      u.queue ++ [TxFrame.new (.lost r.tag (cause r)) 0] := by
    have same : ((u.stopWaiting w.tag).eye e).set.gate = (b.eye e).set.gate := congrArg (fun x : Eye => x.set.gate) eye
    have := removed.queue
    rw [lost, same, ← hcause] at this
    exact this.trans (if_pos hroom)
  have marked' := removed.marked
  have left := removed.frame
  have refreshed := outputsFollow_refresh ((u.stopWaiting w.tag).removeRecord r code (some (.eye e)))
  have each : ∀ a : Tag, ((ws ++ [w]).all fun v => v.tag != a) = ((a != w.tag) && ws.all fun v => v.tag != a) := fun a => by
    rw [List.all_append, Bool.and_comm, bne_comm]
    simp
  rw [decided]
  clear removed decided
  generalize (u.stopWaiting w.tag).removeRecord r code (some (.eye e)) = z at *
  generalize (Vector.ofFn fun c => (u.stopWaiting w.tag).shown (z.channel c)) = pulses at *
  generalize z.refresh = z' at *
  have ztrain : z'.train = z.train := by rw [outputs]; rfl
  have zwaiting : z'.waiting = z.waiting := by rw [outputs]; rfl
  have zqueue : z'.queue = z.queue := by rw [outputs]; rfl
  refine ⟨?_, ?_, ?_, ?_, refreshed, ?_⟩
  · rw [ztrain, out, train, List.filter_filter, htag]
    simp only [each]
  · rw [zwaiting, stops, waiting, htag, List.filter_filter, List.filter_filter]
    simp only [each, Bool.and_self]
  · rw [zqueue, sent, queue, List.filterMap_append, List.append_assoc]
    simp [hr]
  · rw [outputs]
    exact marked'
  · rw [outputs, left, alarm, frame]
    rfl

end Sys2Proof.Machine
end

section
namespace Sys2Proof.Machine

variable {s t u v : State} {tag : Tag} {k : Checkpoint} {e : EyeIx} {c : Candidate} {y : Eye} {high : Bool}
  {cmd : Instr} {w : Waiting} {r x : Record} {closing : Pos} {ws : List Waiting}

/-! ### O30: the closures that wait on a candidate -/

/-- A closure that waits on a candidate of the eye and is decided when it ends (R84). -/
def State.Due (b : State) (e : EyeIx) (w : Waiting) : Prop :=
  w ∈ b.waiting ∧ ∃ r closing, b.findRecord w.tag = some r ∧ b.windowOf r = some (.feed, e, closing) ∧
    (w.widened && !atOrPast (b.pos r.basis) closing) = false

/-- All of them decided as misses, one after the other. -/
theorem missedAll_foldl {b : State} {cause : Record → Byte} (hcause : ∀ x, cause x = x.feedCause (b.eye e).set.gate)
    (htags : (b.train.map (·.tag)).Nodup) (hclear : (b.eye e).accepted = .clear) {ws done : List Waiting}
    (h : MissedAll b cause done u) (hnodup : ((done ++ ws).map (·.tag)).Nodup) (hdue : ∀ w ∈ ws, b.Due e w)
    (hroom : b.queue.length + (done ++ ws).length ≤ 16) : MissedAll b cause (done ++ ws) (ws.foldl State.decideWaiting u) := by
  induction ws generalizing u done with
  | nil => rw [List.append_nil]; exact h
  | cons w ws ih =>
    have split : done ++ w :: ws = (done ++ [w]) ++ ws := by simp
    obtain ⟨hw, r, closing, hr, hz, hahead⟩ := hdue w List.mem_cons_self
    have room : u.queue.length < 16 := by
      have sent := List.length_filterMap_le (fun v : Waiting => (b.findRecord v.tag).map fun x =>
        TxFrame.new (.lost x.tag (cause x)) 0) done
      rw [h.queue, List.length_append]
      rw [List.length_append, List.length_cons] at hroom
      omega
    have fresh : ∀ v ∈ done, v.tag ≠ w.tag := fun v hv htag => by
      rw [List.map_append, List.nodup_append] at hnodup
      obtain ⟨-, -, apart⟩ := hnodup
      exact apart v.tag (List.mem_map_of_mem hv) w.tag (List.mem_map_of_mem List.mem_cons_self) htag
    rw [split] at hnodup hroom ⊢
    exact ih (h.step hcause htags hclear fresh hw hr hz hahead room) hnodup
      (fun v hv => hdue v (List.mem_cons_of_mem _ hv)) hroom

theorem windowOf_setEye (h : y.set = (s.eye e).set) (x : Record) : (s.setEye e y).windowOf x = s.windowOf x := by
  have sets : ∀ i, ((s.setEye e y).eye i).set = (s.eye i).set := fun i => by
    by_cases hi : i = e
    · rw [hi, setEye_eye, h]
    · rw [setEye_eye_ne _ _ hi]
  have awaits : (s.setEye e y).awaitsAt x = s.awaitsAt x := rfl
  unfold State.windowOf
  rw [awaits, eyeAt_congr sets]
  simp only [sets]

/-- At a FEED tracker a record with a window at an eye is due as the statement of O30 says it. -/
theorem due_of_window {b : State} (hrole : b.role = some .feed) (hw : w ∈ b.waiting)
    (h : ((b.findRecord w.tag).any fun x =>
      (b.windowOf x).any fun z => z.2.1 == e && !(w.widened && !atOrPast (b.pos x.basis) z.2.2)) = true) : b.Due e w := by
  obtain ⟨r, hr, hany⟩ := Option.any_eq_true _ _ |>.mp h
  obtain ⟨⟨k, i, closing⟩, hz, hi⟩ := Option.any_eq_true _ _ |>.mp hany
  rw [Bool.and_eq_true, beq_iff_eq, Bool.not_eq_true'] at hi
  obtain ⟨rfl, hahead⟩ := hi
  obtain ⟨hawaits, -, -⟩ := windowOf_some hz
  obtain ⟨hk, -⟩ := awaitsAt_some hawaits
  have feed : k = .feed := by
    rw [hrole] at hk
    cases k with
    | feed => rfl
    | _ => cases hk
  exact ⟨hw, r, closing, hr, feed ▸ hz, hahead⟩

theorem missedAll_start {b : State} (cause : Record → Byte) (hm : b.CauseMarked) (h : b.OutputsFollow) : MissedAll b cause [] b where
  train := (List.filter_eq_self.mpr fun _ _ => rfl).symm
  waiting := (List.filter_eq_self.mpr fun _ _ => rfl).symm
  queue := (List.append_nil _).symm
  marked := hm
  follows := h
  frame := rfl

/-- A record that passes a FEED length eye with no other awaiting its trailing edge there moves to ENTERING alone (R85). -/
theorem passedOn_alone {e : EyeIx} (h : s.PassedOn r .feed e closing t)
    (hnone : (s.train.all fun x => !(x.stage == .entering && x.lane == r.lane)) = true) :
    t = State.alertAfresh { s with
      train := insertRecord { r with stage := .entering, lead := some (Pos.plus r.p (s.eye e).set.offset) }
        (s.train.filter fun x => x.tag != r.tag) } := by
  have alone : (s.train.find? fun y => y.awaitsTrail .feed && y.lane == r.lane && y.tag != r.tag) = none := by
    refine List.find?_eq_none.mpr fun x hx awaits => ?_
    have other : (!(x.stage == .entering && x.lane == r.lane)) = true := List.all_eq_true.mp hnone x hx
    rw [Bool.and_eq_true] at awaits
    rw [Bool.not_eq_true', show (x.stage == .entering && x.lane == r.lane) = true from awaits.1] at other
    cases other
  have passed := h.1 rfl
  rw [alone] at passed
  simpa using passed

/-- Settles O30: the last closure from the state that the command leaves without it; at a FEED length eye the whole
outcome of an end without an edge. -/
theorem waitingClosuresAreDecided : Obligations.WaitingClosuresAreDecided := by
  unfold Obligations.WaitingClosuresAreDecided
  intro s e high c cmd y w r closing before u hp ht hlive hruns hc discarded accepted waits decided cause ended
  have ends : discarded ∨ accepted → s.EndsCandidate e high c cmd y := id
  refine ⟨fun hform hw honly hwin hu => ?_, fun hform hrole hf => ?_⟩
  · exact lastWaiting_decided hp ht hlive hruns hc (ends hform) hw honly hwin hu
  · have hends : s.EndsCandidate e high c cmd y := hform.imp id And.left
    have hedge : cmd = .edgeAccepted e → (s.travel (s.eye e).set.input).reverse = true := fun hcmd => by
      obtain ⟨hraw, -⟩ | ⟨-, hrev⟩ := hform
      · rw [hraw] at hcmd
        cases hcmd
      · exact hrev
    obtain ⟨run, follows, yset⟩ := candidate_ends_undelivered (k := .feed) hp hruns hc hf hends hedge
    have run' : exec cmd s = .next (waits.foldl State.decideWaiting (s.setEye e y)).refresh := by
      rw [run, candidateEnded_live (s := s.setEye e y) hlive]
      rfl
    have window : ∀ x, (s.setEye e y).windowOf x = s.windowOf x := windowOf_setEye yset
    have pos : (s.setEye e y).pos = s.pos := funext fun i => by cases i <;> rfl
    refine ⟨fun hclear hnodup hroom hdue => ?_, fun hone hr hz => ?_⟩
    · have marked : (s.setEye e y).CauseMarked := ht.2.2.2.2.2.1
      have named : ∀ x, cause x = x.feedCause ((s.setEye e y).eye e).set.gate := fun x => by
        rw [setEye_eye, yset]
        rfl
      have due : ∀ v ∈ waits, (s.setEye e y).Due e v := fun v hv => by
        refine due_of_window (b := s.setEye e y) hrole (List.mem_of_mem_filter hv) ?_
        simp only [window, pos]
        exact hdue v hv
      obtain ⟨train, waiting, queue, -, after, frame⟩ := missedAll_foldl (ws := waits) (done := []) named ht.2.1
        (by rw [setEye_eye]; exact hclear) (missedAll_start cause marked follows) hnodup due hroom
      rw [refresh_of_outputs after] at run'
      have kept : ∀ x : Record, (waits.all fun v => v.tag != x.tag) = !decided x := fun x => by
        rw [List.not_any_eq_all_not]
        rfl
      refine ⟨_, run', train.trans (List.filter_congr fun x _ => kept x), queue, ?_⟩
      generalize waits.foldl State.decideWaiting (s.setEye e y) = z at *
      have left : z.waiting = ended.waiting := waiting
      rw [frame, left]
      rfl
    · obtain ⟨q, hq⟩ : ∃ q, q = (s.setEye e y).stopWaiting w.tag := ⟨_, rfl⟩
      have member : w ∈ s.waiting := List.mem_of_mem_filter (hone ▸ List.mem_cons_self : w ∈ waits)
      have fold : (waits.foldl State.decideWaiting (s.setEye e y)).refresh = (q.redecide w).refresh := by
        have waiting : ((s.setEye e y).waiting.any fun v => v.tag == w.tag) = true :=
          List.any_eq_true.mpr ⟨w, member, beq_self_eq_true _⟩
        rw [hone, List.foldl_cons, List.foldl_nil, State.decideWaiting, if_pos waiting, refresh_refresh, hq]
      have ends' : q = ended := by
        have same : (s.waiting.filter fun x => x.tag != w.tag) = s.waiting.filter fun x => waits.all fun v => v.tag != x.tag :=
          List.filter_congr fun x _ => by rw [hone, List.all_cons, List.all_nil, Bool.and_true, bne_comm]
        rw [hq]
        exact congrArg (fun l => { s.setEye e y with waiting := l }) same
      have found : q.findRecord w.tag = some r := hq ▸ hr
      have window' : q.windowOf r = some (.feed, e, closing) := hq ▸ (window r).trans hz
      have pos' : q.pos r.basis = s.pos r.basis := hq ▸ congrFun pos _
      have follows' : q.OutputsFollow := hq ▸ follows
      have sound : q.TrainSound := hq ▸ ht
      have eye : q.eye e = y := hq ▸ setEye_eye ..
      have left : ∀ v ∈ q.waiting, v.tag ≠ w.tag := fun v hv => by
        rw [hq] at hv
        exact bne_iff_ne.mp (List.mem_filter.mp hv).2
      obtain ⟨-, htag⟩ := findRecord_some s hr
      refine ⟨fun hwide hahead => ?_, fun hdue hblocked hnone => ?_⟩
      · rw [fold, redecide_of_window found window', if_pos (by rw [hwide, pos', hahead]; rfl), refresh_of_outputs follows', ends'] at run'
        exact run'
      · have due : ¬ (w.widened && !atOrPast (q.pos r.basis) closing) = true := fun h => by
          rw [Bool.and_eq_true, Bool.not_eq_true', pos'] at h
          obtain ⟨hwide, hahead⟩ := h
          obtain narrow | past := hdue
          · exact absurd (narrow.symm.trans hwide) (by decide)
          · exact absurd (past.symm.trans hahead) (by decide)
        have passed := passedOn_alone (decideClosure_passedOn follows' sound (htag.symm ▸ found) window' (htag.symm ▸ left)
          (by rw [eye]; exact hblocked)) (hq ▸ hnone)
        rw [fold, redecide_of_window found window', if_neg due, passed, eye, yset, ends'] at run'
        exact run'

end Sys2Proof.Machine
end
